-- ==== Sys2Proof/Word.lean ====
section
/-! DEFINITION. The words the part's ports carry and the clock it counts: bytes, 16-bit fields and part time. -/

namespace Sys2Proof

/-- One byte of a record on any port (R189). -/
abbrev Byte := BitVec 8

/-- A two-byte field (R189). -/
abbrev Half := BitVec 16

/-- Part time: a 32-bit count of ticks of 10 microseconds (R1). -/
abbrev Time := BitVec 32

end Sys2Proof
end

