-- ==== Sys2Proof/Config.lean ====
section
/-! DEFINITION. What the part fixes once and for all: the two surfaces, their grids and the capacities of its lists. -/

namespace Sys2Proof

/-- One of the two sensing areas (00_scope, "Surfaces and units"). -/
inductive Surface where
  | pad
  | panel
deriving DecidableEq, Repr

/-- Grid columns of a surface (00_scope, "Surfaces and units"; R3). -/
def Surface.columns : Surface → Nat
  | .pad => 24
  | .panel => 48

/-- Grid rows of a surface (00_scope, "Surfaces and units"; R3). -/
def Surface.rows : Surface → Nat
  | .pad => 16
  | .panel => 30

/-- The greatest x of a position on a surface, in sub-cell units (00_scope). -/
def Surface.maxX (u : Surface) : Nat := 64 * (u.columns - 1)

/-- The greatest y of a position on a surface, in sub-cell units (00_scope). -/
def Surface.maxY (u : Surface) : Nat := 64 * (u.rows - 1)

/-- The number of a surface's first track slot: slots 0 to 9 are the pad's, 10 to 19 the panel's (R48). -/
def Surface.firstSlot : Surface → Nat
  | .pad => 0
  | .panel => 10

/-- The surface's code on every port: 0 pad, 1 panel (R192). -/
def Surface.code : Surface → Nat
  | .pad => 0
  | .panel => 1

namespace Config

/-- Track slots of one surface (R48). -/
abbrev slotsPerSurface : Nat := 10
/-- Blobs kept by the ten-blob limit (R37). -/
abbrev blobLimit : Nat := 10
/-- Entries of palm memory (R78). -/
abbrev palmCapacity : Nat := 8
/-- Context slots (R121). -/
abbrev contextSlots : Nat := 6
/-- Digests in the digest queue (R17). -/
abbrev digestCapacity : Nat := 4
/-- Pairs in the watch list (R144). -/
abbrev watchCapacity : Nat := 4
/-- Records in the report queue, in total (R176). -/
abbrev queueCapacity : Nat := 32
/-- Ordinary records in the report queue (R176). -/
abbrev ordinaryCapacity : Nat := 28
/-- Shape rules in a SHAPE table (R161). -/
abbrev shapeCapacity : Nat := 32
/-- Templates in a PROGRAM table (R161). -/
abbrev templateCapacity : Nat := 16
/-- Transition rows in a PROGRAM table (R161). -/
abbrev rowCapacity : Nat := 256
/-- The longest management record a write may carry (R174). -/
abbrev longestWrite : Nat := 520
/-- The longest report record, in bytes from its kind byte (R189). -/
abbrev longestReport : Nat := 520

end Config

end Sys2Proof
end

