-- ==== Sys2Proof/Syntax.lean ====
section
/-! DEFINITION. The commands: one constructor for each row of spec/opcode_table.json, with the operands
the row's record, transfer or event carries. A management row stands for a complete write with a good
check that carries its record (log 4). -/

namespace Sys2Proof

/-- A command: a row of spec/opcode_table.json with its operands. -/
inductive Instr where
  /-- FRAME_START: a frame start record arrives on `port` (R3, R190). -/
  | frameStart (port : Surface) (frame : Half) (columns rows : Byte)
  /-- ROW_RECORD: a row record arrives; `body` is what follows its length byte (R4, R190). -/
  | rowRecord (port : Surface) (body : List Byte)
  /-- FRAME_END: a frame end record arrives (R5, R190). -/
  | frameEnd (port : Surface) (frame check : Half)
  /-- UNKNOWN_SCAN_RECORD: a record that is none of the four kinds, has a wrong length, or is a pen
  sample on the pad port (R2). -/
  | unknownScanRecord (port : Surface) (kind : Byte) (body : List Byte)
  /-- PEN_SAMPLE: a pen sample record arrives on the panel port (R8, R93, R190). -/
  | penSample (flags : Byte) (x y pressure : Half) (tiltX tiltY quality : Byte)
  /-- FRAME_TIMEOUT: the surface's frame timeout deadline is reached (R12). -/
  | frameTimeout (surface : Surface)
  /-- FRAME_OPERATION_BEGIN: the idle frame engine takes an item of its wait list (R14, R15). -/
  | frameOperationBegin
  /-- FRAME_OPERATION_COMPLETE: the work of the operation in flight is done (R16, R17). -/
  | frameOperationComplete
  /-- HELD_OPERATION_COMPLETE: the held operation finds room in the digest queue (R17). -/
  | heldOperationComplete
  /-- PALM_MEMORY_EXPIRY: the expiry deadline of the entry at this place from the head is reached (R84). -/
  | palmMemoryExpiry (entry : Nat)
  /-- PEN_GUARD_EXPIRY: the pen guard deadline is reached (R102). -/
  | penGuardExpiry
  /-- TIMER_DEADLINE_REACHED: the timer deadline of the context in this slot is reached (R134). -/
  | timerDeadlineReached (slot : Nat)
  /-- TIMER_EXPIRY_TAKEN: the engine takes the waiting expiry of the context in this slot (R134). -/
  | timerExpiryTaken (slot : Nat)
  /-- DIGEST_TAKEN: the engine takes and handles the oldest digest (R124, R126). -/
  | digestTaken
  /-- PEN_INK_TAKEN: the engine takes the waiting PEN_INK event (R140). -/
  | penInkTaken
  /-- PROGRAM_SWITCH: the engine takes the waiting program switch (R143). -/
  | programSwitch
  /-- STOP_COMPLETE: the drained frame engine completes the stop (R186). -/
  | stopComplete
  /-- READ_TRANSFER: a read transfer runs to its end; `extra` bytes are clocked after the record (R173). -/
  | readTransfer (extra : Nat)
  /-- READ_ENDED_EARLY: select is released with the head record unsent; `sent` is how many bytes the
  part had begun to send, its two length bytes included (R173). -/
  | readEndedEarly (sent : Nat)
  /-- BAD_TRANSFER_KIND: a transfer whose kind byte is neither read nor write (R173, R174). -/
  | badTransferKind (kind : Byte)
  /-- WRITE_TRANSFER: a write transfer; `bytes` is all the host sent after the kind byte (R174, R191). -/
  | writeTransfer (bytes : List Byte)
  /-- LOAD (R162). -/
  | load (tag kind part : Byte) (offset : Half) (entries : List Byte)
  /-- DISCARD (R163). -/
  | discard (tag : Byte)
  /-- CHECK (R166). -/
  | check (tag : Byte)
  /-- COMMIT (R167). -/
  | commit (tag : Byte)
  /-- RUN (R185). -/
  | run (tag : Byte)
  /-- STOP (R186). -/
  | stop (tag : Byte)
  /-- ABORT (R187). -/
  | abort (tag : Byte)
  /-- POSTURE in code form (R111). -/
  | postureCode (tag : Byte) (value : Half)
  /-- POSTURE in angle form (R112). -/
  | postureAngle (tag : Byte) (value : Half)
  /-- POSTURE whose form is neither code nor angle (R110). -/
  | postureBadForm (tag form : Byte) (value : Half)
  /-- RECAL (R30). -/
  | recal (tag surface : Byte)
  /-- QUERY of the condition record (R183). -/
  | queryCondition (tag : Byte)
  /-- QUERY of a surface's track slots (R70). -/
  | queryTrackTable (tag surface : Byte)
  /-- QUERY of the contexts (R146). -/
  | queryContexts (tag : Byte)
  /-- QUERY of the pen (R107). -/
  | queryPen (tag : Byte)
  /-- QUERY of the posture (R119). -/
  | queryPosture (tag : Byte)
  /-- QUERY of a baseline row (R32). -/
  | queryBaselineRow (tag surface row : Byte)
  /-- QUERY of a range of an active table (R183). -/
  | queryTableRange (tag kind part : Byte) (first count : Half)
  /-- QUERY with an unknown selector (R183). -/
  | queryBadSelector (tag selector : Byte)
  /-- WATCH (R144). -/
  | watch (tag template state : Byte)
  /-- UNWATCH (R144). -/
  | unwatch (tag template state : Byte)
  /-- CLEAR (R184). -/
  | clear (tag : Byte)
  /-- RESET (R188). -/
  | reset (tag : Byte)
  /-- A command code that names no command (R175). -/
  | unknownCommand (tag code : Byte)
  /-- POWER_ON (R188). -/
  | powerOn
  /-- RESET_PIN_ASSERT (R188). -/
  | resetPinAssert
  /-- RESET_PIN_RELEASE (R188). -/
  | resetPinRelease
  /-- DIGEST_HANDLING_END: the digest in hand leaves the digest queue (R124). -/
  | digestHandlingEnd
deriving DecidableEq, Repr

end Sys2Proof
end

