-- ==== Sys2Proof/Decode.lean ====
section
/-! DEFINITION. Bytes to commands and back (R189 to R193): scan port records, management records, the check
of R6, and `decodeTableWord` (the opcode table gives no row any bits, so it answers none; log 16). -/

namespace Sys2Proof

/-! ## Fields, most significant byte first (R189) -/

/-- A two-byte field from its bytes. -/
def joinBytes (hi lo : Byte) : Half := hi ++ lo

/-- The bytes of a two-byte field. -/
def halfBytes (h : Half) : List Byte := [h.extractLsb' 8 8, h.extractLsb' 0 8]

/-- One byte that carries a whole number in its low bits (log 26). -/
def byteOf (n : Nat) : Byte := BitVec.ofNat 8 n

/-- Two bytes that carry a whole number (log 26). -/
def natBytes2 (n : Nat) : List Byte := halfBytes (BitVec.ofNat 16 n)

/-- Four bytes that carry a 32-bit value. -/
def timeBytes (t : BitVec 32) : List Byte :=
  [t.extractLsb' 24 8, t.extractLsb' 16 8, t.extractLsb' 8 8, t.extractLsb' 0 8]

/-- Four bytes that carry a whole number (log 26). -/
def natBytes4 (n : Nat) : List Byte := timeBytes (BitVec.ofNat 32 n)

/-- One byte that carries a signed number in two's complement. -/
def intByte (i : Int) : Byte := BitVec.ofInt 8 i

/-- Two bytes that carry a signed number in two's complement. -/
def intBytes2 (i : Int) : List Byte := halfBytes (BitVec.ofInt 16 i)

/-- A flag as one byte: 1 for set and 0 for clear (R196). -/
def flagByte (b : Bool) : Byte := if b then 1 else 0

/-! ## The check (R6) -/

/-- The check register's value before any byte is fed (R6). -/
def checkStart : Half := 0xFFFF

/-- One bit fed to the check register, which shifts toward its most significant end (R6). -/
def checkBit (c : Half) (b : Bool) : Half :=
  if c.msb != b then (c <<< 1) ^^^ 0x1021 else c <<< 1

/-- One byte fed to the check register, most significant bit first (R6). -/
def checkByte (c : Half) (b : Byte) : Half :=
  [7, 6, 5, 4, 3, 2, 1, 0].foldl (fun c i => checkBit c (b.getLsbD i)) c

/-- Bytes fed to the check register in arrival order (R6). -/
def checkBytes (c : Half) (bs : List Byte) : Half := bs.foldl checkByte c

/-! ## Scan port records (R190) -/

/-- The command a scan record stands for, from its kind byte and what follows its length byte (R2, R190). -/
def decodeScan (port : Surface) (kind : Byte) (body : List Byte) : Instr :=
  match kind.toNat, body with
  | 1, [f1, f0, c, r] => .frameStart port (joinBytes f1 f0) c r
  | 2, body => .rowRecord port body
  | 3, [f1, f0, k1, k0] => .frameEnd port (joinBytes f1 f0) (joinBytes k1 k0)
  | 4, [flags, x1, x0, y1, y0, p1, p0, tx, ty, q] =>
    match port with
    | .panel => .penSample flags (joinBytes x1 x0) (joinBytes y1 y0) (joinBytes p1 p0) tx ty q
    | .pad => .unknownScanRecord port kind body
  | _, body => .unknownScanRecord port kind body

/-- The port, kind byte and body of the scan record a scan command stands for (R190); none for a command
that is not one. -/
def encodeScan : Instr → Option (Surface × Byte × List Byte)
  | .frameStart port frame c r => some (port, 1, halfBytes frame ++ [c, r])
  | .rowRecord port body => some (port, 2, body)
  | .frameEnd port frame check => some (port, 3, halfBytes frame ++ halfBytes check)
  | .penSample flags x y p tx ty q =>
    some (.panel, 4, [flags] ++ halfBytes x ++ halfBytes y ++ halfBytes p ++ [tx, ty, q])
  | .unknownScanRecord port kind body => some (port, kind, body)
  | _ => none

/-- The bytes of a scan record on its port: the kind byte, the length byte, which counts the bytes that follow
it, and the body (R190). -/
def scanRecord (kind : Byte) (body : List Byte) : List Byte := kind :: byteOf body.length :: body

/-- The port and the bytes, from the kind byte on, of the scan record that a command stands for (R190). -/
def encodeScanRecord (i : Instr) : Option (Surface × List Byte) :=
  (encodeScan i).map fun (port, kind, body) => (port, scanRecord kind body)

/-- The record at the front of what a port has received, as its command, and the bytes received after it: the
length byte says where its body ends (R190). None while a byte of it is still to come: a record arrives when
its last byte has been received (R2). -/
def readScan (port : Surface) : List Byte → Option (Instr × List Byte)
  | kind :: length :: received =>
    if received.length < length.toNat then none
    else some (decodeScan port kind (received.take length.toNat), received.drop length.toNat)
  | _ => none

/-- The commands of the records that have arrived whole, in their order, at most this many of them, and the bytes
behind them. -/
def readScans (port : Surface) : Nat → List Byte → List Instr × List Byte
  | 0, bytes => ([], bytes)
  | n + 1, bytes =>
    match readScan port bytes with
    | none => ([], bytes)
    | some (i, rest) => (i :: (readScans port n rest).1, (readScans port n rest).2)

/-- The commands of all the records that have arrived whole in what a port received since a record boundary, and
the bytes of the record that is still arriving (R2, R190). A reset throws those bytes away (R20; log 25). -/
def scanArrivals (port : Surface) (bytes : List Byte) : List Instr × List Byte :=
  readScans port bytes.length bytes

/-! ## Management records (R192) -/

/-- A management record as the link controller decodes it (R175, R192). -/
inductive Mgmt where
  | load (tag kind part : Byte) (offset : Half) (entries : List Byte)
  | discard (tag : Byte)
  | check (tag : Byte)
  | commit (tag : Byte)
  | run (tag : Byte)
  | stop (tag : Byte)
  | abort (tag : Byte)
  | postureCode (tag : Byte) (value : Half)
  | postureAngle (tag : Byte) (value : Half)
  | postureBadForm (tag form : Byte) (value : Half)
  | recal (tag surface : Byte)
  | queryCondition (tag : Byte)
  | queryTrackTable (tag surface : Byte)
  | queryContexts (tag : Byte)
  | queryPen (tag : Byte)
  | queryPosture (tag : Byte)
  | queryBaselineRow (tag surface row : Byte)
  | queryTableRange (tag kind part : Byte) (first count : Half)
  | queryBadSelector (tag selector : Byte)
  | watch (tag template state : Byte)
  | unwatch (tag template state : Byte)
  | clear (tag : Byte)
  | reset (tag : Byte)
  | unknownCommand (tag code : Byte)
  /-- A payload whose length does not suit its command (R175, R192). -/
  | badLength (tag code : Byte)
deriving DecidableEq, Repr

/-- The command code of a management record (R192). -/
def Mgmt.code : Mgmt → Byte
  | .load .. => 0x01
  | .discard _ => 0x02
  | .check _ => 0x03
  | .commit _ => 0x04
  | .run _ => 0x05
  | .stop _ => 0x06
  | .abort _ => 0x07
  | .postureCode .. | .postureAngle .. | .postureBadForm .. => 0x08
  | .recal .. => 0x09
  | .queryCondition _ | .queryTrackTable .. | .queryContexts _ | .queryPen _ | .queryPosture _
  | .queryBaselineRow .. | .queryTableRange .. | .queryBadSelector .. => 0x0A
  | .watch .. => 0x0B
  | .unwatch .. => 0x0C
  | .clear _ => 0x0D
  | .reset _ => 0x0E
  | .unknownCommand _ c => c
  | .badLength _ c => c

/-- A QUERY record's payload (R192): a selector byte and the selector's own arguments. -/
def decodeQuery (tag : Byte) : List Byte → Mgmt
  | [] => .badLength tag 0x0A
  | sel :: args =>
    match sel.toNat, args with
    | 0, [] => .queryCondition tag
    | 1, [u] => .queryTrackTable tag u
    | 2, [] => .queryContexts tag
    | 3, [] => .queryPen tag
    | 4, [] => .queryPosture tag
    | 5, [u, r] => .queryBaselineRow tag u r
    | 6, [k, p, f1, f0, c1, c0] => .queryTableRange tag k p (joinBytes f1 f0) (joinBytes c1 c0)
    | n, _ => if n ≤ 6 then .badLength tag 0x0A else .queryBadSelector tag sel

/-- A POSTURE record's payload (R192): a form byte, 0 code and 1 angle, and a value. -/
def decodePosture (tag : Byte) : List Byte → Mgmt
  | [form, v1, v0] =>
    match form.toNat with
    | 0 => .postureCode tag (joinBytes v1 v0)
    | 1 => .postureAngle tag (joinBytes v1 v0)
    | _ => .postureBadForm tag form (joinBytes v1 v0)
  | _ => .badLength tag 0x08

/-- A management record's command code and payload (R175, R192). -/
def decodeCommand (tag code : Byte) (payload : List Byte) : Mgmt :=
  match code.toNat, payload with
  | 0x01, k :: p :: o1 :: o0 :: entries => .load tag k p (joinBytes o1 o0) entries
  | 0x02, [] => .discard tag
  | 0x03, [] => .check tag
  | 0x04, [] => .commit tag
  | 0x05, [] => .run tag
  | 0x06, [] => .stop tag
  | 0x07, [] => .abort tag
  | 0x08, payload => decodePosture tag payload
  | 0x09, [u] => .recal tag u
  | 0x0A, payload => decodeQuery tag payload
  | 0x0B, [t, s] => .watch tag t s
  | 0x0C, [t, s] => .unwatch tag t s
  | 0x0D, [] => .clear tag
  | 0x0E, [] => .reset tag
  | n, _ => if 1 ≤ n ∧ n ≤ 0x0E then .badLength tag code else .unknownCommand tag code

/-- A management record: its tag, command code and payload; none for fewer than two bytes, which a good
write never holds (R174). -/
def decodeMgmt : List Byte → Option Mgmt
  | tag :: code :: payload => some (decodeCommand tag code payload)
  | _ => none

/-- The bytes of a management record (R192). A record of a bad length has no one spelling: its tag and
code alone stand for it. -/
def encodeMgmt (m : Mgmt) : List Byte :=
  match m with
  | .load tag k p o entries => [tag, m.code, k, p] ++ halfBytes o ++ entries
  | .discard tag | .check tag | .commit tag | .run tag | .stop tag | .abort tag | .clear tag
  | .reset tag | .badLength tag _ | .unknownCommand tag _ => [tag, m.code]
  | .postureCode tag v => [tag, m.code, 0] ++ halfBytes v
  | .postureAngle tag v => [tag, m.code, 1] ++ halfBytes v
  | .postureBadForm tag f v => [tag, m.code, f] ++ halfBytes v
  | .recal tag u => [tag, m.code, u]
  | .queryCondition tag => [tag, m.code, 0]
  | .queryTrackTable tag u => [tag, m.code, 1, u]
  | .queryContexts tag => [tag, m.code, 2]
  | .queryPen tag => [tag, m.code, 3]
  | .queryPosture tag => [tag, m.code, 4]
  | .queryBaselineRow tag u r => [tag, m.code, 5, u, r]
  | .queryTableRange tag k p f c => [tag, m.code, 6, k, p] ++ halfBytes f ++ halfBytes c
  | .queryBadSelector tag s => [tag, m.code, s]
  | .watch tag t s => [tag, m.code, t, s]
  | .unwatch tag t s => [tag, m.code, t, s]

/-- The row of the opcode table that a decoded management record is; none for a bad length, which the
table lists under WRITE_TRANSFER alone. -/
def Mgmt.toInstr : Mgmt → Option Instr
  | .load tag k p o e => some (.load tag k p o e)
  | .discard tag => some (.discard tag)
  | .check tag => some (.check tag)
  | .commit tag => some (.commit tag)
  | .run tag => some (.run tag)
  | .stop tag => some (.stop tag)
  | .abort tag => some (.abort tag)
  | .postureCode tag v => some (.postureCode tag v)
  | .postureAngle tag v => some (.postureAngle tag v)
  | .postureBadForm tag f v => some (.postureBadForm tag f v)
  | .recal tag u => some (.recal tag u)
  | .queryCondition tag => some (.queryCondition tag)
  | .queryTrackTable tag u => some (.queryTrackTable tag u)
  | .queryContexts tag => some (.queryContexts tag)
  | .queryPen tag => some (.queryPen tag)
  | .queryPosture tag => some (.queryPosture tag)
  | .queryBaselineRow tag u r => some (.queryBaselineRow tag u r)
  | .queryTableRange tag k p f c => some (.queryTableRange tag k p f c)
  | .queryBadSelector tag s => some (.queryBadSelector tag s)
  | .watch tag t s => some (.watch tag t s)
  | .unwatch tag t s => some (.unwatch tag t s)
  | .clear tag => some (.clear tag)
  | .reset tag => some (.reset tag)
  | .unknownCommand tag c => some (.unknownCommand tag c)
  | .badLength .. => none

/-- What the host sends after a write's kind byte: the length, the record and the check over both (R174, R191). -/
def frameWrite (record : List Byte) : List Byte :=
  let covered := natBytes2 record.length ++ record
  covered ++ halfBytes (checkBytes checkStart covered)

/-! ## Transfers of the host link (R173, R191) -/

/-- The kind byte of a read transfer (R191). -/
def readKind : Byte := 0x0A

/-- The kind byte of a write transfer (R191). -/
def writeKind : Byte := 0x0B

/-- The command that a transfer stands for, from all the bytes the host sends in it, the kind byte first (R173,
R174, R191); none for a select line released before a kind byte. `total` is how many bytes a read has the part
send for the head record: a read clocked for fewer ends early, and what is clocked beyond is extra. -/
def decodeTransfer (total : Nat) : List Byte → Option Instr
  | [] => none
  | kind :: rest =>
    if kind = readKind then
      if rest.length < total then some (.readEndedEarly rest.length)
      else some (.readTransfer (rest.length - total))
    else if kind = writeKind then some (.writeTransfer rest)
    else some (.badTransferKind kind)

/-! ## The opcode table's words -/

/-- The command that a word of the opcode table spells. The table gives no row any bits, so no word
spells a command (log 16). -/
def decodeTableWord (_nbits _w : Nat) : Option Instr := none

end Sys2Proof
end

