-- ==== Sys2Proof/Machine/Arith.lean ====
section
/-! DEFINITION. The arithmetic the chapters share: part time and deadlines (R1), saturating counts,
clamps, distances and whole square roots. -/

namespace Sys2Proof.Machine

/-- A count of 16 bits that saturates (R7, R48, R174, R183). -/
def countUp (n : Nat) : Nat := min (n + 1) 65535

/-- The least of the range for a value below it, the greatest for one above it (00_scope, "Conventions"). -/
def clampNat (lo hi n : Nat) : Nat := max lo (min hi n)

/-- A value lies within a range, both ends included (00_scope, "Conventions"). -/
def within (lo hi n : Nat) : Bool := decide (lo ≤ n ∧ n ≤ hi)

/-- A signed value clamped to a range (00_scope, "Conventions"). -/
def clampInt (lo hi i : Int) : Int := max lo (min hi i)

/-- Milliseconds as ticks of part time, 100 a millisecond (00_scope, "Time"). -/
def msTicks (ms : Nat) : Time := BitVec.ofNat 32 (ms * 100)

/-- The deadline `d` is reached at part time `now` (R1). -/
def reached (now d : Time) : Bool := decide ((now - d).toNat < 2 ^ 31)

/-- The moment `a` lies before the moment `b`, across the wrap as R1 compares part times. -/
def earlier (a b : Time) : Bool := a ≠ b && reached b a

/-- Part time from `since` to `t`, 0 when `t` lies before `since` (R125). -/
def elapsed (t since : Time) : Nat :=
  if (t - since).toNat < 2 ^ 31 then (t - since).toNat else 0

/-- A position on a surface, in its sub-cell units (00_scope, "Surfaces and units"). -/
structure Pos where
  x : Nat
  y : Nat
deriving DecidableEq, Repr

/-- The distance between two coordinates. -/
def gap (a b : Nat) : Nat := if a ≤ b then b - a else a - b

/-- The squared distance of two positions (00_scope, "Surfaces and units"). -/
def sqDist (p q : Pos) : Nat := gap p.x q.x ^ 2 + gap p.y q.y ^ 2

/-- The bits of a whole square root, from bit `k - 1` down, added to `root` while its square stays within `n`. -/
def rootBits (n : Nat) : Nat → Nat → Nat
  | 0, root => root
  | k + 1, root => if (root + 2 ^ k) ^ 2 ≤ n then rootBits n k (root + 2 ^ k) else rootBits n k root

/-- The square root rounded down (R130). -/
def floorRoot (n : Nat) : Nat := rootBits n (n.log2 / 2 + 1) 0

/-- A list with the entry at a place changed; unchanged where there is no such place. -/
def updateAt {α : Type} (l : List α) (i : Nat) (f : α → α) : List α :=
  match l, i with
  | [], _ => []
  | a :: as, 0 => f a :: as
  | a :: as, i + 1 => a :: updateAt as i f

/-- The sum of a list of signed numbers. -/
def intSum (l : List Int) : Int := l.foldl (· + ·) 0

/-- The sum of a list of numbers. -/
def natSum (l : List Nat) : Nat := l.foldl (· + ·) 0

/-- The greatest of a list of numbers, 0 for none. -/
def natMax (l : List Nat) : Nat := l.foldl max 0

/-- Place `a` in an ordered list before the first entry it goes before. -/
def placeIn {α : Type} (before : α → α → Bool) (a : α) : List α → List α
  | [] => [a]
  | b :: bs => if before a b then a :: b :: bs else b :: placeIn before a bs

/-- A list put in order; entries that neither goes before keep their order. -/
def arrange {α : Type} (before : α → α → Bool) (l : List α) : List α :=
  l.foldl (fun acc a => placeIn before a acc) []

end Sys2Proof.Machine
end

