-- ==== Sys2Proof/Machine/Tables.lean ====
section
/-! DEFINITION. The six table kinds as the store holds them (R161): entries as LOAD writes them, the TUNE
parameters and their ranges (R165), and the reset tables (R172). -/

namespace Sys2Proof.Machine

/-- A table kind (R160). -/
inductive Kind where
  | tune
  | zone
  | shape
  | posture
  | curve
  | program
deriving DecidableEq, Repr

/-- The kinds in the order of R164, which is the order of their codes (R193). -/
def Kind.all : List Kind := [.tune, .zone, .shape, .posture, .curve, .program]

/-- The kind's code (R193). -/
def Kind.code : Kind → Nat
  | .tune => 0
  | .zone => 1
  | .shape => 2
  | .posture => 3
  | .curve => 4
  | .program => 5

/-- A set of kinds: the dirty flags, and the frame-side set of a commit (R160). -/
structure KindSet where
  tune : Bool
  zone : Bool
  shape : Bool
  posture : Bool
  curve : Bool
  program : Bool
deriving DecidableEq, Repr

/-- No kind. -/
def KindSet.empty : KindSet := ⟨false, false, false, false, false, false⟩

/-- The kind is in the set. -/
def KindSet.has (k : KindSet) : Kind → Bool
  | .tune => k.tune
  | .zone => k.zone
  | .shape => k.shape
  | .posture => k.posture
  | .curve => k.curve
  | .program => k.program

/-- The set with a kind added. -/
def KindSet.add (k : KindSet) : Kind → KindSet
  | .tune => { k with tune := true }
  | .zone => { k with zone := true }
  | .shape => { k with shape := true }
  | .posture => { k with posture := true }
  | .curve => { k with curve := true }
  | .program => { k with program := true }

/-- The frame-side kinds of a set: all but PROGRAM (R160). -/
def KindSet.frameSide (k : KindSet) : KindSet := { k with program := false }

/-- Bit *n* for the kind of code *n* (R195). -/
def KindSet.mask (k : KindSet) : Nat :=
  natSum (Kind.all.map fun i => if k.has i then 2 ^ i.code else 0)

/-- A shape rule as loaded (R71, R193). `edge` and `cls` are codes, valid or not until CHECK or COMMIT. -/
structure ShapeRule where
  surfaces : BitVec 2
  zones : BitVec 8
  postures : BitVec 5
  areaMin : Nat
  areaMax : Nat
  peakMin : Nat
  peakMax : Nat
  flatMin : Nat
  flatMax : Nat
  elongMin : Nat
  elongMax : Nat
  edge : Nat
  cls : Nat
deriving DecidableEq, Repr

/-- A posture entry as loaded (R109, R193). -/
structure PostureEntry where
  padEnable : Bool
  panelEnable : Bool
  penEnable : Bool
  padQuietOnInk : Bool
  templates : BitVec 16
  bandMin : Nat
  bandMax : Nat
deriving DecidableEq, Repr

/-- A knot of the CURVE table (R150, R193). -/
structure Knot where
  speed : Nat
  gain : Nat
deriving DecidableEq, Repr

/-- A template as loaded (R120, R193). -/
structure Template where
  surface : Nat
  zones : BitVec 8
  classes : BitVec 4
  maxTracks : Nat
  priority : Nat
  states : Nat
  firstRow : Nat
  rowCount : Nat
deriving DecidableEq, Repr

/-- One of a row's three action places: a kind code and an operand; kind 0 is an empty place (R193). -/
structure ActionWord where
  kind : Nat
  operand : Nat
deriving DecidableEq, Repr

/-- A transition row as loaded (R120, R193): codes, valid or not until CHECK or COMMIT. -/
structure Row where
  fromState : Nat
  event : Nat
  guard : Nat
  operand : Nat
  next : Nat
  a0 : ActionWord
  a1 : ActionWord
  a2 : ActionWord
deriving DecidableEq, Repr

/-- One copy of the six tables (R160, R161). The parts with a length are lists of that length. -/
structure Tables where
  tune : List Nat
  zonePad : List (List Nat)
  zonePanel : List (List Nat)
  shape : List ShapeRule
  posture : List PostureEntry
  curve : List Knot
  templates : List Template
  rows : List Row
deriving DecidableEq, Repr

/-- The least, the greatest and the default value of a TUNE parameter (R165). -/
structure TuneRange where
  lo : Nat
  hi : Nat
  default : Nat
deriving DecidableEq, Repr

/-- The ranges and defaults of the TUNE parameters, by index (R165). -/
def tuneRanges : List TuneRange :=
  [⟨1, 2047, 80⟩, ⟨1, 8, 2⟩, ⟨1, 8, 2⟩, ⟨16, 4095, 320⟩, ⟨1, 15, 3⟩, ⟨0, 7, 4⟩, ⟨0, 255, 40⟩,
   ⟨1, 2047, 120⟩, ⟨1, 1440, 24⟩, ⟨1, 15, 4⟩, ⟨0, 1000, 100⟩, ⟨0, 5000, 400⟩, ⟨0, 8, 1⟩,
   ⟨0, 1023, 48⟩, ⟨1, 4095, 256⟩, ⟨0, 1023, 16⟩, ⟨0, 255, 40⟩, ⟨1, 32, 6⟩, ⟨0, 2000, 300⟩,
   ⟨0, 512, 96⟩, ⟨0, 3008, 192⟩, ⟨0, 3008, 1280⟩, ⟨0, 1856, 320⟩, ⟨0, 1856, 1152⟩, ⟨0, 2, 2⟩,
   ⟨0, 30, 8⟩, ⟨0, 1, 1⟩]

/-- A TUNE parameter by its index in R165. -/
def tuneAt (t : List Nat) (i : Nat) : Nat := t.getD i 0

/-- *touch_threshold* (R165). -/
def touchThreshold (t : List Nat) : Nat := tuneAt t 0
/-- *confirm_frames* (R165). -/
def confirmFrames (t : List Nat) : Nat := tuneAt t 1
/-- *lift_frames* (R165). -/
def liftFrames (t : List Nat) : Nat := tuneAt t 2
/-- *gate_radius* (R165). -/
def gateRadius (t : List Nat) : Nat := tuneAt t 3
/-- *vote_frames* (R165). -/
def voteFrames (t : List Nat) : Nat := tuneAt t 4
/-- *drift_shift* (R165). -/
def driftShift (t : List Nat) : Nat := tuneAt t 5
/-- *drift_window* (R165). -/
def driftWindow (t : List Nat) : Nat := tuneAt t 6
/-- *recap_threshold* (R165). -/
def recapThreshold (t : List Nat) : Nat := tuneAt t 7
/-- *recap_cells* (R165). -/
def recapCells (t : List Nat) : Nat := tuneAt t 8
/-- *acquire_frames* (R165). -/
def acquireFrames (t : List Nat) : Nat := tuneAt t 9
/-- *frame_timeout* (R165). -/
def frameTimeoutMs (t : List Nat) : Nat := tuneAt t 10
/-- *palm_hold* (R165). -/
def palmHold (t : List Nat) : Nat := tuneAt t 11
/-- *palm_margin* (R165). -/
def palmMargin (t : List Nat) : Nat := tuneAt t 12
/-- *slop* (R165). -/
def slop (t : List Nat) : Nat := tuneAt t 13
/-- *detent* (R165). -/
def detent (t : List Nat) : Nat := tuneAt t 14
/-- *reverse_slop* (R165). -/
def reverseSlop (t : List Nat) : Nat := tuneAt t 15
/-- *pen_quality_min* (R165). -/
def penQualityMin (t : List Nat) : Nat := tuneAt t 16
/-- *pen_coast_limit* (R165). -/
def penCoastLimit (t : List Nat) : Nat := tuneAt t 17
/-- *pen_guard* (R165). -/
def penGuardMs (t : List Nat) : Nat := tuneAt t 18
/-- *nib_radius* (R165). -/
def nibRadius (t : List Nat) : Nat := tuneAt t 19
/-- *shadow_lead* (R165). -/
def shadowLead (t : List Nat) : Nat := tuneAt t 20
/-- *shadow_reach* (R165). -/
def shadowReach (t : List Nat) : Nat := tuneAt t 21
/-- *shadow_up* (R165). -/
def shadowUp (t : List Nat) : Nat := tuneAt t 22
/-- *shadow_down* (R165). -/
def shadowDown (t : List Nat) : Nat := tuneAt t 23
/-- *handedness*: 0 RIGHT, 1 LEFT, 2 AUTO (R165). -/
def handedness (t : List Nat) : Nat := tuneAt t 24
/-- *angle_hysteresis* (R165). -/
def angleHysteresis (t : List Nat) : Nat := tuneAt t 25
/-- *contact_mode*: 0 EVERY, 1 ON_CHANGE (R165). -/
def contactMode (t : List Nat) : Nat := tuneAt t 26

/-- A posture entry of the reset table: all enabled, every template, this band (R172). -/
def resetPostureEntry (lo hi : Nat) : PostureEntry :=
  { padEnable := true, panelEnable := true, penEnable := true, padQuietOnInk := false,
    templates := 0xFFFF, bandMin := lo, bandMax := hi }

/-- The one rule of the reset SHAPE table: every blob is FINGER (R172). -/
def resetShapeRule : ShapeRule :=
  { surfaces := 3, zones := 0xFF, postures := 0x1F, areaMin := 1, areaMax := 255, peakMin := 0,
    peakMax := 2047, flatMin := 1, flatMax := 256, elongMin := 16, elongMax := 768, edge := 0,
    cls := 0 }

/-- The reset tables (R172). -/
def resetTables : Tables :=
  { tune := tuneRanges.map TuneRange.default
    zonePad := List.replicate Surface.pad.rows (List.replicate Surface.pad.columns 0)
    zonePanel := List.replicate Surface.panel.rows (List.replicate Surface.panel.columns 0)
    shape := [resetShapeRule]
    posture := [resetPostureEntry 0 190, resetPostureEntry 191 260, resetPostureEntry 261 320,
      resetPostureEntry 321 360, resetPostureEntry 0 0]
    curve := [0, 1, 2, 4, 8, 16, 32, 64].map fun s => ⟨s, 256⟩
    templates := []
    rows := [] }

end Sys2Proof.Machine
end

