-- ==== Sys2Proof/Machine/Types.lean ====
section
/-! DEFINITION. The data each block holds, as the chapters list it: names and fields in the chapters' words. -/

namespace Sys2Proof.Machine

/-- One value for each surface. -/
structure PerSurface (α : Type) where
  pad : α
  panel : α
deriving DecidableEq, Repr

/-- The value of a surface. -/
def PerSurface.get {α : Type} (p : PerSurface α) : Surface → α
  | .pad => p.pad
  | .panel => p.panel

/-- The value of a surface replaced. -/
def PerSurface.set {α : Type} (p : PerSurface α) (u : Surface) (a : α) : PerSurface α :=
  match u with
  | .pad => { p with pad := a }
  | .panel => { p with panel := a }

/-! ## Scan intake (chapter 01) -/

/-- A receiver's assembly condition (chapter 01, section 1.2). -/
inductive Assembly where
  | waiting
  | assembling
  | discarding
deriving DecidableEq, Repr

/-- A receiver's filling buffer (chapter 01, section 1.2; R3 to R7). -/
structure Receiver where
  cond : Assembly
  frame : Half
  expected : Nat
  samples : List (List Nat)
  check : Half
deriving DecidableEq, Repr

/-- A receiver with no frame under assembly, in the given condition (R7, R20). -/
def Receiver.idle (c : Assembly) : Receiver :=
  { cond := c, frame := 0, expected := 0, samples := [], check := checkStart }

/-- A frame in the ready buffer; its ready time is the arrival time of its end record (R5, R9). -/
structure ReadyFrame where
  frame : Half
  time : Time
  samples : List (List Nat)
deriving DecidableEq, Repr

/-- The surface states (R10). -/
inductive SurfaceState where
  | off
  | acquire
  | live
  | failed
deriving DecidableEq, Repr

/-- What the receiver of one surface holds (R20). -/
structure Intake where
  recv : Receiver
  ready : Option ReadyFrame
  state : SurfaceState
  timeout : Option Time
  errorRun : Nat
  discarded : Nat
  overruns : Nat
  taken : Nat
deriving DecidableEq, Repr

/-- The surface state a closing request applies at its completion (chapter 01, section 1.5). -/
inductive ClosingOutcome where
  | off
  | acquire
  | none
deriving DecidableEq, Repr

/-- What waits for the frame engine: a surface's ready frame or a closing request (R14). -/
inductive WaitWork where
  | frame
  | closing (outcome : ClosingOutcome)
deriving DecidableEq, Repr

/-- An item of the wait list with its key, the part time at which it became ready or was posted (R14). -/
structure WaitItem where
  key : Time
  surface : Surface
  work : WaitWork
deriving DecidableEq, Repr

/-! ## Baseline store (chapter 02) -/

/-- What the baseline store holds for one surface (R21): one row of values for each grid row. -/
structure Baseline where
  values : List (List Nat)
  acquired : Nat
  drift : Nat
deriving DecidableEq, Repr

/-! ## Contact extraction and the track table (chapters 03 to 05) -/

/-- A bounding box in whole cells (R40). -/
structure Box where
  c0 : Nat
  c1 : Nat
  r0 : Nat
  r1 : Nat
deriving DecidableEq, Repr

/-- A rectangle in sub-cell units, borders included (R104). -/
structure Rect where
  x0 : Nat
  x1 : Nat
  y0 : Nat
  y1 : Nat
deriving DecidableEq, Repr

/-- The features of a blob (R39 to R44). The matching area is computed from the area (R39; log 17). -/
structure Features where
  area : Nat
  peak : Nat
  sum : Nat
  flat : Nat
  elong : Nat
  box : Box
  edge : Bool
  zone : Nat
deriving DecidableEq, Repr

/-- A blob of the blob list: its centroid and its features (R38). -/
structure Blob where
  pos : Pos
  feat : Features
deriving DecidableEq, Repr

/-- A contact's class (R49). -/
inductive TrackClass where
  | finger
  | thumb
  | palm
  | edge
  | unknown
deriving DecidableEq, Repr

/-- Why a track ended (R49). -/
inductive EndCause where
  | lift
  | cancel
deriving DecidableEq, Repr

/-- The state of a slot that is not FREE, with the end cause that only ENDED carries (R48, R49). -/
inductive TrackState where
  | tentative
  | active
  | missing
  | ended (cause : EndCause)
deriving DecidableEq, Repr

/-- A track record (R49). Slot and surface are the place it is held in. -/
structure Track where
  id : Nat
  state : TrackState
  cls : TrackClass
  candidate : TrackClass
  votes : Nat
  latched : Bool
  forced : Bool
  suppressed : Bool
  owner : Option Nat
  pos : Pos
  prev : Option Pos
  anchor : Pos
  zone : Nat
  downTime : Time
  seen : Nat
  misses : Nat
  feat : Features
  startPending : Bool
  endPending : Bool
deriving DecidableEq, Repr

/-- The track table (R48): ten slots of each surface, FREE where there is no record, the next-ID counter
and the slot-overflow counters. -/
structure TrackTable where
  slots : PerSurface (List (Option Track))
  nextId : Nat
  overflow : PerSurface Nat
deriving DecidableEq, Repr

/-- A track named by its slot, 0 to 19, and its ID. -/
structure TrackRef where
  slot : Nat
  id : Nat
deriving DecidableEq, Repr

/-- A palm memory entry (R78). -/
structure PalmEntry where
  surface : Surface
  box : Box
  bound : List TrackRef
  deadline : Option Time
deriving DecidableEq, Repr

/-! ## Pen tracker (chapter 06) and posture unit (chapter 07) -/

/-- The state a coasting pen left (R92). -/
inductive CoastOrigin where
  | hover
  | ink
deriving DecidableEq, Repr

/-- The pen states, with the coast origin that only COAST carries (R92). -/
inductive PenMode where
  | out
  | hover
  | ink
  | coast (origin : CoastOrigin)
deriving DecidableEq, Repr

/-- The held sample (R92, R94). -/
structure PenHeld where
  pos : Pos
  pressure : Nat
  tiltX : Int
  tiltY : Int
  barrel : Bool
  eraser : Bool
  invert : Bool
  quality : Nat
deriving DecidableEq, Repr

/-- What the pen tracker holds (R92). -/
structure PenTracker where
  mode : PenMode
  held : PenHeld
  coast : Nat
  guard : Option Time
  vote : Int
  lost : Nat
deriving DecidableEq, Repr

/-- The postures (R108). -/
inductive Posture where
  | laptop
  | tent
  | stand
  | tablet
  | closed
deriving DecidableEq, Repr

/-- The posture's code (R108). -/
def Posture.code : Posture → Nat
  | .laptop => 0
  | .tent => 1
  | .stand => 2
  | .tablet => 3
  | .closed => 4

/-- The postures in the order of their codes. -/
def Posture.all : List Posture := [.laptop, .tent, .stand, .tablet, .closed]

/-- The posture of a code (R111). -/
def Posture.ofCode (n : Nat) : Option Posture := Posture.all[n]?

/-! ## The frame operation (chapter 01, R15) -/

/-- What a frame operation takes when it begins (R15, R106): the frame-side tables, the posture, the pen's
values, palm memory and the surface state, and the baseline store and track table it computes from. -/
structure Snapshot where
  tables : Tables
  posture : Posture
  pen : PenMode
  penPos : Pos
  shadow : Option Rect
  padQuiet : Bool
  palm : List PalmEntry
  state : SurfaceState
  base : Baseline
  tracks : TrackTable
deriving DecidableEq, Repr

/-- What the operation in flight works on: a frame, or a closing request with its key and outcome (R15, R18). -/
inductive OpWork where
  | frame (f : ReadyFrame)
  | closing (key : Time) (outcome : ClosingOutcome)
deriving DecidableEq, Repr

/-- The operation in flight, working or held (R14, R17). -/
structure Operation where
  surface : Surface
  work : OpWork
  snap : Snapshot
  held : Bool
deriving DecidableEq, Repr

/-- The frame engine (R14). -/
structure Engine where
  waitList : List WaitItem
  op : Option Operation
deriving DecidableEq, Repr

/-! ## Digests (R64 to R66) -/

/-- A context named by its slot and its serial (R121, R147). -/
structure ContextRef where
  slot : Nat
  serial : Nat
deriving DecidableEq, Repr

/-- A track event of a digest (R65). -/
inductive TrackEvent where
  | touchdown (track : TrackRef) (cls : TrackClass) (pos : Pos) (zone : Nat)
  | lift (track : TrackRef)
  | reclass (track : TrackRef) (released : Option ContextRef)
  | move (track : TrackRef) (pos : Pos)
  | cancel (track : TrackRef)
deriving DecidableEq, Repr

/-- An entry of a digest's position list (R66). -/
structure Placed where
  track : TrackRef
  pos : Pos
  dx : Int
  dy : Int
deriving DecidableEq, Repr

/-- The digest kinds (R64). -/
inductive DigestKind where
  | frame
  | closing
deriving DecidableEq, Repr

/-- A digest (R64), with the moment at which it joined the digest queue (R124). -/
structure Digest where
  joined : Time
  surface : Surface
  kind : DigestKind
  time : Time
  events : List TrackEvent
  positions : List Placed
deriving DecidableEq, Repr

/-! ## Gesture engine (chapter 08) and motion unit (chapter 09) -/

/-- A claim entry of a context (R122). -/
structure ClaimEntry where
  track : TrackRef
  pos : Pos
  anchor : Pos
  zone : Nat
  dx : Int
  dy : Int
deriving DecidableEq, Repr

/-- A context's timer deadline, with the moment at which its expiry became waiting (R121, R124, R134). -/
structure ContextTimer where
  deadline : Time
  waiting : Option Time
deriving DecidableEq, Repr

/-- The axes of ACC_START (R156). -/
inductive Axis where
  | x
  | y
  | both
deriving DecidableEq, Repr

/-- An accumulator's last direction (R156). -/
inductive Direction where
  | none
  | positive
  | negative
deriving DecidableEq, Repr

/-- One axis of a context's accumulators (R156). -/
structure AxisAcc where
  value : Int
  last : Direction
deriving DecidableEq, Repr

/-- A context's accumulators (R156). An axis that is not active holds 0 and no direction. -/
structure Accumulators where
  axis : Axis
  x : AxisAcc
  y : AxisAcc
deriving DecidableEq, Repr

/-- A running context's record (R121). Its pointer-holder flag is read from the motion unit (log 17). -/
structure Context where
  template : Nat
  serial : Nat
  state : Nat
  claims : List ClaimEntry
  startTime : Time
  anchorTime : Time
  anchorSpread : Nat
  timer : Option ContextTimer
  taps : Nat
  openCode : Option Nat
  acc : Option Accumulators
deriving DecidableEq, Repr

/-- The waiting PEN_INK event, with the moment of its hand-over (R100, R124). -/
structure PenInk where
  pos : Pos
  pressure : Nat
  time : Time
  handed : Time
deriving DecidableEq, Repr

/-- A pair of the watch list (R144). -/
structure Watch where
  template : Nat
  state : Nat
deriving DecidableEq, Repr

/-- What the gesture engine holds (R121, R124, R143, R144). -/
structure Gestures where
  contexts : List (Option Context)
  serial : Nat
  digests : List Digest
  inHand : Bool
  penInk : Option PenInk
  switchWaiting : Bool
  watch : List Watch
deriving DecidableEq, Repr

/-- The pointer's holder and source, present together (R147). -/
structure Pointer where
  holder : ContextRef
  source : TrackRef
deriving DecidableEq, Repr

/-- What a POINTER record and the unsent motion carry (R147, R154). -/
structure Motion where
  x : Int
  y : Int
  buttons : List Bool
  click : Bool
deriving DecidableEq, Repr

/-- What the motion unit holds (R147): a button is pressed while it has a presser. -/
structure MotionUnit where
  pointer : Option Pointer
  residueX : Int
  residueY : Int
  buttons : List (Option ContextRef)
  unsent : Option Motion
deriving DecidableEq, Repr

/-! ## Table store (chapter 10) -/

/-- The commit record (R160). -/
structure CommitRecord where
  tag : Byte
  frameSide : KindSet
  program : Bool
  clamped : Nat
deriving DecidableEq, Repr

/-- What the table store holds (R160). -/
structure TableStore where
  active : Tables
  staging : Tables
  dirty : KindSet
  commit : Option CommitRecord
deriving DecidableEq, Repr

/-! ## Report records (chapters 11 and 12) -/

/-- The mark of a contact entry (R67). -/
inductive ContactMark where
  | new
  | ongoing
  | ended (cause : EndCause) (unseen : Bool)
deriving DecidableEq, Repr

/-- A contact entry of a CONTACT report (R67). -/
structure ContactEntry where
  track : TrackRef
  mark : ContactMark
  cls : TrackClass
  suppressed : Bool
  forced : Bool
  owner : Option Nat
  pos : Pos
  matchArea : Nat
  peak : Nat
  zone : Nat
deriving DecidableEq, Repr

/-- The cause of a CONTACT report (R67). -/
inductive ContactCause where
  | frame (number : Half)
  | closing
  | abort
  | catchUp
deriving DecidableEq, Repr

/-- A CONTACT report (R67). -/
structure ContactReport where
  surface : Surface
  cause : ContactCause
  entries : List ContactEntry
deriving DecidableEq, Repr

/-- The states a PEN report names (R99). -/
inductive PenShown where
  | out
  | hover
  | ink
deriving DecidableEq, Repr

/-- A PEN report (R99). -/
structure PenReport where
  shown : PenShown
  held : PenHeld
  lost : Bool
  recovered : Bool
deriving DecidableEq, Repr

/-- The phases of a GESTURE record (R132, R139). -/
inductive Phase where
  | begin
  | update
  | end_
  | cancel
deriving DecidableEq, Repr

/-- The steps and marks of one axis in an automatic UPDATE (R158). -/
structure AxisSteps where
  steps : Int
  reversed : Bool
  clamped : Bool
deriving DecidableEq, Repr

/-- No steps and no marks, as in every GESTURE record but an automatic UPDATE (R158, R194). -/
def AxisSteps.zero : AxisSteps := ⟨0, false, false⟩

/-- A GESTURE record (R132, R139, R158). -/
structure GestureReport where
  code : Nat
  phase : Phase
  slot : Nat
  template : Nat
  ids : List Nat
  x : AxisSteps
  y : AxisSteps
deriving DecidableEq, Repr

/-- The reset causes (R188). -/
inductive ResetCause where
  | power
  | pin
  | command
deriving DecidableEq, Repr

/-- A NOTICE with its cause and what it carries (R180, R194). -/
inductive Notice where
  | reset (cause : ResetCause)
  | surface (pad panel : SurfaceState) (padChanged panelChanged : Bool)
  | posture (posture : Posture) (angle : Nat)
  | faultRising
  | lossRising
deriving DecidableEq, Repr

/-- The reasons of a REFUSED reply (R175). -/
inductive Reason where
  | range
  | invalid
  | state
  | unknown
  | full
deriving DecidableEq, Repr

/-- The reply codes (R175). -/
inductive ReplyCode where
  | done
  | busy
  | refused (reason : Reason)
deriving DecidableEq, Repr

/-- A REPLY record: the command's tag and code, the reply code and the body of R195 and R196. -/
structure Reply where
  tag : Byte
  command : Byte
  code : ReplyCode
  body : List Byte
deriving DecidableEq, Repr

/-- The event kinds of transition rows (R120). -/
inductive EventKind where
  | touchdown
  | lift
  | move
  | reclass
  | cancel
  | frame
  | timer
  | penInk
deriving DecidableEq, Repr

/-- A SNAPSHOT record (R145). -/
structure SnapshotReport where
  slot : Nat
  event : EventKind
  track : Option TrackRef
  context : Context
  holder : Bool
deriving DecidableEq, Repr

/-- A report record's kind and payload (R176, R194). -/
inductive Payload where
  | contact (r : ContactReport)
  | pen (r : PenReport)
  | pointer (m : Motion)
  | gesture (g : GestureReport)
  | notice (n : Notice)
  | reply (r : Reply)
  | snapshot (r : SnapshotReport)
deriving DecidableEq, Repr

/-- A report record in the queue (R176); its condition summary is filled in when it is sent. -/
structure Record where
  time : Time
  payload : Payload
  begun : Bool
deriving DecidableEq, Repr

/-- The part states (R185). -/
inductive PartState where
  | hold
  | run
  | stopping
deriving DecidableEq, Repr

/-- The owed-notice set (R180): the surface cause with its marked surfaces, and the other causes. The
reset cause is never owed. -/
structure Owed where
  surface : Option (PerSurface Bool)
  posture : Bool
  fault : Bool
  loss : Bool
deriving DecidableEq, Repr

/-- What the part sent in the last read or write transfer, after the kind byte (R191): these bytes in a read,
a zero for every byte the host clocks in a write. -/
inductive LinkOut where
  | zeros
  | bytes (sent : List Byte)
deriving DecidableEq, Repr

/-- What the link controller holds (R174, R179, R180, R182, R185, R186, R188). -/
structure Link where
  part : PartState
  cause : ResetCause
  resetSeen : Bool
  loss : Bool
  badWrites : Nat
  droppedWrites : Nat
  waiting : List Record
  owed : Owed
  stopTag : Option Byte
deriving DecidableEq, Repr

end Sys2Proof.Machine
end

