-- ==== Sys2Proof/Machine/Operands.lean ====
section
/-! DEFINITION. What the codes and entries of management payloads stand for (R192, R193): parts of tables,
entries from their bytes and back, guards and actions of a transition row. -/

namespace Sys2Proof.Machine

/-- A surface code of a management payload (R192). -/
def surfaceOf (n : Nat) : Option Surface :=
  match n with
  | 0 => some .pad
  | 1 => some .panel
  | _ => none

/-- A table kind code (R193). -/
def kindOf (n : Nat) : Option Kind := Kind.all[n]?

/-- A part of a table kind (R161). -/
inductive Part where
  | tune
  | zonePad
  | zonePanel
  | shape
  | posture
  | curve
  | templates
  | rows
deriving DecidableEq, Repr

/-- The part that a kind code and a part code name (R193). -/
def partOf (kind part : Nat) : Option Part :=
  match kind, part with
  | 0, 0 => some .tune
  | 1, 0 => some .zonePad
  | 1, 1 => some .zonePanel
  | 2, 0 => some .shape
  | 3, 0 => some .posture
  | 4, 0 => some .curve
  | 5, 0 => some .templates
  | 5, 1 => some .rows
  | _, _ => none

/-- The kind a part belongs to (R161). -/
def Part.kind : Part → Kind
  | .tune => .tune
  | .zonePad => .zone
  | .zonePanel => .zone
  | .shape => .shape
  | .posture => .posture
  | .curve => .curve
  | .templates => .program
  | .rows => .program

/-- The bytes of one entry of a part (R193). -/
def Part.entryBytes : Part → Nat
  | .tune => 2
  | .zonePad => 24
  | .zonePanel => 48
  | .shape => 19
  | .posture => 7
  | .curve => 4
  | .templates => 10
  | .rows => 15

/-- The capacity of a part whose length loading sets; none for a part of fixed length (R161). -/
def Part.capacity : Part → Option Nat
  | .shape => some Config.shapeCapacity
  | .templates => some Config.templateCapacity
  | .rows => some Config.rowCapacity
  | _ => none

/-- The present length of a part of a copy (R161). -/
def Tables.partLength (t : Tables) : Part → Nat
  | .tune => t.tune.length
  | .zonePad => t.zonePad.length
  | .zonePanel => t.zonePanel.length
  | .shape => t.shape.length
  | .posture => t.posture.length
  | .curve => t.curve.length
  | .templates => t.templates.length
  | .rows => t.rows.length

/-- A list of bytes cut into pieces of `n` bytes; `fuel` is at least the number of pieces. -/
def pieces (n : Nat) : Nat → List Byte → List (List Byte)
  | 0, _ => []
  | fuel + 1, bs => if bs.isEmpty then [] else bs.take n :: pieces n fuel (bs.drop n)

/-- The entries of an entry list, or none when it is not a whole number of entries of the part (R162). -/
def splitEntries (p : Part) (bs : List Byte) : Option (List (List Byte)) :=
  if bs.length % p.entryBytes = 0 then some (pieces p.entryBytes bs.length bs) else none

/-- The number of one byte at a place of an entry. -/
def num1 (e : List Byte) (i : Nat) : Nat := (e.getD i 0).toNat

/-- The number of two bytes at a place of an entry (R189). -/
def num2 (e : List Byte) (i : Nat) : Nat := (joinBytes (e.getD i 0) (e.getD (i + 1) 0)).toNat

/-- A shape rule from its bytes (R193); unused mask bits are not looked at (R189; log 20). -/
def readShapeRule (e : List Byte) : ShapeRule :=
  { surfaces := BitVec.ofNat 2 (num1 e 0), zones := BitVec.ofNat 8 (num1 e 1),
    postures := BitVec.ofNat 5 (num1 e 2), areaMin := num1 e 3, areaMax := num1 e 4,
    peakMin := num2 e 5, peakMax := num2 e 7, flatMin := num2 e 9, flatMax := num2 e 11,
    elongMin := num2 e 13, elongMax := num2 e 15, edge := num1 e 17, cls := num1 e 18 }

/-- A posture entry from its bytes (R193). -/
def readPostureEntry (e : List Byte) : PostureEntry :=
  let enables := e.getD 0 0
  { padEnable := enables.getLsbD 0, panelEnable := enables.getLsbD 1, penEnable := enables.getLsbD 2,
    padQuietOnInk := enables.getLsbD 3, templates := BitVec.ofNat 16 (num2 e 1), bandMin := num2 e 3,
    bandMax := num2 e 5 }

/-- A knot from its bytes (R193). -/
def readKnot (e : List Byte) : Knot := ⟨num2 e 0, num2 e 2⟩

/-- A template from its bytes (R193). -/
def readTemplate (e : List Byte) : Template :=
  { surface := num1 e 0, zones := BitVec.ofNat 8 (num1 e 1), classes := BitVec.ofNat 4 (num1 e 2),
    maxTracks := num1 e 3, priority := num1 e 4, states := num1 e 5, firstRow := num2 e 6,
    rowCount := num2 e 8 }

/-- A transition row from its bytes (R193). -/
def readRow (e : List Byte) : Row :=
  { fromState := num1 e 0, event := num1 e 1, guard := num1 e 2, operand := num2 e 3, next := num1 e 5,
    a0 := ⟨num1 e 6, num2 e 7⟩, a1 := ⟨num1 e 9, num2 e 10⟩, a2 := ⟨num1 e 12, num2 e 13⟩ }

/-- Entries written at an offset of a part of fixed length (R162). -/
def writeFixed {α : Type} (old : List α) (offset : Nat) (new : List α) : List α :=
  old.take offset ++ new ++ old.drop (offset + new.length)

/-- Entries written at an offset of a part with a length; no entries set the length to the offset (R162). -/
def writeSized {α : Type} (old : List α) (offset : Nat) (new : List α) : List α :=
  if new.isEmpty then old.take offset else writeFixed old offset new

/-- A copy with entries written into one of its parts (R162). -/
def Tables.write (t : Tables) (p : Part) (offset : Nat) (es : List (List Byte)) : Tables :=
  match p with
  | .tune => { t with tune := writeFixed t.tune offset (es.map fun e => num2 e 0) }
  | .zonePad => { t with zonePad := writeFixed t.zonePad offset (es.map fun e => e.map BitVec.toNat) }
  | .zonePanel =>
    { t with zonePanel := writeFixed t.zonePanel offset (es.map fun e => e.map BitVec.toNat) }
  | .shape => { t with shape := writeSized t.shape offset (es.map readShapeRule) }
  | .posture => { t with posture := writeFixed t.posture offset (es.map readPostureEntry) }
  | .curve => { t with curve := writeFixed t.curve offset (es.map readKnot) }
  | .templates => { t with templates := writeSized t.templates offset (es.map readTemplate) }
  | .rows => { t with rows := writeSized t.rows offset (es.map readRow) }

/-- The bytes of a shape rule (R193). -/
def ShapeRule.bytes (r : ShapeRule) : List Byte :=
  [r.surfaces.setWidth 8, r.zones, r.postures.setWidth 8, byteOf r.areaMin, byteOf r.areaMax]
    ++ natBytes2 r.peakMin ++ natBytes2 r.peakMax ++ natBytes2 r.flatMin ++ natBytes2 r.flatMax
    ++ natBytes2 r.elongMin ++ natBytes2 r.elongMax ++ [byteOf r.edge, byteOf r.cls]

/-- The enables byte of a posture entry: bit 0 pad, 1 panel, 2 pen, 3 pad quiet on ink (R193). -/
def PostureEntry.enables (e : PostureEntry) : Byte :=
  byteOf (e.padEnable.toNat + 2 * e.panelEnable.toNat + 4 * e.penEnable.toNat + 8 * e.padQuietOnInk.toNat)

/-- The bytes of a posture entry (R193). -/
def PostureEntry.bytes (e : PostureEntry) : List Byte :=
  [e.enables] ++ halfBytes e.templates ++ natBytes2 e.bandMin ++ natBytes2 e.bandMax

/-- The bytes of a knot (R193). -/
def Knot.bytes (k : Knot) : List Byte := natBytes2 k.speed ++ natBytes2 k.gain

/-- The bytes of a template (R193). -/
def Template.bytes (t : Template) : List Byte :=
  [byteOf t.surface, t.zones, t.classes.setWidth 8, byteOf t.maxTracks, byteOf t.priority, byteOf t.states]
    ++ natBytes2 t.firstRow ++ natBytes2 t.rowCount

/-- The bytes of an action place (R193). -/
def ActionWord.bytes (a : ActionWord) : List Byte := [byteOf a.kind] ++ natBytes2 a.operand

/-- The bytes of a transition row (R193). -/
def Row.bytes (r : Row) : List Byte :=
  [byteOf r.fromState, byteOf r.event, byteOf r.guard] ++ natBytes2 r.operand ++ [byteOf r.next]
    ++ r.a0.bytes ++ r.a1.bytes ++ r.a2.bytes

/-- The entries of a part of a copy, each as its bytes (R193). -/
def Tables.partEntries (t : Tables) : Part → List (List Byte)
  | .tune => t.tune.map natBytes2
  | .zonePad => t.zonePad.map fun row => row.map byteOf
  | .zonePanel => t.zonePanel.map fun row => row.map byteOf
  | .shape => t.shape.map ShapeRule.bytes
  | .posture => t.posture.map PostureEntry.bytes
  | .curve => t.curve.map Knot.bytes
  | .templates => t.templates.map Template.bytes
  | .rows => t.rows.map Row.bytes

/-- A copy with the entries of one kind, and their lengths, taken from another copy (R163, R167). -/
def Tables.takeKind (t from_ : Tables) : Kind → Tables
  | .tune => { t with tune := from_.tune }
  | .zone => { t with zonePad := from_.zonePad, zonePanel := from_.zonePanel }
  | .shape => { t with shape := from_.shape }
  | .posture => { t with posture := from_.posture }
  | .curve => { t with curve := from_.curve }
  | .program => { t with templates := from_.templates, rows := from_.rows }

/-- A copy with the entries of a set of kinds taken from another copy. -/
def Tables.takeKinds (t from_ : Tables) (ks : KindSet) : Tables :=
  Kind.all.foldl (fun acc k => if ks.has k then acc.takeKind from_ k else acc) t

/-! ## Codes of the SHAPE table (R71, R164) -/

/-- The result class of a shape rule's class code (R164, R194). -/
def classOf (n : Nat) : Option TrackClass :=
  match n with
  | 0 => some .finger
  | 1 => some .thumb
  | 2 => some .palm
  | 3 => some .edge
  | _ => none

/-- A class's code in every payload (R194). -/
def TrackClass.code : TrackClass → Nat
  | .finger => 0
  | .thumb => 1
  | .palm => 2
  | .edge => 3
  | .unknown => 4

/-- The bit of a class in a template's class mask; PALM has none (R120, R193). -/
def TrackClass.maskBit : TrackClass → Option Nat
  | .finger => some 0
  | .thumb => some 1
  | .edge => some 2
  | .unknown => some 3
  | .palm => none

/-- A mask of zones holds a zone. -/
def inZones (mask : BitVec 8) (zone : Nat) : Bool := mask.getLsbD zone

/-- A class mask holds a class (R120). -/
def inClasses (mask : BitVec 4) (c : TrackClass) : Bool :=
  match c.maskBit with
  | some i => mask.getLsbD i
  | none => false

/-! ## Codes of the PROGRAM table (R120, R193) -/

/-- An event kind's code (R193). -/
def EventKind.code : EventKind → Nat
  | .touchdown => 1
  | .lift => 2
  | .move => 3
  | .reclass => 4
  | .cancel => 5
  | .frame => 6
  | .timer => 7
  | .penInk => 8

/-- A guard with its operand (R130). -/
inductive Guard where
  | none
  | countEq (n : Nat)
  | countGe (n : Nat)
  | elapsedLt (ms : Nat)
  | elapsedGe (ms : Nat)
  | movedLt (d : Nat)
  | movedGe (d : Nat)
  | tapsEq (n : Nat)
  | spreadGe (d : Nat)
  | zoneIn (mask : BitVec 8)
deriving DecidableEq, Repr

/-- The guard a row's guard kind and operand name (R193); ZONE_IN reads the operand's low eight bits (R130). -/
def guardOf (kind operand : Nat) : Option Guard :=
  match kind with
  | 0 => some .none
  | 1 => some (.countEq operand)
  | 2 => some (.countGe operand)
  | 3 => some (.elapsedLt operand)
  | 4 => some (.elapsedGe operand)
  | 5 => some (.movedLt operand)
  | 6 => some (.movedGe operand)
  | 7 => some (.tapsEq operand)
  | 8 => some (.spreadGe operand)
  | 9 => some (.zoneIn (BitVec.ofNat 8 operand))
  | _ => Option.none

/-- The phases a row may EMIT (R132). -/
inductive EmitPhase where
  | begin
  | update
  | end_
deriving DecidableEq, Repr

/-- An action with its operand (R131). -/
inductive Action where
  | claim
  | release
  | releaseAll
  | anchor
  | timerSet (ms : Nat)
  | timerStop
  | tap
  | tapClear
  | emit (phase : EmitPhase) (code : Nat)
  | accStart (axis : Axis)
  | accStop
  | pointerOn
  | pointerOff
  | button (n : Nat) (press : Bool)
deriving DecidableEq, Repr

/-- The phase that an EMIT operand's high byte names (R193); CANCEL and unknown codes name none. -/
def emitPhaseOf (n : Nat) : Option EmitPhase :=
  match n with
  | 0 => some .begin
  | 1 => some .update
  | 2 => some .end_
  | _ => none

/-- The axis that an ACC_START operand's low byte names (R193). -/
def axisOf (n : Nat) : Option Axis :=
  match n with
  | 0 => some .x
  | 1 => some .y
  | 2 => some .both
  | _ => none

/-- The action of an action place; none for an empty place or an unknown code (R193). BUTTON reads press
or release from its high byte's low bit (log 13). -/
def actionOf (a : ActionWord) : Option Action :=
  let hi := a.operand / 256
  let lo := a.operand % 256
  match a.kind with
  | 1 => some .claim
  | 2 => some .release
  | 3 => some .releaseAll
  | 4 => some .anchor
  | 5 => some (.timerSet a.operand)
  | 6 => some .timerStop
  | 7 => some .tap
  | 8 => some .tapClear
  | 9 => (emitPhaseOf hi).map fun p => .emit p lo
  | 10 => (axisOf lo).map .accStart
  | 11 => some .accStop
  | 12 => some .pointerOn
  | 13 => some .pointerOff
  | 14 => some (.button lo (hi % 2 == 0))
  | _ => none

/-- A row's three action places, in order. -/
def Row.places (r : Row) : List ActionWord := [r.a0, r.a1, r.a2]

/-- A row's actions: its non-empty places, in order (R193). -/
def Row.actions (r : Row) : List Action := r.places.filterMap actionOf

/-- A template that no valid program holds, in place of an index beyond the table's length (log 21). -/
def noTemplate : Template :=
  { surface := 2, zones := 0, classes := 0, maxTracks := 0, priority := 0, states := 0, firstRow := 0,
    rowCount := 0 }

/-- The template of an index (R120). -/
def Tables.template (t : Tables) (i : Nat) : Template := t.templates.getD i noTemplate

/-- A template's rows, in table order (R120). -/
def Tables.templateRows (t : Tables) (i : Nat) : List Row :=
  (t.rows.drop (t.template i).firstRow).take (t.template i).rowCount

/-- The POSTURE entry of a posture in a copy (R109). -/
def Tables.postureEntry (t : Tables) (p : Posture) : PostureEntry :=
  t.posture.getD p.code (resetPostureEntry 0 0)

/-- A posture entry enables a surface (R109). -/
def PostureEntry.enablesSurface (e : PostureEntry) : Surface → Bool
  | .pad => e.padEnable
  | .panel => e.panelEnable

/-- The posture entry's band is empty: both limits 0 (R109). -/
def PostureEntry.bandEmpty (e : PostureEntry) : Bool := e.bandMin == 0 && e.bandMax == 0

/-- The posture entry's band holds an angle (R109). -/
def PostureEntry.bandHolds (e : PostureEntry) (angle : Nat) : Bool :=
  !e.bandEmpty && decide (e.bandMin ≤ angle ∧ angle ≤ e.bandMax)

/-- The zone value of a cell in a copy's zone map (R41). -/
def Tables.zoneAt (t : Tables) (u : Surface) (col row : Nat) : Nat :=
  match u with
  | .pad => (t.zonePad.getD row []).getD col 0
  | .panel => (t.zonePanel.getD row []).getD col 0

end Sys2Proof.Machine
end

