-- ==== Sys2Proof/Machine/Contacts.lean ====
section
/-! DEFINITION. The baseline store's arithmetic (chapter 02) and contact extraction (chapter 03): deltas,
drift and anti-touch, set cells, blobs, the ten-blob limit, features, nib exclusion. -/

namespace Sys2Proof.Machine

/-! ## Baseline and deltas (R23, R25 to R28) -/

/-- Two grids combined cell by cell. -/
def zipGrid (f : Nat → Nat → Nat) (a b : List (List Nat)) : List (List Nat) :=
  List.zipWith (List.zipWith f) a b

/-- The baseline values after an acquisition frame (R23): the raw samples, or the average rounded half up. -/
def acquireValues (count : Nat) (base raw : List (List Nat)) : List (List Nat) :=
  if count = 0 then raw else zipGrid (fun b r => (b + r + 1) / 2) base raw

/-- The deltas of a live frame (R25). -/
def deltaGrid (base raw : List (List Nat)) : List (List Nat) :=
  zipGrid (fun b r => min (r - b) 2047) base raw

/-- The next drift frame count (R26). -/
def nextDrift (shift count : Nat) : Nat := (count + 1) % 2 ^ shift

/-- A box widened by `m` cells on every side and clipped to the surface grid (R27, R77). -/
def Box.widen (b : Box) (m : Nat) (u : Surface) : Box :=
  { c0 := b.c0 - m, c1 := min (b.c1 + m) (u.columns - 1), r0 := b.r0 - m, r1 := min (b.r1 + m) (u.rows - 1) }

/-- A cell lies within a box. -/
def Box.holdsCell (b : Box) (col row : Nat) : Bool :=
  decide (b.c0 ≤ col ∧ col ≤ b.c1 ∧ b.r0 ≤ row ∧ row ≤ b.r1)

/-- One cell's drift step (R27). -/
def driftCell (window b r : Nat) : Nat :=
  if window < gap b r then b else if b < r then b + 1 else if r < b then b - 1 else b

/-- The baseline values after a drift step: covered cells are left as they are (R27). -/
def driftValues (u : Surface) (window : Nat) (boxes : List Box) (base raw : List (List Nat)) :
    List (List Nat) :=
  let wide := boxes.map fun b => b.widen 1 u
  List.zipWith
    (fun (bs : List Nat × Nat) rs =>
      List.zipWith
        (fun (b : Nat × Nat) r => if wide.any (·.holdsCell b.2 bs.2) then b.1 else driftCell window b.1 r)
        bs.1.zipIdx rs)
    base.zipIdx raw

/-- The anti-touch cells of a frame, counted (R28). -/
def antiTouchCells (threshold : Nat) (base raw : List (List Nat)) : Nat :=
  natSum ((zipGrid (fun b r => if r + threshold < b then 1 else 0) base raw).map natSum)

/-! ## Set cells and blobs (R34 to R36) -/

/-- A set cell with its delta (R34). -/
structure SetCell where
  col : Nat
  row : Nat
  delta : Nat
deriving DecidableEq, Repr

/-- The set cells of a grid of deltas, in row-major order (R34). -/
def setCells (threshold : Nat) (grid : List (List Nat)) : List SetCell :=
  grid.zipIdx.flatMap fun (ds, r) =>
    ds.zipIdx.filterMap fun (d, c) => if threshold ≤ d then some ⟨c, r, d⟩ else none

/-- Two cells share a side (R35). -/
def SetCell.adjoins (a b : SetCell) : Bool :=
  (a.row == b.row && gap a.col b.col == 1) || (a.col == b.col && gap a.row b.row == 1)

/-- A cell adjoins some cell of a group. -/
def touchesGroup (group : List SetCell) (c : SetCell) : Bool := group.any (·.adjoins c)

/-- A group grown by the cells that adjoin it until none is left; `fuel` is at least the number of cells
outside. Answers the group and the cells that stay outside. -/
def growBlob : Nat → List SetCell → List SetCell → List SetCell × List SetCell
  | 0, group, rest => (group, rest)
  | fuel + 1, group, rest =>
    let near := rest.filter (touchesGroup group)
    if near.isEmpty then (group, rest)
    else growBlob fuel (group ++ near) (rest.filter fun c => !touchesGroup group c)

/-- The blobs of set cells given in row-major order: each starts at its first cell, so they come in
formation order (R35, R36). `fuel` is at least the number of cells. -/
def formBlobs : Nat → List SetCell → List (List SetCell)
  | 0, _ => []
  | _ + 1, [] => []
  | fuel + 1, c :: rest =>
    let grown := growBlob rest.length [c] rest
    grown.1 :: formBlobs fuel grown.2

/-- The blobs of a live frame in formation order (R35, R36). -/
def frameBlobs (threshold : Nat) (grid : List (List Nat)) : List (List SetCell) :=
  let cells := setCells threshold grid
  formBlobs cells.length cells

/-! ## The ten-blob limit and the features (R37, R39 to R44) -/

/-- The least of a list of numbers, 0 for none. -/
def natMin : List Nat → Nat
  | [] => 0
  | a :: as => as.foldl min a

/-- The peak delta of a blob (R39). -/
def blobPeak (b : List SetCell) : Nat := natMax (b.map SetCell.delta)

/-- The bounding box of a blob (R40). -/
def blobBox (b : List SetCell) : Box :=
  { c0 := natMin (b.map SetCell.col), c1 := natMax (b.map SetCell.col),
    r0 := natMin (b.map SetCell.row), r1 := natMax (b.map SetCell.row) }

/-- How many blobs rank above the blob of index `i`: a higher peak, or the same peak and a lower
formation index (R37). -/
def ranksAbove (peaks : List (Nat × Nat)) (peak i : Nat) : Nat :=
  peaks.countP fun (p, j) => decide (peak < p) || (p == peak && decide (j < i))

/-- The blobs that the ten-blob limit keeps, in formation order (R37). -/
def keptBlobs (bs : List (List SetCell)) : List (List SetCell) :=
  let peaks := (bs.map blobPeak).zipIdx
  bs.zipIdx.filterMap fun (b, i) =>
    if ranksAbove peaks (blobPeak b) i < Config.blobLimit then some b else none

/-- A cell comes before another in row-major order (R36). -/
def SetCell.before (a b : SetCell) : Bool :=
  decide (a.row < b.row) || (a.row == b.row && decide (a.col < b.col))

/-- The peak cell: of the cells with the greatest delta, the first in row-major order (R41). -/
def peakCell (b : List SetCell) : Option SetCell :=
  ((b.filter fun c => c.delta == blobPeak b).foldl fun acc c =>
    match acc with
    | none => some c
    | some a => if c.before a then some c else some a) none

/-- A cell's weight (R42). -/
def SetCell.weight (threshold : Nat) (c : SetCell) : Nat := c.delta - threshold + 1

/-- One coordinate of the centroid: 64 times the weighted mean, half rounded up (R42). -/
def weightedMean (threshold : Nat) (f : SetCell → Nat) (b : List SetCell) : Nat :=
  let w := natSum (b.map (SetCell.weight threshold))
  (64 * natSum (b.map fun c => c.weight threshold * f c) + w / 2) / w

/-- The centroid of a blob (R42). -/
def centroid (threshold : Nat) (b : List SetCell) : Pos :=
  ⟨weightedMean threshold SetCell.col b, weightedMean threshold SetCell.row b⟩

/-- Flatness (R43). -/
def flatness (sum area peak : Nat) : Nat := max 1 (256 * sum / (area * peak))

/-- A box's width (R40). -/
def Box.width (b : Box) : Nat := b.c1 - b.c0 + 1

/-- A box's height (R40). -/
def Box.height (b : Box) : Nat := b.r1 - b.r0 + 1

/-- Elongation (R44). -/
def elongation (b : Box) : Nat := 16 * max b.width b.height / min b.width b.height

/-- A box touches a border of its surface (R40). -/
def Box.isEdge (b : Box) (u : Surface) : Bool :=
  b.r0 == 0 || b.r1 == u.rows - 1 || b.c0 == 0 || b.c1 == u.columns - 1

/-- A blob measured (R39 to R44). -/
def measure (t : Tables) (u : Surface) (b : List SetCell) : Blob :=
  let threshold := touchThreshold t.tune
  let box := blobBox b
  let sum := natSum (b.map SetCell.delta)
  let peak := blobPeak b
  { pos := centroid threshold b
    feat :=
      { area := b.length, peak := peak, sum := sum, flat := flatness sum b.length peak,
        elong := elongation box, box := box, edge := box.isEdge u,
        zone := ((peakCell b).map fun c => t.zoneAt u c.col c.row).getD 0 } }

/-! ## Nib exclusion and the hand-over (R38, R45, R46) -/

/-- A blob lies under the inking nib (R45). -/
def underNib (t : List Nat) (pen : Pos) (b : Blob) : Bool :=
  decide (sqDist b.pos pen ≤ nibRadius t ^ 2)

/-- What extraction hands on (R46): the blob list in list-index order, the box of every formed blob, and
whether the frame is an overflow frame. -/
structure Extraction where
  blobs : List Blob
  boxes : List Box
  overflow : Bool
deriving DecidableEq, Repr

/-- Contact extraction of a live frame (R34 to R46). -/
def extract (sn : Snapshot) (u : Surface) (raw : List (List Nat)) : Extraction :=
  let formed := frameBlobs (touchThreshold sn.tables.tune) (deltaGrid sn.base.values raw)
  let measured := (keptBlobs formed).map (measure sn.tables u)
  let excludes := u == .panel && sn.pen == .ink
  { blobs := measured.filter fun b => !(excludes && underNib sn.tables.tune sn.penPos b)
    boxes := formed.map blobBox
    overflow := decide (Config.blobLimit < formed.length) }

end Sys2Proof.Machine
end

