-- ==== Sys2Proof/Machine/State.lean ====
section
/-! DEFINITION. The whole state of the part, block by block, its values after a reset, and the reasons a
step could stop. -/

namespace Sys2Proof.Machine

/-- The LQ-3240: every block's own state, part time, the reset pin's level, the queue of commands that
wait (the model's own, log 1) and what the part sent in the last transfer (the model's own, log 7). -/
structure State where
  pending : List Instr
  linkOut : LinkOut
  now : Time
  pinHeld : Bool
  intake : PerSurface Intake
  blobOverflow : PerSurface Nat
  engine : Engine
  base : PerSurface Baseline
  tracks : TrackTable
  palm : List PalmEntry
  pen : PenTracker
  posture : Posture
  angle : Nat
  gestures : Gestures
  motion : MotionUnit
  tables : TableStore
  queue : List Record
  link : Link
deriving DecidableEq, Repr

/-- Why a step stops with a fault: never. The spec gives every row of the opcode table an effect in every
state, so no meaning raises a fault and there is no reason to name (safe: nothing is left out by one). -/
inductive Fault
deriving DecidableEq, Repr

/-- Why a step is refused. -/
inductive Refusal where
  /-- Raised by an arm of `exec` whose row has no meaning yet (safe: nothing is claimed of it). Every row
  has its meaning, so no step answers it. -/
  | notModelled (mnemonic : String)
deriving DecidableEq, Repr

/-- The receiver of a surface after a reset (R20). -/
def Intake.reset : Intake :=
  { recv := Receiver.idle .waiting, ready := none, state := .off, timeout := none, errorRun := 0,
    discarded := 0, overruns := 0, taken := 0 }

/-- The baseline store of a surface after a reset (R21). -/
def Baseline.reset (u : Surface) : Baseline :=
  { values := List.replicate u.rows (List.replicate u.columns 0), acquired := 0, drift := 0 }

/-- The track table after a reset (R48). -/
def TrackTable.reset : TrackTable :=
  { slots := ⟨List.replicate Config.slotsPerSurface none, List.replicate Config.slotsPerSurface none⟩
    nextId := 1
    overflow := ⟨0, 0⟩ }

/-- The pen tracker after a reset (R92). -/
def PenTracker.reset : PenTracker :=
  { mode := .out
    held := { pos := ⟨0, 0⟩, pressure := 0, tiltX := 0, tiltY := 0, barrel := false, eraser := false,
              invert := false, quality := 0 }
    coast := 0, guard := none, vote := 0, lost := 0 }

/-- The gesture engine after a reset (R121, R124, R143, R144). -/
def Gestures.reset : Gestures :=
  { contexts := List.replicate Config.contextSlots none, serial := 1, digests := [], inHand := false,
    penInk := none, switchWaiting := false, watch := [] }

/-- The motion unit after a reset (R147). -/
def MotionUnit.reset : MotionUnit :=
  { pointer := none, residueX := 0, residueY := 0, buttons := [none, none, none], unsent := none }

/-- The table store after a reset (R160, R172). -/
def TableStore.reset : TableStore :=
  { active := resetTables, staging := resetTables, dirty := KindSet.empty, commit := none }

/-- No owed notice (R180, R188). -/
def Owed.empty : Owed := { surface := none, posture := false, fault := false, loss := false }

/-- The link controller after a reset with this cause (R185, R188). -/
def Link.reset (cause : ResetCause) : Link :=
  { part := .hold, cause := cause, resetSeen := true, loss := false, badWrites := 0,
    droppedWrites := 0, waiting := [], owed := Owed.empty, stopTag := none }

/-- Every block at its reset values, the report queue empty, the waiting commands kept (R188). -/
def State.atReset (cause : ResetCause) (pinHeld : Bool) (pending : List Instr) : State :=
  { pending := pending
    linkOut := .zeros
    now := 0
    pinHeld := pinHeld
    intake := ⟨Intake.reset, Intake.reset⟩
    blobOverflow := ⟨0, 0⟩
    engine := ⟨[], none⟩
    base := ⟨Baseline.reset .pad, Baseline.reset .panel⟩
    tracks := TrackTable.reset
    palm := []
    pen := PenTracker.reset
    posture := .laptop
    angle := 0
    gestures := Gestures.reset
    motion := MotionUnit.reset
    tables := TableStore.reset
    queue := []
    link := Link.reset cause }

/-- A reset that has ended: the reset values, then the reset NOTICE, the last thing a reset does (R188). -/
def State.afterReset (cause : ResetCause) (pending : List Instr) : State :=
  { State.atReset cause false pending with
    queue := [{ time := 0, payload := .notice (.reset cause), begun := false }] }

/-- The part right after power-on, with no command waiting (R188). -/
def State.reset : State := State.afterReset .power []

end Sys2Proof.Machine
end

