-- ==== Sys2Proof/Machine/Flags.lean ====
section
/-! DEFINITION. The signals and flags that the part computes from its state and does not store (log 17):
FAULT and the condition summary, the attention line, shut surfaces, pad quiet, the pen shadow. -/

namespace Sys2Proof.Machine

/-- The active TUNE values. -/
def State.tune (s : State) : List Nat := s.tables.active.tune

/-- The current posture's entry of the active POSTURE table (R108). -/
def State.entry (s : State) : PostureEntry := s.tables.active.postureEntry s.posture

/-- Some surface is FAILED (R182). -/
def State.someFailed (s : State) : Bool :=
  s.intake.pad.state == .failed || s.intake.panel.state == .failed

/-- FAULT: a condition, set while any of its causes holds (R182). -/
def State.fault (s : State) : Bool :=
  s.someFailed || s.link.loss || decide (0 < s.intake.pad.discarded)
    || decide (0 < s.intake.panel.discarded) || decide (0 < s.link.badWrites)
    || decide (0 < s.link.droppedWrites)

/-- The condition summary byte: bit 7 RESET_SEEN, bit 6 FAULT, bit 5 COMMIT_PENDING, bits 2 to 0 the
posture code (R182, R194). -/
def State.summary (s : State) : Byte :=
  byteOf (128 * s.link.resetSeen.toNat + 64 * s.fault.toNat + 32 * s.tables.commit.isSome.toNat
    + s.posture.code)

/-- The attention line: asserted while the queue holds a record, and never while the reset pin is held (R173). -/
def State.attention (s : State) : Bool := !s.pinHeld && !s.queue.isEmpty

/-- A closing outcome that shuts its surface (R9). -/
def ClosingOutcome.shuts : ClosingOutcome → Bool
  | .off => true
  | .acquire => true
  | .none => false

/-- A wait item is a closing request of the surface that shuts it. -/
def WaitItem.shuts (w : WaitItem) (u : Surface) : Bool :=
  w.surface == u && match w.work with
    | .frame => false
    | .closing o => o.shuts

/-- An operation is a closing request of the surface that shuts it. -/
def Operation.shuts (o : Operation) (u : Surface) : Bool :=
  o.surface == u && match o.work with
    | .frame _ => false
    | .closing _ outcome => outcome.shuts

/-- A surface is shut: OFF, or a closing request with outcome OFF or ACQUIRE waits or is in flight for it (R9). -/
def State.shut (s : State) (u : Surface) : Bool :=
  (s.intake.get u).state == .off || s.engine.waitList.any (·.shuts u) || s.engine.op.any (·.shuts u)

/-- A wait item is a closing request of the surface. -/
def WaitItem.isClosing (w : WaitItem) (u : Surface) : Bool :=
  w.surface == u && match w.work with
    | .frame => false
    | .closing _ => true

/-- A wait item is the surface's ready frame. -/
def WaitItem.isFrame (w : WaitItem) (u : Surface) : Bool :=
  w.surface == u && match w.work with
    | .frame => true
    | .closing _ => false

/-- A closing request of the surface is on the wait list. -/
def State.closingWaits (s : State) (u : Surface) : Bool := s.engine.waitList.any (·.isClosing u)

/-- The frame engine has an item of the surface waiting or in flight (R69). -/
def State.engineHas (s : State) (u : Surface) : Bool :=
  s.engine.waitList.any (·.surface == u) || s.engine.op.any (·.surface == u)

/-- The pad quiet signal (R103). -/
def State.padQuiet (s : State) : Bool :=
  (s.entry.padQuietOnInk && s.pen.mode == .ink) || s.pen.guard.isSome

/-- The hand that AUTO resolves from the handedness vote is the right one (R104). -/
def autoRight (vote : Int) : Bool := decide (0 ≤ vote)

/-- The hand resolved from *handedness* is the right one (R104). -/
def rightHand (t : List Nat) (vote : Int) : Bool :=
  match handedness t with
  | 0 => true
  | 1 => false
  | _ => autoRight vote

/-- The shadow rectangle of a pen position for a hand (R104). -/
def shadowRect (t : List Nat) (right : Bool) (p : Pos) : Rect :=
  let left := if right then shadowLead t else shadowReach t
  let rght := if right then shadowReach t else shadowLead t
  { x0 := min (p.x - left) Surface.panel.maxX
    x1 := min (p.x + rght) Surface.panel.maxX
    y0 := min (p.y - shadowUp t) Surface.panel.maxY
    y1 := min (p.y + shadowDown t) Surface.panel.maxY }

/-- The pen shadow: none in OUT, else the rectangle of the held position (R104). -/
def State.shadow (s : State) : Option Rect :=
  if s.pen.mode = .out then none
  else some (shadowRect s.tune (rightHand s.tune s.pen.vote) s.pen.held.pos)

/-- A position lies within a rectangle, borders included (R76). -/
def Rect.holds (r : Rect) (p : Pos) : Bool :=
  decide (r.x0 ≤ p.x ∧ p.x ≤ r.x1 ∧ r.y0 ≤ p.y ∧ p.y ≤ r.y1)

/-- The context of a slot, if one runs there (R121). -/
def State.context (s : State) (k : Nat) : Option Context := s.gestures.contexts.getD k none

/-- A context is the pointer holder: its pointer-holder flag (R121, R147, R148; log 17). -/
def State.holds (s : State) (k serial : Nat) : Bool :=
  s.motion.pointer.any fun p => p.holder == ⟨k, serial⟩

/-- The pressed buttons (R154). -/
def State.buttonsNow (s : State) : List Bool := s.motion.buttons.map Option.isSome

/-- The surface of a track slot number, 0 to 19 (R48). -/
def slotSurface (n : Nat) : Surface := if n < 10 then .pad else .panel

/-- The track record in a slot, none where it is FREE (R48). -/
def TrackTable.at (t : TrackTable) (n : Nat) : Option Track :=
  let u := slotSurface n
  (t.slots.get u).getD (n - u.firstSlot) none

/-- A track is ACTIVE or MISSING. -/
def Track.confirmed (t : Track) : Bool := t.state == .active || t.state == .missing

/-- The matching area: the area, 255 at most (R39). -/
def Features.matchArea (f : Features) : Nat := min f.area 255

/-- Ordinary records: all but REPLY and NOTICE (R176). -/
def Record.ordinary (r : Record) : Bool :=
  match r.payload with
  | .notice _ => false
  | .reply _ => false
  | _ => true

/-- How many records of a queue are ordinary (R176). -/
def ordinaryCount (q : List Record) : Nat := q.countP (·.ordinary)

/-- The queue has room for any record: fewer than 32 in total (R177). -/
def hasPlace (q : List Record) : Bool := decide (q.length < Config.queueCapacity)

/-- The queue admits an ordinary record: fewer than 28 ordinary and fewer than 32 in total (R177). -/
def hasRoom (q : List Record) : Bool :=
  decide (ordinaryCount q < Config.ordinaryCapacity) && hasPlace q

end Sys2Proof.Machine
end

