-- ==== Sys2Proof/Machine/Tracks.lean ====
section
/-! DEFINITION. Classification (chapter 05) and the track table's work in a frame operation (chapter 04):
raw class, vote, forcing, suppression, association, lifecycle, IDs, track events, position list. -/

namespace Sys2Proof.Machine

/-! ## The shape table and the class vote (R71 to R75) -/

/-- A rule's edge requirement is satisfied: 0 ANY, 1 EDGE, 2 NOT_EDGE (R71, R193). -/
def edgeSatisfied (requirement : Nat) (edge : Bool) : Bool :=
  match requirement with
  | 0 => true
  | 1 => edge
  | 2 => !edge
  | _ => false

/-- A blob matches a shape rule: it satisfies every part (R71). -/
def ShapeRule.matchesBlob (r : ShapeRule) (u : Surface) (p : Posture) (f : Features) : Bool :=
  r.surfaces.getLsbD u.code && inZones r.zones f.zone && r.postures.getLsbD p.code
    && within r.areaMin r.areaMax f.matchArea && within r.peakMin r.peakMax f.peak
    && within r.flatMin r.flatMax f.flat && within r.elongMin r.elongMax f.elong
    && edgeSatisfied r.edge f.edge

/-- The raw class: the result of the first rule that matches, UNKNOWN when none does (R71). -/
def rawClass (rules : List ShapeRule) (u : Surface) (p : Posture) (f : Features) : TrackClass :=
  ((rules.find? fun r => r.matchesBlob u p f).bind fun r => classOf r.cls).getD .unknown

/-- The vote carries: the class becomes the candidate, PALM latches (R74, R75). -/
def Track.carryVote (t : Track) : Track :=
  { t with cls := t.candidate, votes := 0, latched := t.latched || t.candidate == .palm }

/-- A raw class advances the class vote (R74). -/
def Track.vote (t : Track) (frames : Nat) (raw : TrackClass) : Track :=
  if raw = t.cls then { t with votes := 0 }
  else
    let t1 := if raw = t.candidate then { t with votes := t.votes + 1 }
              else { t with candidate := raw, votes := 1 }
    if frames ≤ t1.votes then t1.carryVote else t1

/-- A matched track classified: not when it is latched (R72, R74). -/
def Track.classify (t : Track) (sn : Snapshot) (u : Surface) (f : Features) : Track :=
  if t.latched then t
  else t.vote (voteFrames sn.tables.tune) (rawClass sn.tables.shape u sn.posture f)

/-! ## Forcing and suppression (R76, R77, R86) -/

/-- The catch area of a palm memory entry, in sub-cell units (R77). -/
def PalmEntry.catchArea (e : PalmEntry) (margin : Nat) : Rect :=
  let b := e.box.widen margin e.surface
  { x0 := 64 * b.c0, x1 := 64 * b.c1, y0 := 64 * b.r0, y1 := 64 * b.r1 }

/-- The hit of an opening blob: the entry nearest the head whose catch area holds its centroid (R77). -/
def palmHit (sn : Snapshot) (u : Surface) (p : Pos) : Option PalmEntry :=
  sn.palm.find? fun e => e.surface == u && (e.catchArea (palmMargin sn.tables.tune)).holds p

/-- An opening blob of the panel lies in the pen shadow (R76). -/
def inShadow (sn : Snapshot) (u : Surface) (p : Pos) : Bool :=
  u == .panel && sn.shadow.any (·.holds p)

/-! ## Prediction and association (R51 to R53) -/

/-- A track takes part in association (R51). -/
def Track.takesPart (t : Track) : Bool := t.state == .tentative || t.confirmed

/-- The predicted position, clamped to the surface's range (R51). -/
def Track.predicted (t : Track) (u : Surface) : Pos :=
  match t.prev with
  | none => t.pos
  | some q => ⟨min (2 * t.pos.x - q.x) u.maxX, min (2 * t.pos.y - q.y) u.maxY⟩

/-- A candidate pair of a slot (its place on the surface) and a blob (its list index) (R52). -/
structure Candidate where
  dist : Nat
  slot : Nat
  blob : Nat
deriving DecidableEq, Repr

/-- The order of the candidates: distance, then slot, then list index (R53). -/
def Candidate.before (a b : Candidate) : Bool :=
  decide (a.dist < b.dist) || (a.dist == b.dist &&
    (decide (a.slot < b.slot) || (a.slot == b.slot && decide (a.blob < b.blob))))

/-- The candidate that a slot and a blob make, if they are within the gate (R52). -/
def candidateOf (gate : Nat) (u : Surface) (t : Track) (i : Nat) (b : Blob) (j : Nat) : Option Candidate :=
  let d := sqDist (t.predicted u) b.pos
  if t.takesPart && decide (d ≤ gate ^ 2) then some ⟨d, i, j⟩ else none

/-- Every candidate of the surface's tracks and the blob list (R52). -/
def candidates (gate : Nat) (u : Surface) (slots : List (Option Track)) (blobs : List Blob) :
    List Candidate :=
  slots.zipIdx.flatMap fun (r, i) =>
    match r with
    | none => []
    | some t => blobs.zipIdx.filterMap fun (b, j) => candidateOf gate u t i b j

/-- One step of the walk: a candidate pairs when its track and blob are both unpaired (R53). -/
def pairUp (pairs : List Candidate) (c : Candidate) : List Candidate :=
  if pairs.any fun p => p.slot == c.slot || p.blob == c.blob then pairs else pairs ++ [c]

/-- The pairs of the greedy walk in ascending order (R53). -/
def associate (gate : Nat) (u : Surface) (slots : List (Option Track)) (blobs : List Blob) :
    List Candidate :=
  (arrange Candidate.before (candidates gate u slots blobs)).foldl pairUp []

/-! ## The lifecycle (R54 to R58) -/

/-- A track is confirmed: ACTIVE, its start pending, its move anchor at its position (R57). -/
def Track.confirm (t : Track) : Track :=
  { t with state := .active, startPending := true, anchor := t.pos }

/-- A matched track takes its blob's results (R54, R57). -/
def Track.matched (t : Track) (sn : Snapshot) (u : Surface) (b : Blob) : Track :=
  let t1 := { t with prev := some t.pos, pos := b.pos, feat := b.feat, seen := min (t.seen + 1) 255 }
  let t2 := t1.classify sn u b.feat
  match t.state with
  | .tentative => if confirmFrames sn.tables.tune ≤ t2.seen then t2.confirm else t2
  | .active => t2
  | .missing => { t2 with state := .active, misses := 0 }
  | .ended _ => t

/-- A track ends with a cause, its end pending (R55, R62). -/
def Track.finish (t : Track) (c : EndCause) : Track := { t with state := .ended c, endPending := true }

/-- An unmatched track: silently FREE, MISSING, or ENDED with cause LIFT (R55). The miss count of an ACTIVE
track that ends at once, at *lift_frames* 1, is left as it stood: R55 does not say (log 28). -/
def Track.unmatched (t : Track) (liftFrames : Nat) : Option Track :=
  match t.state with
  | .tentative => none
  | .active =>
    if liftFrames ≤ 1 then some (t.finish .lift) else some { t with state := .missing, misses := 1 }
  | .missing =>
    let t1 := { t with misses := t.misses + 1 }
    if liftFrames ≤ t1.misses then some (t1.finish .lift) else some t1
  | .ended _ => some t

/-- A slot after association: matched, unmatched, or left as it is (R54, R55). -/
def slotAfter (sn : Snapshot) (u : Surface) (blobs : List Blob) (pairs : List Candidate) (i : Nat)
    (r : Option Track) : Option Track :=
  match r with
  | none => none
  | some t =>
    if t.takesPart then
      match (pairs.find? fun c => c.slot == i).bind fun c => blobs[c.blob]? with
      | some b => some (t.matched sn u b)
      | none => t.unmatched (liftFrames sn.tables.tune)
    else some t

/-- The IDs held by slots that are not FREE, on both surfaces (R58). -/
def TrackTable.heldIds (t : TrackTable) : List Nat :=
  (t.slots.pad ++ t.slots.panel).filterMap fun r => r.map Track.id

/-- The ID after an ID: 1 follows 255 (R58). -/
def idAfter (n : Nat) : Nat := if 255 ≤ n then 1 else n + 1

/-- The first ID from `n` on that no slot holds (R58). At most twenty slots are not FREE, so 21 tries do. -/
def freeId (held : List Nat) : Nat → Nat → Nat
  | 0, n => n
  | tries + 1, n => if held.contains n then freeId held tries (idAfter n) else n

/-- The lowest FREE place of a surface's slots (R56). -/
def freeSlot (slots : List (Option Track)) : Option Nat := slots.findIdx? Option.isNone

/-- The record of a track opened by an unmatched blob (R56, R73, R76, R77, R86), confirmed at once when
*confirm_frames* is 1 (R57). -/
def openTrack (sn : Snapshot) (u : Surface) (time : Time) (id : Nat) (b : Blob) : Track :=
  let forced := inShadow sn u b.pos || (palmHit sn u b.pos).isSome
  let cls := if forced then .palm else rawClass sn.tables.shape u sn.posture b.feat
  let t : Track :=
    { id := id, state := .tentative, cls := cls, candidate := cls, votes := 0,
      latched := cls == .palm, forced := forced, suppressed := u == .pad && sn.padQuiet,
      owner := none, pos := b.pos, prev := none, anchor := b.pos, zone := b.feat.zone,
      downTime := time, seen := 1, misses := 0, feat := b.feat, startPending := false,
      endPending := false }
  if confirmFrames sn.tables.tune ≤ 1 then t.confirm else t

/-- The track table while tracks are opened, with the hits recorded and the blobs dropped (R56, R77). -/
structure Opening where
  table : TrackTable
  hits : List (TrackRef × PalmEntry)
  dropped : Nat
deriving DecidableEq, Repr

/-- One unmatched blob opens a track in the lowest FREE slot, or is dropped (R56, R58). -/
def openOne (sn : Snapshot) (u : Surface) (time : Time) (o : Opening) (b : Blob) : Opening :=
  match freeSlot (o.table.slots.get u) with
  | none => { o with dropped := o.dropped + 1 }
  | some i =>
    let id := freeId o.table.heldIds 21 o.table.nextId
    let slots := (o.table.slots.get u).set i (some (openTrack sn u time id b))
    let hit := (palmHit sn u b.pos).map fun e => ((⟨u.firstSlot + i, id⟩ : TrackRef), e)
    { table := { o.table with slots := o.table.slots.set u slots, nextId := idAfter id }
      hits := o.hits ++ hit.toList
      dropped := o.dropped }

/-- Association, lifecycle and opening of a live frame operation (R51 to R58). -/
def trackFrame (sn : Snapshot) (u : Surface) (time : Time) (blobs : List Blob) : Opening :=
  let slots := sn.tracks.slots.get u
  let pairs := associate (gateRadius sn.tables.tune) u slots blobs
  let after := slots.zipIdx.map fun (r, i) => slotAfter sn u blobs pairs i r
  let table := { sn.tracks with slots := sn.tracks.slots.set u after }
  let unpaired := blobs.zipIdx.filterMap fun (b, j) =>
    if pairs.any (·.blob == j) then none else some b
  unpaired.foldl (openOne sn u time) { table := table, hits := [], dropped := 0 }

/-! ## What an operation did to a slot, read off its record before and after (R65, R79, R88, R89) -/

/-- The slot holds tracks of one ID in both. -/
def sameTrack (b e : Option Track) : Bool :=
  match b, e with
  | some t, some t' => t.id == t'.id
  | _, _ => false

/-- The track was opened in this operation (R56): it is TENTATIVE or ACTIVE and has no previous position. Any
other track that is TENTATIVE or ACTIVE after the operation was matched in it, which gave it one (R54). -/
def openedHere (e : Option Track) : Bool :=
  e.any fun t => (t.state == .tentative || t.state == .active) && t.prev.isNone

/-- The slot's track went through the operation. A slot freed silently may be taken again in the same operation,
and by the same ID when the counter has come round to it (R55, R56, R58): that is another track. -/
def goesOn (b e : Option Track) : Bool := sameTrack b e && !openedHere e

/-- The track was ACTIVE or MISSING before and is ACTIVE after (R65). -/
def stayedActive (b e : Option Track) : Bool :=
  goesOn b e && b.any Track.confirmed && e.any (·.state == .active)

/-- The track was confirmed in this operation (R57): ACTIVE after, not ACTIVE or MISSING before. -/
def confirmedHere (b e : Option Track) : Bool :=
  e.any (·.state == .active) && !(goesOn b e && b.any Track.confirmed)

/-- The track ended with cause LIFT in this operation (R55). -/
def liftedHere (b e : Option Track) : Bool :=
  goesOn b e && b.any Track.confirmed && e.any (·.state == .ended .lift)

/-- The track's class changed in this operation. -/
def classChanged (b e : Option Track) : Bool :=
  goesOn b e && b.map Track.cls != e.map Track.cls

/-- The track first became PALM in this operation (R75): opened as PALM, or carried to PALM by its vote. -/
def becamePalm (b e : Option Track) : Bool :=
  e.any (·.cls == .palm) && !(goesOn b e && b.any (·.cls == .palm))

/-- The track's vote carried to PALM in this operation (R74, R88). -/
def votedPalm (b e : Option Track) : Bool := goesOn b e && becamePalm b e

/-- The track left its binding in this operation: it ended with cause LIFT or became FREE silently (R80). -/
def unboundHere (b e : Option Track) : Bool :=
  liftedHere b e || (b.any (·.state == .tentative) && !goesOn b e)

/-- The track moved *slop* or more from its anchor (R65). -/
def movedHere (slopUnits : Nat) (b e : Option Track) : Bool :=
  stayedActive b e && e.any fun t => decide (slopUnits ^ 2 ≤ sqDist t.pos t.anchor)

/-- A MOVE sets the track's move anchor to its position (R65). -/
def settleAnchor (slopUnits : Nat) (b e : Option Track) : Option Track :=
  if movedHere slopUnits b e then e.map fun t => { t with anchor := t.pos } else e

/-- The events a slot makes in a FRAME digest (R65); `released` names the context a RECLASS was released
from (R88). -/
def slotEvents (slopUnits slot : Nat) (released : Option ContextRef) (b e : Option Track) :
    List TrackEvent :=
  match e with
  | none => []
  | some t =>
    let r : TrackRef := ⟨slot, t.id⟩
    (if confirmedHere b e && t.cls != .palm && !t.suppressed then
        [TrackEvent.touchdown r t.cls t.pos t.zone] else [])
      ++ (if liftedHere b e then [TrackEvent.lift r] else [])
      ++ (if stayedActive b e && classChanged b e then [TrackEvent.reclass r released] else [])
      ++ (if movedHere slopUnits b e then [TrackEvent.move r t.pos] else [])

/-- The position list entry of a slot: its track is ACTIVE at the end of the operation (R66). -/
def slotPlaced (slot : Nat) (e : Option Track) : Option Placed :=
  match e with
  | none => none
  | some t =>
    if t.state = .active then
      let q := t.prev.getD t.pos
      some { track := ⟨slot, t.id⟩, pos := t.pos, dx := (t.pos.x : Int) - q.x, dy := (t.pos.y : Int) - q.y }
    else none

/-! ## The closing operation's slots (R18, R62, R63) -/

/-- A track that a closing or ABORT ends: TENTATIVE, ACTIVE or MISSING (R18). -/
def Track.open_ (t : Track) : Bool := t.state == .tentative || t.confirmed

/-- A slot after a closing or ABORT (R62, R63). -/
def closeSlot (r : Option Track) : Option Track :=
  r.bind fun t =>
    if t.state = .tentative then none
    else if t.confirmed then some (t.finish .cancel)
    else some t

/-- The CANCEL event of a slot that a closing ends (R65). -/
def cancelEvent (slot : Nat) (r : Option Track) : Option TrackEvent :=
  r.bind fun t => if t.confirmed then some (.cancel ⟨slot, t.id⟩) else none

end Sys2Proof.Machine
end

