-- ==== Sys2Proof/Machine/Palm.lean ====
section
/-! DEFINITION. Palm memory (R78 to R85): the four steps of a completion, and PALM_MEMORY_EXPIRY. -/

namespace Sys2Proof.Machine

/-- The first entry of a list that satisfies `p`, and the list without it. -/
def takeFirst {α : Type} (p : α → Bool) : List α → Option (α × List α)
  | [] => none
  | a :: as => if p a then some (a, as) else (takeFirst p as).map fun (x, rest) => (x, a :: rest)

/-- Two boxes overlap: they share a cell (R78). -/
def Box.overlaps (a b : Box) : Bool :=
  decide (a.c0 ≤ b.c1 ∧ b.c0 ≤ a.c1 ∧ a.r0 ≤ b.r1 ∧ b.r0 ≤ a.r1)

/-- The smallest box that holds two boxes (R83). -/
def Box.union (a b : Box) : Box :=
  { c0 := min a.c0 b.c0, c1 := max a.c1 b.c1, r0 := min a.r0 b.r0, r1 := max a.r1 b.r1 }

/-- A track removed from the entry it is bound to: an emptied entry takes the deadline, or goes when
there is none (R80). -/
def unbindFrom (deadline : Option Time) (r : TrackRef) (e : PalmEntry) : Option PalmEntry :=
  if e.bound.contains r then
    let bound := e.bound.filter fun b => b != r
    if bound.isEmpty then
      match deadline with
      | none => none
      | some d => some { e with bound := [], deadline := some d }
    else some { e with bound := bound }
  else some e

/-- A track bound to an entry, which loses its deadline (R81, R82). -/
def PalmEntry.bind (e : PalmEntry) (r : TrackRef) : PalmEntry :=
  { e with bound := e.bound ++ [r], deadline := none }

/-- The first entry that satisfies `p` bound to the track and moved to the head (R81, R82). -/
def bindFirst (p : PalmEntry → Bool) (r : TrackRef) (m : List PalmEntry) : Option (List PalmEntry) :=
  (takeFirst p m).map fun (e, rest) => e.bind r :: rest

/-- An entry of the memory is the recorded hit: entries of a surface have distinct boxes, which no step
before the union changes (R78; log 14). -/
def isHit (hit e : PalmEntry) : Bool := e.surface == hit.surface && e.box == hit.box

/-- The hit step (R81): each hit is bound, or its track is passed on to the new-palm step. -/
def hitStep (hits : List (TrackRef × PalmEntry)) (m : List PalmEntry) : List PalmEntry × List TrackRef :=
  hits.foldl
    (fun (acc : List PalmEntry × List TrackRef) h =>
      match bindFirst (isHit h.2) h.1 acc.1 with
      | some m' => (m', acc.2)
      | none => (acc.1, acc.2 ++ [h.1]))
    (m, [])

/-- The memory without its unbound entry nearest the tail, if it has one (R82). -/
def dropUnbound (m : List PalmEntry) : Option (List PalmEntry) :=
  (takeFirst (fun e => e.bound.isEmpty) m.reverse).map fun (_, rest) => rest.reverse

/-- A new palm bound to the overlapping entry nearest the head, or given a new entry at the head where
there is room or an unbound entry to evict (R82). -/
def placePalm (u : Surface) (box : Box) (r : TrackRef) (m : List PalmEntry) : List PalmEntry :=
  let fresh : PalmEntry := { surface := u, box := box, bound := [r], deadline := none }
  match bindFirst (fun e => e.surface == u && e.box.overlaps box) r m with
  | some m' => m'
  | none =>
    if m.length < Config.palmCapacity then fresh :: m
    else match dropUnbound m with
      | some m' => fresh :: m'
      | none => m

/-- The box of a bound track's last matched blob, from the surface's slots (R83). -/
def boundBox (u : Surface) (slots : List (Option Track)) (r : TrackRef) : Option Box :=
  (slots.getD (r.slot - u.firstSlot) none).bind fun t =>
    if t.id = r.id then some t.feat.box else none

/-- A bound entry of the surface takes the smallest box that holds its tracks' boxes (R83). -/
def followTracks (u : Surface) (slots : List (Option Track)) (e : PalmEntry) : PalmEntry :=
  if e.surface = u then
    match e.bound.filterMap (boundBox u slots) with
    | [] => e
    | b :: bs => { e with box := bs.foldl Box.union b }
  else e

/-- Two overlapping entries merged into the one nearer the head (R83). -/
def PalmEntry.merge (a b : PalmEntry) : PalmEntry :=
  { a with box := a.box.union b.box, bound := a.bound ++ b.bound, deadline := none }

/-- The overlapping pair of the surface nearer the head merged, if there is one (R83). -/
def mergeOnce (u : Surface) : List PalmEntry → Option (List PalmEntry)
  | [] => none
  | e :: es =>
    if e.surface = u then
      match takeFirst (fun x => x.surface == u && x.box.overlaps e.box) es with
      | some (x, rest) => some (e.merge x :: rest)
      | none => (mergeOnce u es).map (e :: ·)
    else (mergeOnce u es).map (e :: ·)

/-- Merging repeated until no two entries of the surface overlap (R83); each merge removes an entry, so
`fuel` of the memory's length does. -/
def mergeAll (u : Surface) : Nat → List PalmEntry → List PalmEntry
  | 0, m => m
  | fuel + 1, m =>
    match mergeOnce u m with
    | some m' => mergeAll u fuel m'
    | none => m

/-- A surface's slots before and after an operation, with their slot numbers. -/
def slotChanges (u : Surface) (before after : List (Option Track)) :
    List (Nat × Option Track × Option Track) :=
  (before.zip after).zipIdx.map fun (be, i) => (u.firstSlot + i, be)

/-- The tracks that left their binding in an operation, in slot order (R80). -/
def unboundTracks (u : Surface) (before after : List (Option Track)) : List TrackRef :=
  (slotChanges u before after).filterMap fun (n, b, e) =>
    if unboundHere b e then b.map fun t => ⟨n, t.id⟩ else none

/-- The tracks the new-palm step handles, in slot order, each with its box (R82). -/
def newPalms (u : Surface) (before after : List (Option Track)) (hits : List (TrackRef × PalmEntry))
    (passed : List TrackRef) : List (TrackRef × Box) :=
  (slotChanges u before after).filterMap fun (n, b, e) =>
    e.bind fun t =>
      let r : TrackRef := ⟨n, t.id⟩
      let bound := hits.any (fun h => h.1 == r) && !passed.contains r
      if becamePalm b e && !bound then some (r, t.feat.box) else none

/-- The palm decisions of a live frame operation applied at its completion, in four steps (R79). -/
def palmAfter (u : Surface) (hold : Nat) (now : Time) (before after : List (Option Track))
    (hits : List (TrackRef × PalmEntry)) (m : List PalmEntry) : List PalmEntry :=
  let deadline := if hold = 0 then none else some (now + msTicks hold)
  let m1 := (unboundTracks u before after).foldl (fun acc r => acc.filterMap (unbindFrom deadline r)) m
  let hit := hitStep hits m1
  let m3 := (newPalms u before after hits hit.2).foldl (fun acc p => placePalm u p.2 p.1 acc) hit.1
  let m4 := m3.map (followTracks u after)
  mergeAll u m4.length m4

/-- PALM_MEMORY_EXPIRY (R84): an entry whose expiry deadline is reached is removed; otherwise nothing
befalls (log 2). -/
def execPalmMemoryExpiry (entry : Nat) (s : State) : Host.Outcome State Fault Refusal :=
  .next <|
    match s.palm[entry]? with
    | some e => if e.deadline.any (reached s.now) then { s with palm := s.palm.eraseIdx entry } else s
    | none => s

end Sys2Proof.Machine
end

