-- ==== Sys2Proof/Machine/Ops.lean ====
section
/-! DEFINITION. The operations the blocks share: offers to the report queue, NOTICEs and REPLYs, surface
states and closing requests, the owner fields and announcements of the track table. -/

namespace Sys2Proof.Machine

/-! ## Part of a state replaced -/

/-- The intake of a surface changed. -/
def State.onIntake (s : State) (u : Surface) (f : Intake → Intake) : State :=
  { s with intake := s.intake.set u (f (s.intake.get u)) }

/-- The baseline store of a surface replaced. -/
def State.setBase (s : State) (u : Surface) (b : Baseline) : State :=
  { s with base := s.base.set u b }

/-- The engine's wait list replaced. -/
def State.setWaitList (s : State) (w : List WaitItem) : State :=
  { s with engine := { s.engine with waitList := w } }

/-- The operation in flight replaced. -/
def State.setOp (s : State) (o : Option Operation) : State :=
  { s with engine := { s.engine with op := o } }

/-- The record of a context slot replaced. -/
def State.setContext (s : State) (k : Nat) (c : Option Context) : State :=
  { s with gestures := { s.gestures with contexts := s.gestures.contexts.set k c } }

/-- The context of a slot changed, if one runs there. -/
def State.onContext (s : State) (k : Nat) (f : Context → Context) : State :=
  { s with gestures := { s.gestures with
      contexts := updateAt s.gestures.contexts k fun c => c.map f } }

/-- The track record in a slot replaced. -/
def TrackTable.put (t : TrackTable) (n : Nat) (r : Option Track) : TrackTable :=
  let u := slotSurface n
  { t with slots := t.slots.set u ((t.slots.get u).set (n - u.firstSlot) r) }

/-- The track record in a slot changed when it holds the named track. -/
def TrackTable.onTrack (t : TrackTable) (r : TrackRef) (f : Track → Option Track) : TrackTable :=
  match t.at r.slot with
  | some tr => if tr.id = r.id then t.put r.slot (f tr) else t
  | none => t

/-! ## The report queue (R176 to R178) -/

/-- A record joins the queue at its tail (R176). -/
def State.enqueue (s : State) (time : Time) (p : Payload) : State :=
  { s with queue := s.queue ++ [{ time := time, payload := p, begun := false }] }

/-- A report is discarded and the report-loss flag set (R177, R182). Its rise is noticed by
`State.noticeRises` (log 6). -/
def State.lose (s : State) : State := { s with link := { s.link with loss := true } }

/-- A CONTACT report that announced nothing: its entries are all ONGOING (R178). -/
def ContactReport.allOngoing (r : ContactReport) : Bool := r.entries.all fun e => e.mark == .ongoing

/-- A record that a GESTURE may evict (R178). -/
def Record.evictable (r : Record) : Bool :=
  !r.begun && match r.payload with
    | .contact c => c.allOngoing
    | .pointer _ => true
    | .pen p => p.shown == .hover
    | .gesture _ => false
    | .notice _ => false
    | .reply _ => false
    | .snapshot _ => false

/-- The queue without its oldest evictable record, if it holds one (R178). -/
def evictOldest : List Record → Option (List Record)
  | [] => none
  | r :: rs => if r.evictable then some rs else (evictOldest rs).map (r :: ·)

/-- A GESTURE record is offered: admitted, admitted after an eviction, or lost (R177, R178). -/
def State.offerGesture (s : State) (time : Time) (g : GestureReport) : State :=
  if hasRoom s.queue then s.enqueue time (.gesture g)
  else match evictOldest s.queue with
    | some q => { s with queue := q }.enqueue time (.gesture g)
    | none => s.lose

/-- A SNAPSHOT record is offered: admitted or lost (R145, R177). -/
def State.offerSnapshot (s : State) (time : Time) (r : SnapshotReport) : State :=
  if hasRoom s.queue then s.enqueue time (.snapshot r) else s.lose

/-! ## NOTICEs and REPLYs (R179, R180) -/

/-- The owed-notice set with the cause of a notice added; an owed surface cause gathers its marks (R180). -/
def Owed.add (o : Owed) : Notice → Owed
  | .reset _ => o
  | .surface _ _ p q =>
    match o.surface with
    | none => { o with surface := some ⟨p, q⟩ }
    | some m => { o with surface := some ⟨m.pad || p, m.panel || q⟩ }
  | .posture _ _ => { o with posture := true }
  | .faultRising => { o with fault := true }
  | .lossRising => { o with loss := true }

/-- A NOTICE made now is admitted, or its cause becomes owed (R177, R180). -/
def State.offerNotice (s : State) (n : Notice) : State :=
  if hasPlace s.queue then s.enqueue s.now (.notice n)
  else { s with link := { s.link with owed := s.link.owed.add n } }

/-- The NOTICEs of FAULT rising and report loss rising, in that order, for what rose since `before`
(R180, R182). Where an event offers them is log 6. -/
def State.noticeRises (before s : State) : State :=
  let s1 := if !before.fault && s.fault then s.offerNotice .faultRising else s
  if !before.link.loss && s.link.loss then s1.offerNotice .lossRising else s1

/-- A REPLY made now is admitted, or waits (R177, R179). -/
def State.offerReply (s : State) (r : Reply) : State :=
  if hasPlace s.queue then s.enqueue s.now (.reply r)
  else { s with link := { s.link with
      waiting := s.link.waiting ++ [{ time := s.now, payload := .reply r, begun := false }] } }

/-- A DONE reply with a body (R175, R195). -/
def State.done (s : State) (tag command : Byte) (body : List Byte) : State :=
  s.offerReply { tag := tag, command := command, code := .done, body := body }

/-- A REFUSED reply with no body (R175, R195). -/
def State.refuse (s : State) (tag command : Byte) (reason : Reason) : State :=
  s.offerReply { tag := tag, command := command, code := .refused reason, body := [] }

/-- A BUSY reply (R175, R195). -/
def State.busy (s : State) (tag command : Byte) : State :=
  s.offerReply { tag := tag, command := command, code := .busy, body := [] }

/-! ## Surface states and closing requests (R9 to R13) -/

/-- The frame timeout deadline as set now: *frame_timeout* ms from now, absent for 0 (R12). -/
def State.timeoutFromNow (s : State) : Option Time :=
  if frameTimeoutMs s.tune = 0 then none else some (s.now + msTicks (frameTimeoutMs s.tune))

/-- The NOTICE of a change of a surface's state: both states, the changed surface marked (R10, R180). -/
def State.surfaceNotice (s : State) (u : Surface) : State :=
  s.offerNotice (.surface s.intake.pad.state s.intake.panel.state (u == .pad) (u == .panel))

/-- A surface enters a state, with its NOTICE when that is a change; entering OFF or FAILED removes the
frame timeout deadline (R10). -/
def State.enterState (s : State) (u : Surface) (st : SurfaceState) : State :=
  let changed := (s.intake.get u).state != st
  let s1 := s.onIntake u fun i =>
    { i with state := st, timeout := if st == .off || st == .failed then none else i.timeout }
  if changed then s1.surfaceNotice u else s1

/-- A surface enters ACQUIRE with its frame timeout deadline set (R10, R12); the error run count is set
to 0 except by recapture (R29). -/
def State.enterAcquire (s : State) (u : Surface) (keepRun : Bool) : State :=
  let s1 := s.onIntake u fun i =>
    { i with timeout := s.timeoutFromNow, errorRun := if keepRun then i.errorRun else 0 }
  s1.enterState u .acquire

/-- The outcome of a waiting closing request with another merged into it (R13). -/
def ClosingOutcome.merge (old new : ClosingOutcome) : ClosingOutcome := if new = .off then .off else old

/-- A closing request merged into the waiting one of its surface (R13). -/
def mergeClosing (u : Surface) (o : ClosingOutcome) (w : WaitItem) : WaitItem :=
  match w.work with
  | .closing old => if w.surface = u then { w with work := .closing (old.merge o) } else w
  | .frame => w

/-- A closing request is posted now for a surface: the ready frame goes uncounted, and the request joins
the wait list or merges; outcome OFF removes the frame timeout deadline (R13). -/
def State.postClosing (s : State) (u : Surface) (o : ClosingOutcome) : State :=
  let s1 := s.onIntake u fun i =>
    { i with ready := none, timeout := if o = .off then none else i.timeout }
  let w := s.engine.waitList.filter fun i => !i.isFrame u
  s1.setWaitList <|
    if w.any (·.isClosing u) then w.map (mergeClosing u o)
    else w ++ [{ key := s.now, surface := u, work := .closing o }]

/-- Recapture of a surface (R29): it enters ACQUIRE, its error run kept, and a closing request with
outcome NONE is posted. -/
def State.recapture (s : State) (u : Surface) : State :=
  (s.enterAcquire u true).postClosing u .none

/-- A surface's acquire state cleared (R22). -/
def State.clearAcquire (s : State) (u : Surface) : State :=
  s.setBase u { s.base.get u with acquired := 0, drift := 0 }

/-! ## Announcements and CONTACT reports (R60, R61, R67, R69) -/

/-- The mark a listed track takes in a report built now (R67). -/
def Track.mark (t : Track) : Option ContactMark :=
  match t.state with
  | .tentative => none
  | .active | .missing => some (if t.startPending then .new else .ongoing)
  | .ended c => if t.endPending then some (.ended c t.startPending) else none

/-- The contact entry of a slot, if its track is listed (R67). -/
def contactEntry (slot : Nat) (t : Option Track) : Option ContactEntry :=
  t.bind fun t => t.mark.map fun m =>
    { track := ⟨slot, t.id⟩, mark := m, cls := t.cls, suppressed := t.suppressed, forced := t.forced,
      owner := t.owner, pos := t.pos, matchArea := t.feat.matchArea, peak := t.feat.peak, zone := t.zone }

/-- The entries of a CONTACT report of a surface built from the track table, in slot order (R67). -/
def TrackTable.entries (t : TrackTable) (u : Surface) : List ContactEntry :=
  (t.slots.get u).zipIdx.filterMap fun (r, i) => contactEntry (u.firstSlot + i) r

/-- What the admission of one entry does: a NEW entry's start is announced, an ENDED entry's slot becomes
FREE (R60). -/
def TrackTable.announce (t : TrackTable) (e : ContactEntry) : TrackTable :=
  match e.mark with
  | .new => t.onTrack e.track fun r => some { r with startPending := false }
  | .ongoing => t
  | .ended _ _ => t.onTrack e.track fun _ => none

/-- A CONTACT report is offered: admitted with its announcements, or dropped (R60, R61, R177). -/
def State.offerContact (s : State) (time : Time) (r : ContactReport) : State :=
  if hasRoom s.queue then
    let s1 := s.enqueue time (.contact r)
    { s1 with tracks := r.entries.foldl TrackTable.announce s.tracks }
  else s

/-- A track has a pending announcement (R69). -/
def Track.pending (t : Track) : Bool :=
  match t.state with
  | .tentative => false
  | .active | .missing => t.startPending
  | .ended _ => true

/-- A surface has a pending announcement (R69). -/
def TrackTable.announcePending (t : TrackTable) (u : Surface) : Bool :=
  (t.slots.get u).any fun r => r.any Track.pending

/-- A CONTACT report of a surface built now and offered (R61, R63, R69). -/
def State.reportContacts (s : State) (u : Surface) (cause : ContactCause) : State :=
  s.offerContact s.now { surface := u, cause := cause, entries := s.tracks.entries u }

/-- The catch-up report of a surface at a departure, when it qualifies (R69). -/
def State.catchUp (s : State) (u : Surface) : State :=
  if s.tracks.announcePending u && !s.engineHas u then s.reportContacts u .catchUp else s

/-! ## Owners (R50) -/

/-- The track table grants a claim of the track (R50). -/
def Track.claimable (t : Track) : Bool := t.confirmed && t.cls != .palm && t.owner.isNone

/-- A claim by a context: granted, with the owner set, or refused (R50). -/
def State.claimTrack (s : State) (r : TrackRef) (k : Nat) : Option State :=
  match s.tracks.at r.slot with
  | some t =>
    if t.id = r.id && t.claimable then
      some { s with tracks := s.tracks.put r.slot (some { t with owner := some k }) }
    else none
  | none => none

/-- A release by a context: the owner becomes none when it is that context (R50). -/
def State.releaseTrack (s : State) (r : TrackRef) (k : Nat) : State :=
  let give (t : Track) : Option Track := some (if t.owner = some k then { t with owner := none } else t)
  { s with tracks := s.tracks.onTrack r give }

/-! ## The pointer and the claims of a context (R123, R149) -/

/-- The pointer is released: no holder and no source, both residues 0 (R149). -/
def State.releasePointer (s : State) : State :=
  { s with motion := { s.motion with pointer := none, residueX := 0, residueY := 0 } }

/-- A track leaves the claims of a context (R123): the pointer goes with its source (R149). The track
table is told by `State.releaseTrack`, except in a forced release (R123). -/
def State.dropClaim (s : State) (k : Nat) (r : TrackRef) : State :=
  let s1 := s.onContext k fun c => { c with claims := c.claims.filter fun e => e.track != r }
  match s.context k, s.motion.pointer with
  | some c, some p => if p.holder = ⟨k, c.serial⟩ ∧ p.source = r then s1.releasePointer else s1
  | _, _ => s1

/-! ## Gates -/

/-- While the reset pin is held asserted the part stays as it is and takes no record (R188). -/
def State.unlessHeld (s : State) (f : State → State) : State := if s.pinHeld then s else f s

/-- What the part sends in the transfer replaced (log 7). -/
def State.setLinkOut (s : State) (o : LinkOut) : State := { s with linkOut := o }

/-- A write transfer, in which the part sends zeros (R191). -/
def State.inWrite (s : State) (f : State → State) : State :=
  s.unlessHeld fun s => f (s.setLinkOut .zeros)

/-- A good write that finds 32 records in the queue is counted and not executed (R174). -/
def State.countDroppedWrite (s : State) : State :=
  State.noticeRises s { s with link := { s.link with droppedWrites := countUp s.link.droppedWrites } }

/-- A complete write with a good check: taken while the queue holds fewer than 32 records, else dropped
and counted (R174). -/
def State.takeWrite (s : State) (f : State → State) : State :=
  s.inWrite fun s => if hasPlace s.queue then f s else s.countDroppedWrite

/-- A bad write is counted (R174). -/
def State.countBadWrite (s : State) : State :=
  State.noticeRises s { s with link := { s.link with badWrites := countUp s.link.badWrites } }

end Sys2Proof.Machine
end

