-- ==== Sys2Proof/Machine/Pen.lean ====
section
/-! DEFINITION. The pen tracker (chapter 06): PEN_SAMPLE and PEN_GUARD_EXPIRY, PEN reports and their
admission, the pen guard, forced exits. -/

namespace Sys2Proof.Machine

/-- A queue whose tail is a hover record not begun, with that record replaced in place (R99, R176). -/
def replaceHover (q : List Record) (time : Time) (r : PenReport) : Option (List Record) :=
  match q.getLast? with
  | some { time := _, payload := .pen old, begun := false } =>
    let merged := { r with recovered := r.recovered || old.recovered }
    if old.shown = .hover then
      some (q.dropLast ++ [{ time := time, payload := .pen merged, begun := false }])
    else none
  | _ => none

/-- A PEN report is offered: a hover record replaces one at the tail or is admitted or dropped; any other
is admitted or lost (R99, R177). -/
def State.offerPen (s : State) (r : PenReport) : State :=
  match r.shown with
  | .hover =>
    match replaceHover s.queue s.now r with
    | some q => { s with queue := q }
    | none => if hasRoom s.queue then s.enqueue s.now (.pen r) else s
  | .ink | .out => if hasRoom s.queue then s.enqueue s.now (.pen r) else s.lose

/-- The PEN report of the tracker as it stands after the event (R99). -/
def State.reportPen (s : State) (shown : PenShown) (lost recovered : Bool) : State :=
  s.offerPen { shown := shown, held := s.pen.held, lost := lost, recovered := recovered }

/-- The pen guard deadline as set now: *pen_guard* ms from now, absent for 0 (R101). -/
def State.guardFromNow (s : State) : Option Time :=
  if penGuardMs s.tune = 0 then none else some (s.now + msTicks (penGuardMs s.tune))

/-- A PEN_INK event handed to the gesture engine; it replaces one that waits (R100, R124). -/
def State.handPenInk (s : State) : State :=
  let ink : PenInk :=
    { pos := s.pen.held.pos, pressure := s.pen.held.pressure, time := s.now, handed := s.now }
  { s with gestures := { s.gestures with penInk := some ink } }

/-- The pen is taken to OUT from outside the sample stream (R98). -/
def State.penForcedExit (s : State) : State :=
  let s1 := { s with pen := { s.pen with mode := .out, coast := 0, guard := none } }
  if s.pen.mode = .out then s1 else s1.reportPen .out true false

/-- A pen sample is set aside (R93). -/
def State.setsAside (s : State) : Bool :=
  s.link.part != .run || !s.entry.penEnable || s.intake.panel.state == .off

/-- The held sample that a valid sample's fields give, brought into range (R94). -/
def heldSample (flags : Byte) (x y pressure : Half) (tiltX tiltY quality : Byte) : PenHeld :=
  { pos := ⟨min x.toNat Surface.panel.maxX, min y.toNat Surface.panel.maxY⟩
    pressure := min pressure.toNat 4095
    tiltX := clampInt (-60) 60 tiltX.toInt
    tiltY := clampInt (-60) 60 tiltY.toInt
    barrel := flags.getLsbD 2
    eraser := flags.getLsbD 3
    invert := flags.getLsbD 4
    quality := quality.toNat }

/-- A sample is valid: in range, its quality at least *pen_quality_min* (R93). -/
def sampleValid (t : List Nat) (flags quality : Byte) : Bool :=
  flags.getLsbD 0 && decide (penQualityMin t ≤ quality.toNat)

/-- A tip-down sample puts the pen in INK: the guard goes, a PEN report and, where INK is entered, a
PEN_INK event are made (R95, R97, R100, R101). -/
def State.penInk (s : State) (entered recovered : Bool) : State :=
  let s1 := { s with pen := { s.pen with mode := .ink, coast := 0, guard := none } }
  let s2 := s1.reportPen .ink false recovered
  if entered then s2.handPenInk else s2

/-- A tip-up sample puts the pen in HOVER with a PEN report; an exit from inking sets the guard (R95,
R97, R101). -/
def State.penHover (s : State) (fromInk recovered : Bool) : State :=
  let guard := if fromInk then s.guardFromNow else s.pen.guard
  let s1 := { s with pen := { s.pen with mode := .hover, coast := 0, guard := guard } }
  s1.reportPen .hover false recovered

/-- The pen was inking: in INK, or coasting from it. -/
def PenMode.fromInk : PenMode → Bool
  | .out => false
  | .hover => false
  | .ink => true
  | .coast .hover => false
  | .coast .ink => true

/-- The pen is coasting. -/
def PenMode.coasting : PenMode → Bool
  | .out => false
  | .hover => false
  | .ink => false
  | .coast _ => true

/-- A valid sample (R95, R97): the held sample is replaced first. -/
def State.takeValid (s : State) (held : PenHeld) (tipDown : Bool) : State :=
  let mode := s.pen.mode
  let s1 := { s with pen := { s.pen with held := held } }
  if tipDown then s1.penInk (mode != .ink) mode.coasting
  else s1.penHover mode.fromInk mode.coasting

/-- An invalid sample taken in COAST (R96): the pen is lost at *pen_coast_limit*. -/
def State.coastOn (s : State) (origin : CoastOrigin) : State :=
  if penCoastLimit s.tune ≤ s.pen.coast + 1 then
    let guard := if origin = .ink then s.guardFromNow else s.pen.guard
    let s1 := { s with pen := { s.pen with
        mode := .out, coast := 0, guard := guard, lost := countUp s.pen.lost } }
    s1.reportPen .out true false
  else { s with pen := { s.pen with coast := s.pen.coast + 1 } }

/-- An invalid sample (R96). -/
def State.takeInvalid (s : State) : State :=
  match s.pen.mode with
  | .out => s
  | .hover => { s with pen := { s.pen with mode := .coast .hover, coast := 1 } }
  | .ink => { s with pen := { s.pen with mode := .coast .ink, coast := 1 } }
  | .coast origin => s.coastOn origin

/-- PEN_SAMPLE (R8, R93 to R97): set aside, or taken as valid or invalid. -/
def execPenSample (flags : Byte) (x y pressure : Half) (tiltX tiltY quality : Byte) (s : State) :
    Host.Outcome State Fault Refusal :=
  .next <| s.unlessHeld fun s =>
    if s.setsAside then s
    else if sampleValid s.tune flags quality then
      State.noticeRises s
        (s.takeValid (heldSample flags x y pressure tiltX tiltY quality) (flags.getLsbD 1))
    else State.noticeRises s s.takeInvalid

/-- PEN_GUARD_EXPIRY (R102): a reached pen guard deadline is removed; without one nothing befalls (log 2). -/
def execPenGuardExpiry (s : State) : Host.Outcome State Fault Refusal :=
  .next <| if s.pen.guard.any (reached s.now) then { s with pen := { s.pen with guard := none } } else s

end Sys2Proof.Machine
end

