-- ==== Sys2Proof/Machine/Posture.lean ====
section
/-! DEFINITION. The posture unit (chapter 07): the POSTURE command in its forms and what a change, or a
switch of the POSTURE table, does to the surfaces and the pen. -/

namespace Sys2Proof.Machine

/-- A closing request with outcome OFF of a surface has its outcome turned to ACQUIRE (R13). -/
def turnWaiting (u : Surface) (w : WaitItem) : WaitItem :=
  if w.surface = u ∧ w.work = .closing .off then { w with work := .closing .acquire } else w

/-- The same for the operation in flight (R13). -/
def turnInFlight (u : Surface) (o : Operation) : Operation :=
  match o.work with
  | .closing key .off => if o.surface = u then { o with work := .closing key .acquire } else o
  | _ => o

/-- An operation is a closing of the surface with this outcome. -/
def Operation.closes (o : Operation) (u : Surface) (out : ClosingOutcome) : Bool :=
  o.surface == u && match o.work with
    | .closing _ x => x == out
    | .frame _ => false

/-- Closing requests with this outcome wait or are in flight for a surface (R13). -/
def State.closings (s : State) (u : Surface) (out : ClosingOutcome) : Bool :=
  s.engine.waitList.any (fun w => w.surface == u && w.work == .closing out)
    || s.engine.op.any (·.closes u out)

/-- Closing requests with outcome OFF wait or are in flight for a surface (R13). -/
def State.offClosings (s : State) (u : Surface) : Bool := s.closings u .off

/-- A surface the posture enables, by the part state and the surface (R13, R115). One that is OFF while closings
already turned to ACQUIRE wait or are in flight, and is enabled again, enters ACQUIRE at once: R115's first row
and R118 say so, R13 has it enter when those requests complete, and R118 has a switch to the same enables do
nothing; the model's choice (log 12). -/
def State.enableSurface (s : State) (u : Surface) : State :=
  if s.link.part = .run then
    if s.offClosings u then
      { s with engine := { waitList := s.engine.waitList.map (turnWaiting u),
                           op := s.engine.op.map (turnInFlight u) } }
    else if (s.intake.get u).state = .off then s.enterAcquire u false
    else s
  else s

/-- A surface the posture disables: a closing request with outcome OFF unless it is OFF (R114). One that is OFF
while a closing turned to ACQUIRE waits or is in flight is disabled a second time before completion, and gets
its request too, so that it ends as this change leaves it (R13; log 12). -/
def State.disableSurface (s : State) (u : Surface) : State :=
  if (s.intake.get u).state = .off ∧ s.closings u .acquire = false then s else s.postClosing u .off

/-- The surface action that an entry calls for (R113). -/
def State.applySurface (s : State) (e : PostureEntry) (u : Surface) : State :=
  if e.enablesSurface u then s.enableSurface u else s.disableSurface u

/-- The current entry applied to the pad, the panel and the pen, in that order (R113 to R116, R118). -/
def State.applyEntry (s : State) : State :=
  let e := s.entry
  let s1 := (s.applySurface e .pad).applySurface e .panel
  if e.penEnable then s1 else s1.penForcedExit

/-- A change of the current posture: its NOTICE, then the new entry's effects (R113, R119). -/
def State.changePosture (s : State) (p : Posture) : State :=
  let s1 := { s with posture := p }
  (s1.offerNotice (.posture p s1.angle)).applyEntry

/-- The DONE of a POSTURE command (R110, R195). -/
def State.postureDone (s : State) (tag : Byte) (changed : Bool) : State :=
  s.done tag 0x08 ([byteOf s.posture.code] ++ natBytes2 s.angle ++ [flagByte changed])

/-- A posture set by a command, and the command answered (R110, R113; log 6). -/
def State.setPosture (s : State) (tag : Byte) (p : Posture) : State :=
  if p = s.posture then s.postureDone tag false
  else (State.noticeRises s (s.changePosture p)).postureDone tag true

/-- POSTURE in code form, taken (R111). -/
def State.takePostureCode (s : State) (tag : Byte) (value : Half) : State :=
  match Posture.ofCode value.toNat with
  | some p => s.setPosture tag p
  | none => s.refuse tag 0x08 .range

/-- The angle lies within the current posture's widened band (R112, step 1). -/
def staysInBand (e : PostureEntry) (hysteresis angle : Nat) : Bool :=
  !e.bandEmpty && decide (e.bandMin ≤ angle + hysteresis ∧ angle ≤ e.bandMax + hysteresis)

/-- The posture whose band holds the angle (R112, step 2). -/
def postureAt (t : Tables) (angle : Nat) : Option Posture :=
  Posture.all.find? fun p => (t.postureEntry p).bandHolds angle

/-- The posture an angle leads to: stay, move or hold (R112). -/
def State.postureFor (s : State) (angle : Nat) : Posture :=
  if staysInBand s.entry (angleHysteresis s.tune) angle then s.posture
  else (postureAt s.tables.active angle).getD s.posture

/-- POSTURE in angle form, taken (R112): the clamped angle is recorded in every case. -/
def State.takePostureAngle (s : State) (tag : Byte) (value : Half) : State :=
  let angle := min value.toNat 360
  { s with angle := angle }.setPosture tag (s.postureFor angle)

/-- POSTURE in neither form, taken (R110). -/
def State.takePostureBadForm (s : State) (tag : Byte) : State := s.refuse tag 0x08 .range

/-- POSTURE_CODE (R111). -/
def execPostureCode (tag : Byte) (value : Half) (s : State) : Host.Outcome State Fault Refusal :=
  .next <| s.takeWrite fun s => s.takePostureCode tag value

/-- POSTURE_ANGLE (R112). -/
def execPostureAngle (tag : Byte) (value : Half) (s : State) : Host.Outcome State Fault Refusal :=
  .next <| s.takeWrite fun s => s.takePostureAngle tag value

/-- POSTURE_BAD_FORM (R110). -/
def execPostureBadForm (tag _form : Byte) (_value : Half) (s : State) : Host.Outcome State Fault Refusal :=
  .next <| s.takeWrite fun s => s.takePostureBadForm tag

end Sys2Proof.Machine
end

