-- ==== Sys2Proof/Machine/TableStore.lean ====
section
/-! DEFINITION. The table store (chapter 10): LOAD, DISCARD, validation, CHECK, COMMIT, the switches and
the end of a commit. -/

namespace Sys2Proof.Machine

/-! ## Writing staging (R162, R163) -/

/-- The range of a LOAD fits its part (R162, step 3). -/
def loadFits (t : Tables) (p : Part) (offset n : Nat) : Bool :=
  match p.capacity with
  | none => decide (offset + n ≤ t.partLength p)
  | some cap => decide (offset ≤ t.partLength p ∧ offset + n ≤ cap)

/-- The part and the entries that a LOAD names, if they can be written (R162, steps 2 and 3). -/
def loadTarget (t : Tables) (kind part : Byte) (offset : Half) (entries : List Byte) :
    Option (Part × List (List Byte)) :=
  (partOf kind.toNat part.toNat).bind fun p =>
    (splitEntries p entries).bind fun es =>
      if loadFits t p offset.toNat es.length then some (p, es) else none

/-- LOAD, taken (R162). -/
def State.takeLoad (s : State) (tag kind part : Byte) (offset : Half) (entries : List Byte) : State :=
  if s.tables.commit.isSome then s.busy tag 0x01
  else match loadTarget s.tables.staging kind part offset entries with
    | none => s.refuse tag 0x01 .range
    | some (p, es) =>
      let store := { s.tables with
        staging := s.tables.staging.write p offset.toNat es, dirty := s.tables.dirty.add p.kind }
      { s with tables := store }.done tag 0x01 []

/-- DISCARD, taken (R163). -/
def State.takeDiscard (s : State) (tag : Byte) : State :=
  if s.tables.commit.isSome then s.busy tag 0x02
  else
    { s with tables := { s.tables with staging := s.tables.active, dirty := KindSet.empty } }.done tag 0x02 []

/-! ## Validation (R164) -/

/-- The validation checks with their codes (R164, R195). -/
inductive Check where
  | zoneValue
  | code
  | maskEmpty
  | limit
  | order
  | overlap
  | ascent
  | tracks
  | states
  | rowRange
  | rowOverlap
  | emitCode
  | fromState
  | nextState
  | pointerPanel
  | duplicate
deriving DecidableEq, Repr

/-- A check's code (R195). -/
def Check.number : Check → Nat
  | .zoneValue => 1
  | .code => 2
  | .maskEmpty => 3
  | .limit => 4
  | .order => 5
  | .overlap => 6
  | .ascent => 7
  | .tracks => 8
  | .states => 9
  | .rowRange => 10
  | .rowOverlap => 11
  | .emitCode => 12
  | .fromState => 13
  | .nextState => 14
  | .pointerPanel => 15
  | .duplicate => 16

/-- A failure: kind, part, entry, the column for ZONE, and the check (R164). -/
structure Failure where
  kind : Kind
  part : Nat
  entry : Nat
  column : Nat
  check : Check
deriving DecidableEq, Repr

/-- The bytes of a failure (R195). -/
def Failure.bytes (f : Failure) : List Byte :=
  [byteOf f.kind.code, byteOf f.part] ++ natBytes2 f.entry ++ [byteOf f.column, byteOf f.check.number]

/-- The first check of a list that fails; each comes with whether it fails. -/
def firstFailing (l : List (Check × Bool)) : Option Check := (l.find? fun c => c.2).map Prod.fst

/-- The first entry of a part, in ascending order, with a failing check (R164). -/
def firstFailure {α : Type} (kind : Kind) (part : Nat) (checks : α → Nat → List (Check × Bool))
    (entries : List α) : Option Failure :=
  entries.zipIdx.findSome? fun (e, i) =>
    (firstFailing (checks e i)).map fun c => { kind := kind, part := part, entry := i, column := 0, check := c }

/-- The first bad zone value of a ZONE part, by row and column (R164). -/
def zoneFailure (part : Nat) (rows : List (List Nat)) : Option Failure :=
  rows.zipIdx.findSome? fun (row, r) =>
    row.zipIdx.findSome? fun (z, c) =>
      if 7 < z then some { kind := .zone, part := part, entry := r, column := c, check := .zoneValue } else none

/-- A range limit lies outside the values R71 gives its feature. -/
def limitOutside (lo hi a b : Nat) : Bool := !(within lo hi a && within lo hi b)

/-- The checks of a shape rule, in order (R164). -/
def shapeChecks (r : ShapeRule) (_ : Nat) : List (Check × Bool) :=
  [(.code, (classOf r.cls).isNone || decide (2 < r.edge)),
   (.maskEmpty, r.surfaces == 0),
   (.limit, limitOutside 1 255 r.areaMin r.areaMax || limitOutside 0 2047 r.peakMin r.peakMax
      || limitOutside 1 256 r.flatMin r.flatMax || limitOutside 16 768 r.elongMin r.elongMax),
   (.order, decide (r.areaMax < r.areaMin) || decide (r.peakMax < r.peakMin)
      || decide (r.flatMax < r.flatMin) || decide (r.elongMax < r.elongMin))]

/-- Two bands that are not empty share an angle (R164). -/
def bandsShare (a b : PostureEntry) : Bool :=
  !a.bandEmpty && !b.bandEmpty && decide (a.bandMin ≤ b.bandMax ∧ b.bandMin ≤ a.bandMax)

/-- The checks of a posture entry, in order (R164). -/
def postureChecks (all : List PostureEntry) (e : PostureEntry) (i : Nat) : List (Check × Bool) :=
  [(.limit, decide (360 < e.bandMin) || decide (360 < e.bandMax)),
   (.order, decide (e.bandMax < e.bandMin)),
   (.overlap, (all.take i).any (bandsShare e))]

/-- The checks of a knot, in order (R164). -/
def knotChecks (all : List Knot) (k : Knot) (i : Nat) : List (Check × Bool) :=
  [(.limit, decide (4095 < k.gain)),
   (.ascent, decide (0 < i) && (all.getD (i - 1) k).speed ≥ k.speed)]

/-- Two templates' rows share a row (R164). -/
def rowsShare (a b : Template) : Bool :=
  decide (max a.firstRow b.firstRow < min (a.firstRow + a.rowCount) (b.firstRow + b.rowCount))

/-- The checks of a template, in order (R164). A template with no rows passes ROW_RANGE wherever its first row
lies, and ROW_OVERLAP, since it shares no row. -/
def templateChecks (all : List Template) (rowLength : Nat) (t : Template) (i : Nat) : List (Check × Bool) :=
  [(.code, (surfaceOf t.surface).isNone),
   (.limit, decide (7 < t.priority)),
   (.tracks, decide (t.maxTracks < 1 ∨ 5 < t.maxTracks)),
   (.states, decide (t.states < 1 ∨ 32 < t.states)),
   (.rowRange, decide (0 < t.rowCount ∧ rowLength < t.firstRow + t.rowCount)),
   (.rowOverlap, (all.take i).any (rowsShare t))]

/-- An action place has an unknown code: its kind, an EMIT phase or an ACC_START axis (R164). -/
def ActionWord.badCode (a : ActionWord) : Bool :=
  decide (14 < a.kind) || (a.kind == 9 && (emitPhaseOf (a.operand / 256)).isNone)
    || (a.kind == 10 && (axisOf (a.operand % 256)).isNone)

/-- An action place is a BUTTON that names none of the buttons 1 to 3 (R164). -/
def ActionWord.badButton (a : ActionWord) : Bool :=
  a.kind == 14 && decide (a.operand % 256 < 1 ∨ 3 < a.operand % 256)

/-- An action place is an EMIT whose code lies outside 1 to 63 (R164). -/
def ActionWord.badEmitCode (a : ActionWord) : Bool :=
  a.kind == 9 && decide (a.operand % 256 < 1 ∨ 63 < a.operand % 256)

/-- An action place is POINTER_ON or POINTER_OFF (R164). -/
def ActionWord.isPointer (a : ActionWord) : Bool := a.kind == 12 || a.kind == 13

/-- A template's row range holds a row index: it owns the row (R164). -/
def Template.ownsRow (t : Template) (i : Nat) : Bool :=
  decide (t.firstRow ≤ i ∧ i < t.firstRow + t.rowCount)

/-- Two rows have the same from-state, event kind, guard kind and guard operand (R164). -/
def Row.sameKey (a b : Row) : Bool :=
  a.fromState == b.fromState && a.event == b.event && a.guard == b.guard && a.operand == b.operand

/-- The checks of a row that name its owning template (R164). -/
def ownedChecks (rows : List Row) (t : Template) (r : Row) (i : Nat) : List (Check × Bool) :=
  [(.fromState, decide (r.fromState < 1 ∨ t.states < r.fromState)),
   (.nextState, decide (t.states < r.next)),
   (.pointerPanel, t.surface == 1 && r.places.any (·.isPointer)),
   (.duplicate, ((rows.take i).drop t.firstRow).any (r.sameKey ·))]

/-- The checks of a transition row, in order (R164). -/
def rowChecks (templates : List Template) (rows : List Row) (r : Row) (i : Nat) : List (Check × Bool) :=
  [(.code, decide (r.event < 1 ∨ 8 < r.event) || decide (9 < r.guard) || r.places.any (·.badCode)),
   (.limit, r.places.any (·.badButton)),
   (.emitCode, r.places.any (·.badEmitCode))]
    ++ match templates.find? (·.ownsRow i) with
      | none => []
      | some t => ownedChecks rows t r i

/-- Validation of one kind of a staging copy (R164); TUNE has no failing check. -/
def validateKind (t : Tables) : Kind → Option Failure
  | .tune => none
  | .zone => (zoneFailure 0 t.zonePad).or (zoneFailure 1 t.zonePanel)
  | .shape => firstFailure .shape 0 shapeChecks t.shape
  | .posture => firstFailure .posture 0 (postureChecks t.posture) t.posture
  | .curve => firstFailure .curve 0 (knotChecks t.curve) t.curve
  | .program =>
    (firstFailure .program 0 (templateChecks t.templates t.rows.length) t.templates).or
      (firstFailure .program 1 (rowChecks t.templates t.rows) t.rows)

/-- The first failure of the kinds of a set, taken in order (R164). -/
def validateKinds (t : Tables) (ks : KindSet) : Option Failure :=
  Kind.all.findSome? fun k => if ks.has k then validateKind t k else none

/-! ## Clamping TUNE (R165) -/

/-- A TUNE value clamped to its parameter's range (R165). -/
def clampTune (p : Nat × TuneRange) : Nat := clampNat p.2.lo p.2.hi p.1

/-- The TUNE values of a copy clamped (R165). -/
def clampedTune (t : List Nat) : List Nat := (t.zip tuneRanges).map clampTune

/-- How many TUNE values a clamp changes (R165). -/
def clampCount (t : List Nat) : Nat := (t.zip tuneRanges).countP fun p => clampTune p != p.1

/-! ## CHECK, COMMIT and the switches (R166 to R170) -/

/-- CHECK, taken (R166). -/
def State.takeCheck (s : State) (tag : Byte) : State :=
  let st := s.tables
  let failure := validateKinds st.staging st.dirty
  let fields := (failure.map Failure.bytes).getD (List.replicate 6 0)
  let count := if st.dirty.tune then clampCount st.staging.tune else 0
  s.done tag 0x03 ([byteOf st.dirty.mask, flagByte failure.isSome] ++ fields ++ [byteOf count])

/-- The frame-side set of the pending commit switches whole; a switched POSTURE table applies the current
posture's new entry (R118, R168). -/
def State.switchFrameSide (s : State) : State :=
  match s.tables.commit with
  | none => s
  | some c =>
    if c.frameSide = KindSet.empty then s
    else
      let store := { s.tables with
        active := s.tables.active.takeKinds s.tables.staging c.frameSide
        commit := some { c with frameSide := KindSet.empty } }
      let s1 := { s with tables := store }
      if c.frameSide.posture then s1.applyEntry else s1

/-- PROGRAM switches: the committed program becomes active, the store marks it as switched and the program
switch no longer waits (R143, R169). -/
def State.installProgram (s : State) : State :=
  let store := { s.tables with
    active := s.tables.active.takeKind s.tables.staging .program
    commit := s.tables.commit.map fun c => { c with program := false } }
  { s with tables := store, gestures := { s.gestures with switchWaiting := false } }

/-- PROGRAM switches if it has still to (R167, R170). -/
def State.switchProgram (s : State) : State :=
  if s.tables.commit.any (·.program) then s.installProgram else s

/-- The commit ends when nothing of it has still to switch, with its DONE (R169, R195). -/
def State.endCommit (s : State) : State :=
  match s.tables.commit with
  | none => s
  | some c =>
    if c.frameSide = KindSet.empty ∧ c.program = false then
      let s1 := { s with tables := { s.tables with dirty := KindSet.empty, commit := none } }
      s1.done c.tag 0x04 [byteOf c.clamped, byteOf s.tables.dirty.mask]
    else s

/-- A commit accepted: staging TUNE clamped, the commit record made (R167). -/
def State.acceptCommit (s : State) (tag : Byte) : State :=
  let st := s.tables
  let clamps := if st.dirty.tune then clampCount st.staging.tune else 0
  let staging := if st.dirty.tune then { st.staging with tune := clampedTune st.staging.tune } else st.staging
  let record : CommitRecord :=
    { tag := tag, frameSide := st.dirty.frameSide, program := st.dirty.program, clamped := clamps }
  { s with tables := { st with staging := staging, commit := some record } }

/-- The switches that come about in taking a COMMIT (R167, R168). -/
def State.switchAtCommit (s : State) : State :=
  if s.link.part = .hold then s.switchFrameSide.switchProgram
  else
    let s1 := if s.engine.op.isNone then s.switchFrameSide else s
    { s1 with gestures := { s1.gestures with switchWaiting := s.tables.dirty.program } }

/-- COMMIT, taken (R167). -/
def State.takeCommit (s : State) (tag : Byte) : State :=
  if s.tables.commit.isSome then s.busy tag 0x04
  else if s.tables.dirty = KindSet.empty then s.done tag 0x04 [0, 0]
  else match validateKinds s.tables.staging s.tables.dirty with
    | some f =>
      s.offerReply { tag := tag, command := 0x04, code := .refused .invalid, body := f.bytes }
    | none => (State.noticeRises s (s.acceptCommit tag).switchAtCommit).endCommit

/-- A commit still pending at the entry to HOLD switches the rest of its tables (R170). -/
def State.switchAtHold (s : State) : State := s.switchFrameSide.switchProgram

/-- LOAD (R162). -/
def execLoad (tag kind part : Byte) (offset : Half) (entries : List Byte) (s : State) :
    Host.Outcome State Fault Refusal :=
  .next <| s.takeWrite fun s => s.takeLoad tag kind part offset entries

/-- DISCARD (R163). -/
def execDiscard (tag : Byte) (s : State) : Host.Outcome State Fault Refusal :=
  .next <| s.takeWrite fun s => s.takeDiscard tag

/-- CHECK (R166). -/
def execCheck (tag : Byte) (s : State) : Host.Outcome State Fault Refusal :=
  .next <| s.takeWrite fun s => s.takeCheck tag

/-- COMMIT (R167). -/
def execCommit (tag : Byte) (s : State) : Host.Outcome State Fault Refusal :=
  .next <| s.takeWrite fun s => s.takeCommit tag

end Sys2Proof.Machine
end

