-- ==== Sys2Proof/Machine/FrameEngine.lean ====
section
/-! DEFINITION. The frame engine (R14 to R18): FRAME_OPERATION_BEGIN with its snapshot,
FRAME_OPERATION_COMPLETE and HELD_OPERATION_COMPLETE with all that takes hold at a completion. -/

namespace Sys2Proof.Machine

/-! ## Taking an item (R14, R15) -/

/-- The engine may take an item: any in RUN, closing requests alone in STOPPING and HOLD (R14). -/
def mayTake (part : PartState) (w : WaitItem) : Bool :=
  part == .run || match w.work with
    | .frame => false
    | .closing _ => true

/-- The item the engine takes: of the first of each surface that it may take, the one with the earliest
key, the pad's at equal keys (R14). -/
def nextItem (part : PartState) (wait : List WaitItem) : Option WaitItem :=
  let first (u : Surface) := wait.find? fun w => w.surface == u && mayTake part w
  match first .pad, first .panel with
  | some p, some q => if earlier q.key p.key then some q else some p
  | some p, none => some p
  | none, some q => some q
  | none, none => none

/-- The snapshot that an operation on a surface takes when it begins (R15, R106; log 8). -/
def State.snapshot (s : State) (u : Surface) : Snapshot :=
  { tables := s.tables.active, posture := s.posture, pen := s.pen.mode, penPos := s.pen.held.pos,
    shadow := s.shadow, padQuiet := s.padQuiet, palm := s.palm, state := (s.intake.get u).state,
    base := s.base.get u, tracks := s.tracks }

/-- The operation on a surface put in flight, working. -/
def State.beginOn (s : State) (u : Surface) (work : OpWork) : State :=
  s.setOp (some { surface := u, work := work, snap := s.snapshot u, held := false })

/-- An item taken from the wait list begins its operation (R15); a frame leaves the ready buffer and is
counted. -/
def State.takeItem (s : State) (w : WaitItem) : State :=
  let s1 := s.setWaitList (s.engine.waitList.erase w)
  match w.work with
  | .closing o => s1.beginOn w.surface (.closing w.key o)
  | .frame =>
    match (s.intake.get w.surface).ready with
    | none => s1
    | some f =>
      (s1.onIntake w.surface fun i => { i with ready := none, taken := countUp i.taken }).beginOn
        w.surface (.frame f)

/-- FRAME_OPERATION_BEGIN (R14, R15): the idle engine takes an item; with none to take nothing befalls
(log 2). -/
def execFrameOperationBegin (s : State) : Host.Outcome State Fault Refusal :=
  .next <|
    if s.engine.op.isSome then s
    else match nextItem s.link.part s.engine.waitList with
      | some w => s.takeItem w
      | none => s

/-! ## Effects of an acquisition (R23, R24) -/

/-- The baseline store after an acquisition frame (R23). -/
def acquireBase (b : Baseline) (raw : List (List Nat)) : Baseline :=
  { b with values := acquireValues b.acquired b.values raw, acquired := min (b.acquired + 1) 15 }

/-- An acquisition operation completes: its baseline takes hold, and the surface enters LIVE when the
count is reached, the state is ACQUIRE and no closing request waits (R23, R24). -/
def State.completeAcquire (s : State) (u : Surface) (sn : Snapshot) (f : ReadyFrame) : State :=
  let b := acquireBase sn.base f.samples
  let s1 := s.setBase u b
  if acquireFrames sn.tables.tune ≤ b.acquired ∧ (s.intake.get u).state = .acquire
      ∧ s.closingWaits u = false then
    (s1.setBase u { b with drift := 0 }).enterState u .live
  else s1

/-! ## Effects of a live frame (R16, R25 to R29, R50, R79, R88, R105) -/

/-- The frame is an anti-touch frame (R28). -/
def antiTouch (sn : Snapshot) (raw : List (List Nat)) : Bool :=
  decide (recapCells sn.tables.tune
    ≤ antiTouchCells (recapThreshold sn.tables.tune) sn.base.values raw)

/-- The baseline store after a live frame: the drift count advances, and a drift frame that is no
anti-touch frame applies the drift step (R26, R27). -/
def liveBase (sn : Snapshot) (u : Surface) (boxes : List Box) (raw : List (List Nat)) : Baseline :=
  let count := nextDrift (driftShift sn.tables.tune) sn.base.drift
  { sn.base with
    drift := count
    values :=
      if count = 0 && !antiTouch sn raw then
        driftValues u (driftWindow sn.tables.tune) boxes sn.base.values raw
      else sn.base.values }

/-- What a live frame operation computes from its snapshot (R15): what extraction hands on, the opened
tracks, and the surface's slots before and after, with the anchors that a MOVE settles. -/
structure LiveResult where
  extraction : Extraction
  opening : Opening
  before : List (Option Track)
  after : List (Option Track)
deriving DecidableEq, Repr

/-- The work of a live frame operation (R15, R34 to R77). -/
def liveWork (sn : Snapshot) (u : Surface) (f : ReadyFrame) : LiveResult :=
  let ex := extract sn u f.samples
  let op := trackFrame sn u f.time ex.blobs
  { extraction := ex, opening := op, before := sn.tracks.slots.get u, after := op.table.slots.get u }

/-- The owner that a completion leaves in a slot (R50): as it stands now for a track that goes on, none
for one opened here or released by force. -/
def ownerAfter (b e now : Option Track) : Option Nat :=
  if goesOn b e && sameTrack now e && !votedPalm b e then now.bind Track.owner else none

/-- A slot as a live completion leaves it: its anchor settled and its owner set (R50, R65). -/
def finishSlot (slopUnits : Nat) (b e now : Option Track) : Option Track :=
  (settleAnchor slopUnits b e).map fun t => { t with owner := ownerAfter b e now }

/-- The context that a track which became PALM by its vote is released from: its owner at the
completion, if a context runs there (R88). -/
def State.releasedFrom (s : State) (slot : Nat) (b e : Option Track) : Option ContextRef :=
  if votedPalm b e && sameTrack (s.tracks.at slot) e then
    ((s.tracks.at slot).bind Track.owner).bind fun k =>
      (s.context k).map fun c => ⟨k, c.serial⟩
  else none

/-- A surface's slots before, after and now, each with its slot number. -/
def slotTriples (u : Surface) (before after now : List (Option Track)) :
    List (Nat × Option Track × Option Track × Option Track) :=
  (before.zip (after.zip now)).zipIdx.map fun (t, i) => (u.firstSlot + i, t)

/-- A forced release takes hold in the engine's list and the motion unit (R88, R123, R149). -/
def State.forceRelease (s : State) (slot : Nat) (b e : Option Track) : State :=
  match s.releasedFrom slot b e, e with
  | some c, some t => s.dropClaim c.slot ⟨slot, t.id⟩
  | _, _ => s

/-- A change of the handedness vote by one palm (R105). -/
def voteFor (penX : Nat) (vote : Int) (x : Nat) : Int :=
  if penX < x then clampInt (-8) 8 (vote + 1)
  else if x < penX then clampInt (-8) 8 (vote - 1) else vote

/-- The positions handed to the pen tracker: tracks that became PALM here through the shape table or the
vote, not by forcing (R89). -/
def votingPalms (before after : List (Option Track)) : List Nat :=
  (before.zip after).filterMap fun (b, e) =>
    if becamePalm b e && e.any (fun t => !t.forced) then e.map fun t => t.pos.x else none

/-- The handedness vote after a live completion: panel operations whose snapshot holds a shadow alone
hand over palms (R89, R105). -/
def voteAfter (sn : Snapshot) (u : Surface) (vote : Int) (before after : List (Option Track)) : Int :=
  if u == .panel && sn.shadow.isSome then
    (votingPalms before after).foldl (voteFor sn.penPos.x) vote
  else vote

/-- A report built by an operation is offered under its contact mode (R68): always under EVERY; under
ON_CHANGE when an entry is NEW or ENDED, or a listed class changed or a MOVE was made. -/
def buildsReport (mode : Nat) (entries : List ContactEntry) (changed : Bool) : Bool :=
  mode == 0 || entries.any (fun e => e.mark != .ongoing) || changed

/-- A listed track's class changed or a MOVE was made in a live operation (R68). -/
def liveChanged (slopUnits : Nat) (before after : List (Option Track)) : Bool :=
  (before.zip after).any fun (b, e) =>
    movedHere slopUnits b e || (classChanged b e && (e.bind Track.mark).isSome)

/-- The digest of a live frame operation as its completion leaves the table (R64 to R66, R88). -/
def State.liveDigest (s : State) (u : Surface) (sn : Snapshot) (f : ReadyFrame) (r : LiveResult) : Digest :=
  { joined := s.now, surface := u, kind := .frame, time := f.time
    events := (slotChanges u r.before r.after).flatMap fun (n, b, e) =>
      slotEvents (slop sn.tables.tune) n (s.releasedFrom n b e) b e
    positions := (slotChanges u r.before r.after).filterMap fun (n, _, e) => slotPlaced n e }

/-- A digest joins the digest queue (R64). -/
def State.handDigest (s : State) (d : Digest) : State :=
  { s with gestures := { s.gestures with digests := s.gestures.digests ++ [d] } }

/-- The track table as a live completion leaves it (R50). -/
def liveTable (now : TrackTable) (u : Surface) (sn : Snapshot) (r : LiveResult) : TrackTable :=
  { slots := now.slots.set u
      ((slotTriples u r.before r.after (now.slots.get u)).map fun (_, b, e, c) =>
        finishSlot (slop sn.tables.tune) b e c)
    nextId := r.opening.table.nextId
    overflow := now.overflow.set u (min (now.overflow.get u + r.opening.dropped) 65535) }

/-- A live frame operation completes: its digest, baseline, tracks, palm memory, handedness vote, counters
and forced releases take hold, and its CONTACT report is offered (R16, R61, R68). -/
def State.completeLive (s : State) (u : Surface) (sn : Snapshot) (f : ReadyFrame) : State :=
  let r := liveWork sn u f
  let table := liveTable s.tracks u sn r
  let s1 := (slotChanges u r.before r.after).foldl (fun acc c => acc.forceRelease c.1 c.2.1 c.2.2) s
  let s2 := s1.handDigest (s.liveDigest u sn f r)
  let blobs0 := s.blobOverflow.get u
  let s3 := { s2 with
    base := s2.base.set u (liveBase sn u r.extraction.boxes f.samples)
    tracks := table
    palm := palmAfter u (palmHold sn.tables.tune) s.now r.before r.after r.opening.hits s.palm
    pen := { s2.pen with vote := voteAfter sn u s2.pen.vote r.before r.after }
    blobOverflow := s2.blobOverflow.set u (if r.extraction.overflow then countUp blobs0 else blobs0) }
  let entries := table.entries u
  let s4 :=
    if buildsReport (contactMode sn.tables.tune) entries (liveChanged (slop sn.tables.tune) r.before r.after)
    then s3.offerContact f.time { surface := u, cause := .frame f.frame, entries := entries }
    else s3
  if antiTouch sn f.samples && (s4.intake.get u).state == .live && !s4.shut u then s4.recapture u else s4

/-! ## Effects of a closing operation (R18, R62) -/

/-- The operation has tracks to end: its result is not empty (R18). -/
def hasOpenTracks (sn : Snapshot) (u : Surface) : Bool := (sn.tracks.slots.get u).any (·.any Track.open_)

/-- A slot as a closing completion leaves it: ended as it stood at the beginning, its owner as it stands
now (R50, R62). -/
def closedSlot (b now : Option Track) : Option Track :=
  (closeSlot b).map fun t => if sameTrack b now then { t with owner := now.bind Track.owner } else t

/-- The tracks, digest and CONTACT report of a closing whose result is not empty (R62). -/
def State.closeTracks (s : State) (u : Surface) (sn : Snapshot) (key : Time) : State :=
  let before := sn.tracks.slots.get u
  let now := s.tracks.slots.get u
  let slots := (before.zip now).map fun (b, c) => closedSlot b c
  let events := before.zipIdx.filterMap fun (b, i) => cancelEvent (u.firstSlot + i) b
  let s1 := s.handDigest
    { joined := s.now, surface := u, kind := .closing, time := key, events := events, positions := [] }
  let s2 := { s1 with tracks := { s1.tracks with slots := s1.tracks.slots.set u slots } }
  let entries := s2.tracks.entries u
  if buildsReport (contactMode sn.tables.tune) entries false then
    s2.offerContact key { surface := u, cause := .closing, entries := entries }
  else s2

/-- A closing outcome applied to the surface's state (R18). -/
def State.applyOutcome (s : State) (u : Surface) : ClosingOutcome → State
  | .off => s.enterState u .off
  | .acquire => s.enterAcquire u false
  | .none => s

/-- A closing operation completes (R18, R22, R85). -/
def State.completeClosing (s : State) (u : Surface) (sn : Snapshot) (key : Time) (o : ClosingOutcome) :
    State :=
  let s1 := if hasOpenTracks sn u then s.closeTracks u sn key else s
  let s2 := { s1 with palm := s1.palm.filter fun e => e.surface != u }
  (s2.clearAcquire u).applyOutcome u o

/-! ## Completion (R16, R17, R168) -/

/-- The operation makes a digest: a live frame operation, or a closing with a result (R64). -/
def Operation.makesDigest (o : Operation) : Bool :=
  match o.work with
  | .frame _ => o.snap.state == .live
  | .closing _ _ => hasOpenTracks o.snap o.surface

/-- The effects of an operation take hold (R16). A frame taken on a surface that is OFF or FAILED, which
never befalls (R15), has none (log 21). -/
def State.applyOperation (s : State) (o : Operation) : State :=
  match o.work with
  | .closing key outcome => s.completeClosing o.surface o.snap key outcome
  | .frame f =>
    match o.snap.state with
    | .acquire => s.completeAcquire o.surface o.snap f
    | .live => s.completeLive o.surface o.snap f
    | .off | .failed => s

/-- The pen's part of a completion: the panel entering OFF takes the pen out (R98). -/
def State.outcomePen (s : State) (o : Operation) : State :=
  match o.surface, o.work with
  | .panel, .closing _ .off => s.penForcedExit
  | _, _ => s

/-- An operation completes: its effects, then the frame-side switch of a pending commit, the NOTICEs of
what rose, and the end of the commit if that was its last switch (R16, R168, R169; log 6). A surface that
leaves FAILED lets FAULT fall before the pen is taken out, so rises count from there. Where the panel enters
OFF its NOTICE is offered before the PEN report of R98 (log 6). -/
def State.completeOperation (s : State) (o : Operation) : State :=
  let s1 := (s.setOp none).applyOperation o
  (State.noticeRises s1 (s1.outcomePen o).switchFrameSide).endCommit

/-- The digest queue holds four digests (R17). -/
def State.digestsFull (s : State) : Bool := decide (Config.digestCapacity ≤ s.gestures.digests.length)

/-- FRAME_OPERATION_COMPLETE (R16, R17): the working operation completes, or is held at a full digest
queue; with none working nothing befalls (log 2). -/
def execFrameOperationComplete (s : State) : Host.Outcome State Fault Refusal :=
  .next <|
    match s.engine.op with
    | none => s
    | some o =>
      if o.held then s
      else if o.makesDigest && s.digestsFull then s.setOp (some { o with held := true })
      else s.completeOperation o

/-- HELD_OPERATION_COMPLETE (R17): a digest has left the full queue and the held operation completes;
otherwise nothing befalls (log 2). -/
def execHeldOperationComplete (s : State) : Host.Outcome State Fault Refusal :=
  .next <|
    match s.engine.op with
    | none => s
    | some o => if o.held && !s.digestsFull then s.completeOperation o else s

end Sys2Proof.Machine
end

