-- ==== Sys2Proof/Machine/Motion.lean ====
section
/-! DEFINITION. The motion unit (chapter 09): POINTER records with absorption and unsent motion, the
pointer's arbitration, buttons, ballistics with residues, and the scroll accumulators. -/

namespace Sys2Proof.Machine

/-! ## POINTER records (R154, R155) -/

/-- A count brought into -2047 to 2047 (R151, R154). -/
def clampCount2047 (i : Int) : Int := clampInt (-2047) 2047 i

/-- A newer record's motion joined to an older one's (R154): counts added and clamped, the newer buttons,
the click mark of either. -/
def Motion.join (old new : Motion) : Motion :=
  { x := clampCount2047 (old.x + new.x), y := clampCount2047 (old.y + new.y), buttons := new.buttons,
    click := old.click || new.click }

/-- The POINTER motion of a record that is not begun (R154). -/
def Record.openPointer (r : Record) : Option Motion :=
  if r.begun then none
  else match r.payload with
    | .contact _ => none
    | .pen _ => none
    | .pointer m => some m
    | .gesture _ => none
    | .notice _ => none
    | .reply _ => none
    | .snapshot _ => none

/-- In a queue given newest first, the newest POINTER record that is not begun absorbs the new motion,
unless both carry the click mark (R154, step 1). -/
def absorbNewest (time : Time) (m : Motion) : List Record → Option (List Record)
  | [] => none
  | r :: rs =>
    match r.openPointer with
    | some old =>
      if old.click && m.click then none
      else some ({ time := time, payload := .pointer (old.join m), begun := false } :: rs)
    | none => (absorbNewest time m rs).map (r :: ·)

/-- The queue after an absorption, if one comes about (R154, step 1). -/
def absorbPointer (time : Time) (m : Motion) (q : List Record) : Option (List Record) :=
  (absorbNewest time m q.reverse).map List.reverse

/-- The unsent motion replaced. -/
def State.setUnsent (s : State) (m : Option Motion) : State :=
  { s with motion := { s.motion with unsent := m } }

/-- The unsent motion taken in by a new record (R154). -/
def MotionUnit.takeIn (u : MotionUnit) (m : Motion) : Motion :=
  match u.unsent with
  | none => m
  | some old => old.join m

/-- A POINTER record is made and offered (R154): it takes in the unsent motion, and is absorbed, admitted
or held as unsent motion. -/
def State.offerPointer (s : State) (time : Time) (m : Motion) : State :=
  let m1 := s.motion.takeIn m
  let s1 := s.setUnsent none
  match absorbPointer time m1 s1.queue with
  | some q => { s1 with queue := q }
  | none => if hasRoom s1.queue then s1.enqueue time (.pointer m1) else s1.setUnsent (some m1)

/-- At a departure the unsent motion, if present, is offered as a record of its own (R155). -/
def State.offerUnsent (s : State) : State :=
  match s.motion.unsent with
  | none => s
  | some m => (s.setUnsent none).offerPointer s.now m

/-! ## Who holds the pointer (R148, R149) -/

/-- The priority of a context's template in the active program (R148). -/
def State.priorityOf (s : State) (c : Context) : Nat := (s.tables.active.template c.template).priority

/-- A context becomes the pointer holder, with this track as the source (R148). -/
def State.setPointer (s : State) (holder : ContextRef) (source : TrackRef) : State :=
  { s with motion := { s.motion with
      pointer := some { holder := holder, source := source }, residueX := 0, residueY := 0 } }

/-- The asking context may have the pointer (R148): nobody holds it, it holds it itself, or its template's
priority is higher than the holder's. -/
def State.mayHavePointer (s : State) (k : Nat) (c : Context) : Bool :=
  match s.motion.pointer with
  | none => true
  | some p =>
    p.holder == ⟨k, c.serial⟩
      || (s.context p.holder.slot).all fun h => decide (s.priorityOf h < s.priorityOf c)

/-- POINTER_ON of the context in a slot (R148). -/
def State.pointerOn (s : State) (k : Nat) : State :=
  match s.context k with
  | none => s
  | some c =>
    match c.claims with
    | [] => s
    | e :: _ => if s.mayHavePointer k c then s.setPointer ⟨k, c.serial⟩ e.track else s

/-- POINTER_OFF of the context in a slot (R149). -/
def State.pointerOff (s : State) (k : Nat) : State :=
  match s.context k with
  | none => s
  | some c => if s.holds k c.serial then s.releasePointer else s

/-! ## Buttons (R152, R153) -/

/-- A POINTER record of a change of the buttons: no motion, the click mark (R152, R153). -/
def State.offerClick (s : State) (time : Time) : State :=
  s.offerPointer time { x := 0, y := 0, buttons := s.buttonsNow, click := true }

/-- A button's presser replaced; `i` is the button's number less 1. -/
def State.setButton (s : State) (i : Nat) (presser : Option ContextRef) : State :=
  { s with motion := { s.motion with buttons := s.motion.buttons.set i presser } }

/-- A BUTTON action on the button at a place, by a context (R152). -/
def State.actButton (s : State) (time : Time) (by_ : ContextRef) (i : Nat) (press : Bool) : State :=
  match s.motion.buttons[i]?, press with
  | some none, true => (s.setButton i (some by_)).offerClick time
  | some (some presser), false => if presser = by_ then (s.setButton i none).offerClick time else s
  | _, _ => s

/-- BUTTON of the context in a slot (R152). Buttons are numbered 1 to 3, which validation ensures (R164). -/
def State.button (s : State) (time : Time) (k n : Nat) (press : Bool) : State :=
  match s.context k, n with
  | some c, i + 1 => s.actButton time ⟨k, c.serial⟩ i press
  | _, _ => s

/-- The buttons that an ending context pressed are released, with one record (R153). -/
def State.releaseButtons (s : State) (time : Time) (by_ : ContextRef) : State :=
  if s.motion.buttons.contains (some by_) then
    let buttons := s.motion.buttons.map fun b => if b = some by_ then none else b
    { s with motion := { s.motion with buttons := buttons } }.offerClick time
  else s

/-! ## Ballistics (R150, R151) -/

/-- The speed of a displacement (R150). -/
def speedOf (dx dy : Int) : Nat := max dx.natAbs dy.natAbs + min dx.natAbs dy.natAbs / 2

/-- The gain between two knots (R150). -/
def gainBetween (a b : Knot) (v : Nat) : Int :=
  a.gain + Int.tdiv (((b.gain : Int) - a.gain) * ((v : Int) - a.speed)) ((b.speed : Int) - a.speed)

/-- The gain of a speed from the knots (R150): the first knot's below it, the last knot's from it on. -/
def gainOf (v : Nat) : List Knot → Int
  | [] => 0
  | [k] => k.gain
  | a :: b :: rest =>
    if v < a.speed then a.gain else if v < b.speed then gainBetween a b v else gainOf v (b :: rest)

/-- One axis scaled: the output count and the new residue (R151). -/
def scaleAxis (d gain residue : Int) : Int × Int :=
  let scaled := d * gain + residue
  let out := Int.tdiv scaled 1024
  if out < -2047 ∨ 2047 < out then (clampCount2047 out, 0) else (out, scaled - 1024 * out)

/-- A displacement moved through the gain curve (R150, R151): the output counts and the new residues. -/
def movePointer (knots : List Knot) (rx ry dx dy : Int) : (Int × Int) × (Int × Int) :=
  let gain := gainOf (speedOf dx dy) knots
  (scaleAxis dx gain rx, scaleAxis dy gain ry)

/-- The frame displacement of the pointer source among a context's claims (R150). -/
def sourceShift (c : Context) (source : TrackRef) : Int × Int :=
  match c.claims.find? fun e => e.track == source with
  | some e => (e.dx, e.dy)
  | none => (0, 0)

/-- The pointer moves by a displacement: residues kept, a POINTER record made for counts that are not both
0 (R151). -/
def State.moveBy (s : State) (time : Time) (dx dy : Int) : State :=
  let r := movePointer s.tables.active.curve s.motion.residueX s.motion.residueY dx dy
  let s1 := { s with motion := { s.motion with residueX := r.1.2, residueY := r.2.2 } }
  if r.1.1 = 0 ∧ r.2.1 = 0 then s1
  else s1.offerPointer time { x := r.1.1, y := r.2.1, buttons := s1.buttonsNow, click := false }

/-- The pointer motion of a FRAME handled for the context in a slot, when it is the holder (R150). -/
def State.pointerFrame (s : State) (time : Time) (k : Nat) : State :=
  match s.context k, s.motion.pointer with
  | some c, some p =>
    if p.holder = ⟨k, c.serial⟩ then
      s.moveBy time (sourceShift c p.source).1 (sourceShift c p.source).2
    else s
  | _, _ => s

/-! ## Scroll accumulators (R156 to R158) -/

/-- An accumulator just started (R156). -/
def AxisAcc.zero : AxisAcc := { value := 0, last := .none }

/-- The accumulators just started on an axis (R156). -/
def Accumulators.start (axis : Axis) : Accumulators := { axis := axis, x := AxisAcc.zero, y := AxisAcc.zero }

/-- The axis x is active (R156). -/
def Axis.hasX : Axis → Bool
  | .x => true
  | .y => false
  | .both => true

/-- The axis y is active (R156). -/
def Axis.hasY : Axis → Bool
  | .x => false
  | .y => true
  | .both => true

/-- The sign of a number that is not 0, as a direction. -/
def directionOf (i : Int) : Direction := if i < 0 then .negative else .positive

/-- The mean of displacements, truncated toward zero; 0 of none (R157). -/
def meanShift (l : List Int) : Int := Int.tdiv (intSum l) l.length

/-- A mean opposes the last direction (R157, step 1). -/
def Direction.opposes (d : Direction) (mean : Int) : Bool :=
  match d with
  | .none => false
  | .positive => decide (mean < 0)
  | .negative => decide (0 < mean)

/-- One axis accumulates a mean (R157): reversal, steps and clamp. -/
def AxisAcc.accumulate (a : AxisAcc) (detentUnits slopUnits : Nat) (mean : Int) : AxisAcc × AxisSteps :=
  let turns := a.last.opposes mean && decide (slopUnits ≤ mean.natAbs)
  let value := if turns then mean else a.value + mean
  let last := if turns then directionOf mean else a.last
  let whole := value.natAbs / detentUnits
  if whole = 0 then
    ({ value := value, last := last }, { steps := 0, reversed := turns, clamped := false })
  else if whole < 127 then
    ({ value := value - value.sign * (whole * detentUnits), last := directionOf value },
      { steps := value.sign * whole, reversed := turns, clamped := false })
  else
    ({ value := 0, last := directionOf value },
      { steps := value.sign * 127, reversed := turns, clamped := true })

/-- An axis accumulates when it is active (R157). -/
def AxisAcc.accumulateIf (a : AxisAcc) (active : Bool) (detentUnits slopUnits : Nat) (shifts : List Int) :
    AxisAcc × AxisSteps :=
  if active then a.accumulate detentUnits slopUnits (meanShift shifts) else (a, AxisSteps.zero)

/-- A step was made or a reversal marked (R158). -/
def AxisSteps.tells (a : AxisSteps) : Bool := a.steps != 0 || a.reversed

/-- The IDs of a context's claims, oldest first (R132). -/
def Context.ids (c : Context) : List Nat := c.claims.map fun e => e.track.id

/-- A GESTURE record of the context in a slot, with no steps (R132). -/
def Context.gestureRecord (c : Context) (k code : Nat) (phase : Phase) : GestureReport :=
  { code := code, phase := phase, slot := k, template := c.template, ids := c.ids,
    x := AxisSteps.zero, y := AxisSteps.zero }

/-- The automatic UPDATE of an accumulation (R158). -/
def State.autoUpdate (s : State) (time : Time) (k : Nat) (c : Context) (x y : AxisSteps) : State :=
  match c.openCode with
  | none => s
  | some code =>
    if x.tells || y.tells then
      s.offerGesture time { c.gestureRecord k code .update with x := x, y := y }
    else s

/-- The accumulation of a FRAME handled for the context in a slot, when it has accumulators (R157, R158). -/
def State.accumulateFrame (s : State) (time : Time) (k : Nat) : State :=
  match s.context k with
  | none => s
  | some c =>
    match c.acc with
    | none => s
    | some a =>
      let x := a.x.accumulateIf a.axis.hasX (detent s.tune) (reverseSlop s.tune) (c.claims.map ClaimEntry.dx)
      let y := a.y.accumulateIf a.axis.hasY (detent s.tune) (reverseSlop s.tune) (c.claims.map ClaimEntry.dy)
      let c1 := { c with acc := some { a with x := x.1, y := y.1 } }
      (s.setContext k (some c1)).autoUpdate time k c1 x.2 y.2

end Sys2Proof.Machine
end

