-- ==== Sys2Proof/Machine/Gesture.lean ====
section
/-! DEFINITION. The gesture engine (chapter 08): claims, guards, actions, rows, the offer chain with its
trials, digests, timers, PEN_INK, cancellations, the program switch and the watch list. -/

namespace Sys2Proof.Machine

/-! ## Claims (R122, R123) -/

/-- The context of a slot claims a track. -/
def Context.claimsTrack (c : Context) (r : TrackRef) : Bool := c.claims.any fun e => e.track == r

/-- The claim entry of a track in a context slot's record. -/
def claimIn (r : TrackRef) (c : Option Context) : Option ClaimEntry :=
  c.bind fun c => c.claims.find? fun e => e.track == r

/-- The running context that claims a track, with its entry. -/
def State.claimant (s : State) (r : TrackRef) : Option (Nat × ClaimEntry) :=
  s.gestures.contexts.zipIdx.findSome? fun (c, k) => (claimIn r c).map fun e => (k, e)

/-- A track is claimed by a running context. -/
def State.claimed (s : State) (r : TrackRef) : Bool := (s.claimant r).isSome

/-- A claim leaves the context of a slot, and the track table is told (R123). -/
def State.giveUp (s : State) (k : Nat) (r : TrackRef) : State := (s.dropClaim k r).releaseTrack r k

/-- Every claim leaves the context of a slot, oldest first (R123). -/
def State.giveUpAll (s : State) (k : Nat) : State :=
  match s.context k with
  | none => s
  | some c => c.claims.foldl (fun acc e => acc.giveUp k e.track) s

/-- An event as a context meets it (R125, R130): its kind and time, the track it names with a position and
the touchdown zone that ZONE_IN reads. -/
structure Event where
  kind : EventKind
  time : Time
  track : Option TrackRef
  pos : Pos
  zone : Option Nat
deriving DecidableEq, Repr

/-- A claim entry just granted (R122). -/
def Event.claimEntry (e : Event) (r : TrackRef) : ClaimEntry :=
  { track := r, pos := e.pos, anchor := e.pos, zone := e.zone.getD 0, dx := 0, dy := 0 }

/-- CLAIM of the context in a slot (R122; log 24). -/
def State.claim (s : State) (k : Nat) (e : Event) : State :=
  match s.context k, e.track with
  | some c, some r =>
    if c.claimsTrack r || decide ((s.tables.active.template c.template).maxTracks ≤ c.claims.length) then s
    else match s.claimTrack r k with
      | some s1 => s1.onContext k fun c => { c with claims := c.claims ++ [e.claimEntry r] }
      | none => s
  | _, _ => s

/-- RELEASE of the context in a slot (R123). -/
def State.release (s : State) (k : Nat) (e : Event) : State :=
  match s.context k, e.track with
  | some c, some r => if c.claimsTrack r then s.giveUp k r else s
  | _, _ => s

/-! ## Guards (R130) -/

/-- The largest squared distance of a claim from its anchor position, 0 with no claims (R130). -/
def largestMove (claims : List ClaimEntry) : Nat := natMax (claims.map fun e => sqDist e.pos e.anchor)

/-- The distance of the two oldest claims, 0 with fewer than two (R130, R131). -/
def spreadOf : List ClaimEntry → Nat
  | a :: b :: _ => floorRoot (sqDist a.pos b.pos)
  | _ => 0

/-- A guard holds for a context and an event (R130). -/
def Guard.holds (g : Guard) (c : Context) (e : Event) : Bool :=
  match g with
  | .none => true
  | .countEq n => c.claims.length == n
  | .countGe n => decide (n ≤ c.claims.length)
  | .elapsedLt ms => decide (elapsed e.time c.anchorTime < ms * 100)
  | .elapsedGe ms => decide (ms * 100 ≤ elapsed e.time c.anchorTime)
  | .movedLt d => decide (largestMove c.claims < d ^ 2)
  | .movedGe d => decide (d ^ 2 ≤ largestMove c.claims)
  | .tapsEq n => c.taps == n
  | .spreadGe d => decide (2 ≤ c.claims.length ∧ d ≤ gap (spreadOf c.claims) c.anchorSpread)
  | .zoneIn mask => e.zone.any (inZones mask)

/-- A row answers an event in a context: from-state, event kind and guard (R129). -/
def Row.answers (r : Row) (c : Context) (e : Event) : Bool :=
  r.fromState == c.state && r.event == e.kind.code && (guardOf r.guard r.operand).any (·.holds c e)

/-- The row that fires: the first in table order (R129). -/
def State.firingRow (s : State) (c : Context) (e : Event) : Option Row :=
  (s.tables.active.templateRows c.template).find? fun r => r.answers c e

/-! ## Actions (R131 to R133) -/

/-- ANCHOR (R131). -/
def Context.setAnchor (c : Context) (time : Time) : Context :=
  { c with
    anchorTime := time
    claims := c.claims.map fun e => { e with anchor := e.pos }
    anchorSpread := spreadOf c.claims }

/-- TIMER_SET (R133): the deadline is replaced and any waiting expiry withdrawn; a deadline already reached
waits from now (log 19). -/
def timerFrom (now time : Time) (ms : Nat) : ContextTimer :=
  let deadline := time + msTicks ms
  { deadline := deadline, waiting := if reached now deadline then some now else none }

/-- The phase of an EMIT (R132). -/
def EmitPhase.phase : EmitPhase → Phase
  | .begin => .begin
  | .update => .update
  | .end_ => .end_

/-- The automatic CANCEL of an open gesture (R139). -/
def State.autoCancel (s : State) (time : Time) (k : Nat) (c : Context) : State :=
  match c.openCode with
  | none => s
  | some code => s.offerGesture time (c.gestureRecord k code .cancel)

/-- What an EMIT leaves of the open gesture (R132). -/
def EmitPhase.openAfter (p : EmitPhase) (code : Nat) (before : Option Nat) : Option Nat :=
  match p with
  | .begin => some code
  | .update => before
  | .end_ => none

/-- EMIT of the context in a slot (R132): BEGIN over an open gesture makes its automatic CANCEL first. -/
def State.emit (s : State) (time : Time) (k : Nat) (p : EmitPhase) (code : Nat) : State :=
  match s.context k with
  | none => s
  | some c =>
    let s1 := if p = .begin then s.autoCancel time k c else s
    (s1.offerGesture time (c.gestureRecord k code p.phase)).onContext k fun c =>
      { c with openCode := p.openAfter code c.openCode }

/-- An action done for the context in a slot (R131). -/
def State.act (s : State) (k : Nat) (e : Event) (a : Action) : State :=
  match a with
  | .claim => s.claim k e
  | .release => s.release k e
  | .releaseAll => s.giveUpAll k
  | .anchor => s.onContext k fun c => c.setAnchor e.time
  | .timerSet ms => s.onContext k fun c => { c with timer := some (timerFrom s.now e.time ms) }
  | .timerStop => s.onContext k fun c => { c with timer := none }
  | .tap => s.onContext k fun c => { c with taps := min (c.taps + 1) 15 }
  | .tapClear => s.onContext k fun c => { c with taps := 0 }
  | .emit p code => s.emit e.time k p code
  | .accStart axis => s.onContext k fun c => { c with acc := some (Accumulators.start axis) }
  | .accStop => s.onContext k fun c => { c with acc := none }
  | .pointerOn => s.pointerOn k
  | .pointerOff => s.pointerOff k
  | .button n press => s.button e.time k n press

/-- An action that a trial holds: it reaches outside the context (R136). -/
def Action.reachesOut : Action → Bool
  | .emit _ _ => true
  | .pointerOn => true
  | .pointerOff => true
  | .button _ _ => true
  | .claim => false
  | .release => false
  | .releaseAll => false
  | .anchor => false
  | .timerSet _ => false
  | .timerStop => false
  | .tap => false
  | .tapClear => false
  | .accStart _ => false
  | .accStop => false

/-! ## The end of a context (R138, R139) -/

/-- The context of a slot ends (R138): claims, pointer, buttons, automatic CANCEL, and the slot is free. -/
def State.endContext (s : State) (time : Time) (k : Nat) : State :=
  match s.context k with
  | none => s
  | some c =>
    let s1 := s.giveUpAll k
    let s2 := if s1.holds k c.serial then s1.releasePointer else s1
    let s3 := s2.releaseButtons time ⟨k, c.serial⟩
    (s3.autoCancel time k c).setContext k none

/-! ## Watching (R144, R145) -/

/-- The SNAPSHOT record of the context in a slot, for the event that made it enter a state (R145). -/
def State.snapshotRecord (s : State) (k : Nat) (e : Event) (c : Context) : SnapshotReport :=
  { slot := k, event := e.kind, track := e.track, context := c, holder := s.holds k c.serial }

/-- A template and a state form a listed pair (R144). -/
def State.watched (s : State) (c : Context) : Bool := s.gestures.watch.contains ⟨c.template, c.state⟩

/-- The context of a slot has entered its state: a watched entry makes a SNAPSHOT (R144, R145). -/
def State.watchEntry (s : State) (k : Nat) (e : Event) : State :=
  match s.context k with
  | none => s
  | some c => if s.watched c then s.offerSnapshot e.time (s.snapshotRecord k e c) else s

/-! ## Rows, in and out of a trial (R129, R136) -/

/-- What a trial holds, in order (R136): the SNAPSHOT of its start as it stood then, the actions that reach
outside, the entry into another state (log 11). -/
inductive Held where
  | started (r : SnapshotReport)
  | action (a : Action)
  | entered
deriving DecidableEq, Repr

/-- The machine while a row's actions are done, with what a trial holds and whether a CLAIM of the event's track
was granted (R135). -/
structure Handling where
  state : State
  held : List Held
  granted : Bool
deriving DecidableEq, Repr

/-- One action done, or held in a trial (R131, R136). -/
def Handling.act (trial : Bool) (k : Nat) (e : Event) (h : Handling) (a : Action) : Handling :=
  if trial && a.reachesOut then { h with held := h.held ++ [.action a] }
  else
    let s1 := h.state.act k e a
    { h with state := s1, granted := h.granted || (a == .claim && e.track.any s1.claimed) }

/-- The context of a slot takes a row's next state, other than 0; a new state is an entry (R129, R144). -/
def Handling.enter (trial : Bool) (k : Nat) (e : Event) (from_ next : Nat) (h : Handling) : Handling :=
  let s1 := h.state.onContext k fun c => { c with state := next }
  if next = from_ then { h with state := s1 }
  else if trial then { h with state := s1, held := h.held ++ [.entered] }
  else { h with state := s1.watchEntry k e }

/-- A row fires (R129): its actions in order, then its next state, 0 ending the context. -/
def Handling.fire (trial : Bool) (k : Nat) (e : Event) (r : Row) (h : Handling) : Handling :=
  let h1 := r.actions.foldl (Handling.act trial k e) h
  if r.next = 0 then { h1 with state := h1.state.endContext e.time k }
  else h1.enter trial k e r.fromState r.next

/-- An event handled by the context in a slot (R129); none when no row fires. -/
def Handling.handle (trial : Bool) (k : Nat) (e : Event) (h : Handling) : Option Handling :=
  (h.state.context k).bind fun c => (h.state.firingRow c e).map fun r => h.fire trial k e r

/-- An event delivered to the running context in a slot, outside a trial; none when no row fires (R129). -/
def State.handle (s : State) (k : Nat) (e : Event) : Option State :=
  ((Handling.mk s [] false).handle false k e).map Handling.state

/-- An event delivered, and ignored when no row fires (R129). -/
def State.deliver (s : State) (k : Nat) (e : Event) : State := (s.handle k e).getD s

/-! ## Events of claimed tracks (R127, R128) -/

/-- An event that names a claimed track, its zone read from the claim (R130). -/
def claimEvent (kind : EventKind) (time : Time) (e : ClaimEntry) : Event :=
  { kind := kind, time := time, track := some e.track, pos := e.pos, zone := some e.zone }

/-- A LIFT: its own effect, then the context's rows (R127). -/
def State.deliverLift (s : State) (time : Time) (r : TrackRef) : State :=
  match s.claimant r with
  | none => s
  | some (k, e) => (s.giveUp k r).deliver k (claimEvent .lift time e)

/-- A CANCEL: its own effect, then the context's rows; an unhandled one ends the context (R127). -/
def State.deliverCancel (s : State) (time : Time) (r : TrackRef) : State :=
  match s.claimant r with
  | none => s
  | some (k, e) =>
    let s1 := s.giveUp k r
    (s1.handle k (claimEvent .cancel time e)).getD (s1.endContext time k)

/-- A MOVE, or a RECLASS without a forced release (R128). -/
def State.deliverClaimed (s : State) (kind : EventKind) (time : Time) (r : TrackRef) : State :=
  match s.claimant r with
  | none => s
  | some (k, e) => s.deliver k (claimEvent kind time e)

/-- A RECLASS with a forced release, to the context it was released from (R128). -/
def State.deliverReleased (s : State) (time : Time) (r : TrackRef) (from_ : ContextRef) : State :=
  match s.context from_.slot with
  | none => s
  | some c =>
    if c.serial = from_.serial then
      s.deliver from_.slot { kind := .reclass, time := time, track := some r, pos := ⟨0, 0⟩, zone := none }
    else s

/-! ## The offer chain (R135 to R137) -/

/-- What a TOUCHDOWN carries (R65). -/
structure Touch where
  surface : Surface
  track : TrackRef
  cls : TrackClass
  pos : Pos
  zone : Nat
deriving DecidableEq, Repr

/-- The TOUCHDOWN as a context meets it. -/
def Touch.event (t : Touch) (time : Time) : Event :=
  { kind := .touchdown, time := time, track := some t.track, pos := t.pos, zone := some t.zone }

/-- A template accepts a TOUCHDOWN: its surface, zone mask and class mask (R135, R136). -/
def Template.accepts (t : Template) (d : Touch) : Bool :=
  t.surface == d.surface.code && inZones t.zones d.zone && inClasses t.classes d.cls

/-- The context of a slot is a candidate of step 1 (R135). -/
def State.isCandidate (s : State) (d : Touch) (k : Nat) : Bool :=
  (s.context k).any fun c =>
    let t := s.tables.active.template c.template
    t.accepts d && decide (c.claims.length < t.maxTracks)

/-- Indices ordered by priority, highest first, ties to the lower index (R135, R136). -/
def byPriority (priority : Nat → Nat) (l : List Nat) : List Nat :=
  arrange (fun a b => decide (priority b < priority a) || (priority a == priority b && decide (a < b))) l

/-- The candidates of step 1 in the order of the offer (R135). -/
def State.offerOrder (s : State) (d : Touch) : List Nat :=
  byPriority (fun k => ((s.context k).map s.priorityOf).getD 0)
    ((List.range Config.contextSlots).filter (s.isCandidate d))

/-- The TOUCHDOWN delivered to one candidate: the state after it, and whether the chain stops (R135). It stops
once the track was claimed, also where the same row gave it up again, since a released track is never offered
to any context again (R123; log 29). -/
def State.offerTo (s : State) (k : Nat) (e : Event) : State × Bool :=
  match (Handling.mk s [] false).handle false k e with
  | some h => (h.state, h.granted)
  | none => (s, false)

/-- Step 1: the TOUCHDOWN delivered to each candidate in turn until the track is claimed; a candidate that
ended or filled its claims is passed over (R135). -/
def State.offerRunning (s : State) (time : Time) (d : Touch) (ks : List Nat) : State × Bool :=
  ks.foldl
    (fun acc k => if acc.2 || !acc.1.isCandidate d k then acc else acc.1.offerTo k (d.event time))
    (s, s.claimed d.track)

/-- The templates that qualify, in the order they are tried (R136). -/
def State.qualifying (s : State) (d : Touch) : List Nat :=
  byPriority (fun i => (s.tables.active.template i).priority)
    ((List.range s.tables.active.templates.length).filter fun i =>
      s.entry.templates.getLsbD i && (s.tables.active.template i).accepts d)

/-- The lowest-numbered free context slot (R136). -/
def State.freeContext (s : State) : Option Nat := s.gestures.contexts.findIdx? Option.isNone

/-- The serial after a serial: 1 follows 65,535 (R121). -/
def serialAfter (n : Nat) : Nat := if 65535 ≤ n then 1 else n + 1

/-- A context as it starts (R136). -/
def Context.start (template serial : Nat) (time : Time) : Context :=
  { template := template, serial := serial, state := 1, claims := [], startTime := time,
    anchorTime := time, anchorSpread := 0, timer := none, taps := 0, openCode := none, acc := none }

/-- A trial context is started in a free slot (R136): it takes the next serial, and its start is an entry
into state 1 for the watch list. -/
def State.startTrial (s : State) (k template : Nat) (e : Event) : Handling :=
  let c := Context.start template s.gestures.serial e.time
  let s1 := s.setContext k (some c)
  { state := { s1 with gestures := { s1.gestures with serial := serialAfter s.gestures.serial } }
    held := if s.watched c then [.started (s.snapshotRecord k e c)] else []
    granted := false }

/-- What a trial held, done at its success (R136). -/
def State.doHeld (k : Nat) (e : Event) (s : State) : Held → State
  | .started r => s.offerSnapshot e.time r
  | .action a => s.act k e a
  | .entered => s.watchEntry k e

/-- A trial has succeeded: its context is running and holds the track (R136). -/
def Handling.succeeded (h : Handling) (k : Nat) (r : TrackRef) : Bool :=
  (h.state.context k).any fun c => c.claimsTrack r

/-- A failed trial is discarded: its claims are released and its slot is free again (R136). -/
def State.discardTrial (s : State) (k : Nat) : State := (s.giveUpAll k).setContext k none

/-- A trial run to its end: the state after it, and whether it succeeded (R136). -/
def State.runTrial (s : State) (k template : Nat) (d : Touch) (e : Event) : State × Bool :=
  let h0 := s.startTrial k template e
  let h := (h0.handle true k e).getD h0
  if h.succeeded k d.track then (h.held.foldl (State.doHeld k e) h.state, true)
  else (h.state.discardTrial k, false)

/-- Step 2, and step 3 when no slot is free: templates are tried until one claims the track (R136, R137). -/
def State.tryTemplates (d : Touch) (e : Event) : State → List Nat → State
  | s, [] => s
  | s, t :: ts =>
    match s.freeContext with
    | none => s
    | some k =>
      let r := s.runTrial k t d e
      if r.2 then r.1 else State.tryTemplates d e r.1 ts

/-- A TOUCHDOWN put to the offer chain; dropped out of RUN (R135). -/
def State.offerTouch (s : State) (time : Time) (d : Touch) : State :=
  if s.link.part = .run then
    let r := s.offerRunning time d (s.offerOrder d)
    if r.2 then r.1 else State.tryTemplates d (d.event time) r.1 (r.1.qualifying d)
  else s

/-! ## Digests (R126) -/

/-- A claim with the position and displacement that a digest lists for its track (R126, step 1). -/
def ClaimEntry.place (positions : List Placed) (e : ClaimEntry) : ClaimEntry :=
  match positions.find? fun p => p.track == e.track with
  | some p => { e with pos := p.pos, dx := p.dx, dy := p.dy }
  | none => { e with dx := 0, dy := 0 }

/-- A context belongs to a surface: its template's (R120). -/
def State.ofSurface (s : State) (u : Surface) (c : Context) : Bool :=
  (s.tables.active.template c.template).surface == u.code

/-- Step 1: the claims of the surface's contexts take their positions (R126). -/
def State.placeClaims (s : State) (d : Digest) : State :=
  let place (c : Context) : Context :=
    if s.ofSurface d.surface c then { c with claims := c.claims.map (ClaimEntry.place d.positions) } else c
  { s with gestures := { s.gestures with contexts := s.gestures.contexts.map (Option.map place) } }

/-- Step 2: a track event delivered as its kind requires (R126 to R128, R135). -/
def State.trackEvent (u : Surface) (time : Time) (s : State) : TrackEvent → State
  | .touchdown r cls pos zone =>
    s.offerTouch time { surface := u, track := r, cls := cls, pos := pos, zone := zone }
  | .lift r => s.deliverLift time r
  | .reclass r none => s.deliverClaimed .reclass time r
  | .reclass r (some c) => s.deliverReleased time r c
  | .move r _ => s.deliverClaimed .move time r
  | .cancel r => s.deliverCancel time r

/-- An event that names no track: FRAME or TIMER or PEN_INK (R130). -/
def plainEvent (kind : EventKind) (time : Time) : Event :=
  { kind := kind, time := time, track := none, pos := ⟨0, 0⟩, zone := none }

/-- The running contexts of a surface, in ascending slot order. -/
def State.slotsOf (s : State) (u : Surface) : List Nat :=
  (List.range Config.contextSlots).filter fun k => (s.context k).any (s.ofSurface u)

/-- Step 3 for one context: its rows, then its per-frame motion, the pointer first (R126, R150, R157). -/
def State.frameEvent (time : Time) (s : State) (k : Nat) : State :=
  ((s.deliver k (plainEvent .frame time)).pointerFrame time k).accumulateFrame time k

/-- A digest handled in its three steps (R126). -/
def State.handleDigest (s : State) (d : Digest) : State :=
  let s1 := d.events.foldl (State.trackEvent d.surface d.time) (s.placeClaims d)
  match d.kind with
  | .frame => (s1.slotsOf d.surface).foldl (State.frameEvent d.time) s1
  | .closing => s1

/-! ## Items (R124) -/

/-- The moments at which the waiting items became waiting: the oldest digest, expiries, PEN_INK (R124). -/
def State.waitingMoments (s : State) : List Time :=
  (s.gestures.digests.head?.map Digest.joined).toList
    ++ s.gestures.contexts.filterMap (fun c => (c.bind Context.timer).bind ContextTimer.waiting)
    ++ (s.gestures.penInk.map PenInk.handed).toList

/-- The program switch is due: it waits, no digest is in hand and the digest queue is empty (R143). -/
def State.switchDue (s : State) : Bool :=
  s.gestures.switchWaiting && !s.gestures.inHand && s.gestures.digests.isEmpty

/-- The engine may take an item that became waiting at this moment: it is free, no item became waiting
earlier, and the program switch is not due (R124, R143; log 10). -/
def State.mayTakeItem (s : State) (moment : Time) : Bool :=
  !s.gestures.inHand && !s.switchDue && s.waitingMoments.all fun m => !earlier m moment

/-- A digest in hand or not (R124). -/
def State.setInHand (s : State) (b : Bool) : State :=
  { s with gestures := { s.gestures with inHand := b } }

/-- The digest in hand leaves the digest queue (R124). -/
def State.dropInHand (s : State) : State :=
  { s with gestures := { s.gestures with digests := s.gestures.digests.tail, inHand := false } }

/-- DIGEST_TAKEN (R124, R126; log 9): the free engine takes the oldest digest and handles it; it stays in
hand until DIGEST_HANDLING_END. Otherwise nothing befalls (log 2). -/
def execDigestTaken (s : State) : Host.Outcome State Fault Refusal :=
  .next <|
    match s.gestures.digests with
    | [] => s
    | d :: _ =>
      if s.mayTakeItem d.joined then State.noticeRises s ((s.setInHand true).handleDigest d) else s

/-- DIGEST_HANDLING_END (R124): the digest in hand leaves the digest queue; with none in hand nothing
befalls (log 2). -/
def execDigestHandlingEnd (s : State) : Host.Outcome State Fault Refusal :=
  .next <| if s.gestures.inHand then s.dropInHand else s

/-- A timer whose deadline is reached and whose expiry does not wait yet (R134). -/
def ContextTimer.due (t : ContextTimer) (now : Time) : Bool := t.waiting.isNone && reached now t.deadline

/-- TIMER_DEADLINE_REACHED (R134): the expiry becomes waiting at the deadline; otherwise nothing befalls
(log 2). -/
def execTimerDeadlineReached (slot : Nat) (s : State) : Host.Outcome State Fault Refusal :=
  .next <|
    match (s.context slot).bind Context.timer with
    | none => s
    | some t =>
      if t.due s.now then
        s.onContext slot fun c => { c with timer := some { t with waiting := some t.deadline } }
      else s

/-- TIMER_EXPIRY_TAKEN (R124, R134): the free engine takes a waiting expiry: the deadline goes and TIMER
is delivered; otherwise nothing befalls (log 2). -/
def execTimerExpiryTaken (slot : Nat) (s : State) : Host.Outcome State Fault Refusal :=
  .next <|
    match (s.context slot).bind Context.timer with
    | none => s
    | some t =>
      if t.waiting.any s.mayTakeItem then
        State.noticeRises s
          ((s.onContext slot fun c => { c with timer := none }).deliver slot (plainEvent .timer t.deadline))
      else s

/-- A PEN_INK event handled by every running panel context (R140). -/
def State.handlePenInk (s : State) (p : PenInk) : State :=
  let s1 := { s with gestures := { s.gestures with penInk := none } }
  (s1.slotsOf .panel).foldl (fun acc k => acc.deliver k (plainEvent .penInk p.time)) s1

/-- PEN_INK_TAKEN (R124, R140): the free engine takes the waiting PEN_INK; otherwise nothing befalls
(log 2). -/
def execPenInkTaken (s : State) : Host.Outcome State Fault Refusal :=
  .next <|
    match s.gestures.penInk with
    | none => s
    | some p => if s.mayTakeItem p.handed then State.noticeRises s (s.handlePenInk p) else s

/-! ## Cancellations and the program switch (R141, R143) -/

/-- Every running context ends, in ascending slot order, and a waiting PEN_INK is dropped (R141, R143). -/
def State.cancelContexts (s : State) : State :=
  let s1 := (List.range Config.contextSlots).foldl (fun acc k => acc.endContext s.now k) s
  { s1 with gestures := { s1.gestures with penInk := none } }

/-- The general cancellation (R141): a digest in hand leaves the queue with its handling. -/
def State.generalCancel (s : State) : State :=
  let s1 := s.cancelContexts
  if s1.gestures.inHand then s1.dropInHand else s1

/-- PROGRAM_SWITCH (R143): the engine takes the switch that is due, and the commit ends if nothing else of
it has to switch (R169; log 6); otherwise nothing befalls (log 2). -/
def execProgramSwitch (s : State) : Host.Outcome State Fault Refusal :=
  .next <|
    if s.switchDue then (State.noticeRises s s.cancelContexts.installProgram).endCommit else s

/-! ## WATCH and UNWATCH (R144) -/

/-- The watch list replaced. -/
def State.setWatch (s : State) (w : List Watch) : State :=
  { s with gestures := { s.gestures with watch := w } }

/-- WATCH, taken (R144). -/
def State.takeWatch (s : State) (tag template state : Byte) : State :=
  let w : Watch := ⟨template.toNat, state.toNat⟩
  if 15 < w.template ∨ w.state = 0 ∨ 32 < w.state then s.refuse tag 0x0B .range
  else if s.gestures.watch.contains w then s.done tag 0x0B []
  else if s.gestures.watch.length < Config.watchCapacity then
    (s.setWatch (s.gestures.watch ++ [w])).done tag 0x0B []
  else s.refuse tag 0x0B .full

/-- UNWATCH, taken (R144). -/
def State.takeUnwatch (s : State) (tag template state : Byte) : State :=
  (s.setWatch (s.gestures.watch.erase ⟨template.toNat, state.toNat⟩)).done tag 0x0C []

/-- WATCH (R144). -/
def execWatch (tag template state : Byte) (s : State) : Host.Outcome State Fault Refusal :=
  .next <| s.takeWrite fun s => s.takeWatch tag template state

/-- UNWATCH (R144). -/
def execUnwatch (tag template state : Byte) (s : State) : Host.Outcome State Fault Refusal :=
  .next <| s.takeWrite fun s => s.takeUnwatch tag template state

end Sys2Proof.Machine
end

