-- ==== Sys2Proof/Machine/Intake.lean ====
section
/-! DEFINITION. Scan intake (chapter 01, sections 1.1 to 1.4): the receivers' handling of scan records,
discards, the disposal of valid frames, and FRAME_TIMEOUT. -/

namespace Sys2Proof.Machine

/-- The receiver of a surface replaced. -/
def State.setReceiver (s : State) (u : Surface) (r : Receiver) : State :=
  s.onIntake u fun i => { i with recv := r }

/-- A surface enters FAILED and posts a closing request with outcome NONE (R11, R12). -/
def State.failSurface (s : State) (u : Surface) : State :=
  (s.enterState u .failed).postClosing u .none

/-- The surface is in ACQUIRE or LIVE. -/
def State.processed (s : State) (u : Surface) : Bool :=
  (s.intake.get u).state == .acquire || (s.intake.get u).state == .live

/-- The discard and error run counts of an intake one up (R7, R11). -/
def Intake.countDiscard (i : Intake) : Intake :=
  { i with discarded := countUp i.discarded, errorRun := countUp i.errorRun }

/-- The frame under assembly, or the one just begun, is discarded (R7): the receiver becomes DISCARDING, and
unless the surface is shut the discard is counted and may fail the surface (R11). -/
def State.discardFrame (s : State) (u : Surface) : State :=
  let s1 := s.setReceiver u (Receiver.idle .discarding)
  if s.shut u then s1
  else
    let s2 := s1.onIntake u Intake.countDiscard
    if s2.processed u && (s2.intake.get u).errorRun == 8 then s2.failSurface u else s2

/-- The counts of a frame start equal the surface's grid (R3). -/
def gridMatches (u : Surface) (columns rows : Byte) : Bool :=
  columns.toNat == u.columns && rows.toNat == u.rows

/-- The receiver as it begins to assemble a frame (R3). -/
def Receiver.start (frame : Half) : Receiver :=
  { cond := .assembling, frame := frame, expected := 0, samples := [], check := checkStart }

/-- A frame start examined with no frame under assembly (R3). -/
def State.examineStart (s : State) (u : Surface) (frame : Half) (columns rows : Byte) : State :=
  if gridMatches u columns rows then s.setReceiver u (Receiver.start frame) else s.discardFrame u

/-- A frame start handled (R3): a frame under assembly is discarded first. -/
def State.takeFrameStart (s : State) (u : Surface) (frame : Half) (columns rows : Byte) : State :=
  let s1 := if (s.intake.get u).recv.cond = .assembling then s.discardFrame u else s
  s1.examineStart u frame columns rows

/-- The raw fields of a row, each from its two bytes (R190). -/
def rawFields : List Byte → List Nat
  | hi :: lo :: rest => (joinBytes hi lo).toNat :: rawFields rest
  | _ => []

/-- A row record's body fits the frame under assembly: its length, its index and its width (R4). -/
def rowFits (u : Surface) (expected : Nat) (body : List Byte) : Bool :=
  match body with
  | [] => false
  | index :: fields =>
    fields.length % 2 == 0 && index.toNat == expected && decide (expected < u.rows)
      && fields.length == 2 * u.columns

/-- A receiver with a row taken: its bytes fed to the check, its fields stored clamped (R4). -/
def Receiver.takeRow (r : Receiver) (fields : List Byte) : Receiver :=
  { r with
    expected := r.expected + 1
    samples := r.samples ++ [(rawFields fields).map (min 4095)]
    check := checkBytes r.check fields }

/-- A row record handled (R4). -/
def State.takeRowRecord (s : State) (u : Surface) (body : List Byte) : State :=
  let r := (s.intake.get u).recv
  if r.cond = .assembling then
    if rowFits u r.expected body then s.setReceiver u (r.takeRow body.tail) else s.discardFrame u
  else s

/-- An item joins the wait list (R14). -/
def State.joinWaitList (s : State) (w : WaitItem) : State := s.setWaitList (s.engine.waitList ++ [w])

/-- A valid frame goes into the ready buffer and joins the wait list now; a waiting frame of the surface is
replaced, which is an overrun (R9). -/
def State.makeReady (s : State) (u : Surface) (frame : Half) (samples : List (List Nat)) : State :=
  let fresh : ReadyFrame := { frame := frame, time := s.now, samples := samples }
  let s1 := s.onIntake u fun i =>
    { i with ready := some fresh, overruns := if i.ready.isSome then countUp i.overruns else i.overruns }
  let s2 := s1.setWaitList (s1.engine.waitList.filter fun w => !w.isFrame u)
  s2.joinWaitList { key := s.now, surface := u, work := .frame }

/-- A valid frame disposed of by its surface (R9). -/
def State.disposeFrame (s : State) (u : Surface) (frame : Half) (samples : List (List Nat)) : State :=
  if s.shut u then s
  else if (s.intake.get u).state = .failed then (s.enterAcquire u false).makeReady u frame samples
  else
    let s1 := s.onIntake u fun i => { i with errorRun := 0, timeout := s.timeoutFromNow }
    s1.makeReady u frame samples

/-- The frame under assembly is valid at its end record (R5). -/
def Receiver.valid (r : Receiver) (u : Surface) (frame check : Half) : Bool :=
  r.expected == u.rows && r.frame == frame && r.check == check

/-- A frame end handled (R5). -/
def State.takeFrameEnd (s : State) (u : Surface) (frame check : Half) : State :=
  let r := (s.intake.get u).recv
  if r.cond = .assembling then
    if r.valid u frame check then
      (s.setReceiver u (Receiver.idle .waiting)).disposeFrame u frame r.samples
    else s.discardFrame u
  else s

/-- FRAME_START (R3; log 6). -/
def execFrameStart (port : Surface) (frame : Half) (columns rows : Byte) (s : State) :
    Host.Outcome State Fault Refusal :=
  .next <| s.unlessHeld fun s => State.noticeRises s (s.takeFrameStart port frame columns rows)

/-- ROW_RECORD (R4; log 6). -/
def execRowRecord (port : Surface) (body : List Byte) (s : State) : Host.Outcome State Fault Refusal :=
  .next <| s.unlessHeld fun s => State.noticeRises s (s.takeRowRecord port body)

/-- FRAME_END (R5; log 6). -/
def execFrameEnd (port : Surface) (frame check : Half) (s : State) : Host.Outcome State Fault Refusal :=
  .next <| s.unlessHeld fun s => State.noticeRises s (s.takeFrameEnd port frame check)

/-- UNKNOWN_SCAN_RECORD (R2): ignored, and nothing changes. -/
def execUnknownScanRecord (_port : Surface) (_kind : Byte) (_body : List Byte) (s : State) :
    Host.Outcome State Fault Refusal := .next s

/-- FRAME_TIMEOUT (R12; log 6): a reached deadline fails a surface in ACQUIRE or LIVE; otherwise nothing
befalls (log 2). -/
def execFrameTimeout (surface : Surface) (s : State) : Host.Outcome State Fault Refusal :=
  .next <|
    if (s.intake.get surface).timeout.any (reached s.now) && s.processed surface then
      State.noticeRises s (s.failSurface surface)
    else s

end Sys2Proof.Machine
end

