-- ==== Sys2Proof/Machine/Layouts.lean ====
section
/-! DEFINITION. The bytes of report records (R194) and of the records that QUERY returns (R196). -/

namespace Sys2Proof.Machine

/-! ## Codes shared by the payloads (R192, R194, R196) -/

/-- A surface state's code (R194). -/
def SurfaceState.code : SurfaceState → Nat
  | .off => 0
  | .acquire => 1
  | .live => 2
  | .failed => 3

/-- A pen state's code (R194). -/
def PenMode.code : PenMode → Nat
  | .out => 0
  | .hover => 1
  | .ink => 2
  | .coast _ => 3

/-- A coast origin's code, 0 when the pen is not coasting (R196). -/
def PenMode.originCode : PenMode → Nat
  | .out => 0
  | .hover => 0
  | .ink => 0
  | .coast .hover => 1
  | .coast .ink => 2

/-- The code of the state a PEN report names (R194). -/
def PenShown.code : PenShown → Nat
  | .out => 0
  | .hover => 1
  | .ink => 2

/-- A part state's code (R194). -/
def PartState.code : PartState → Nat
  | .hold => 0
  | .run => 1
  | .stopping => 2

/-- A reset cause's code (R194). -/
def ResetCause.code : ResetCause → Nat
  | .power => 0
  | .pin => 1
  | .command => 2

/-- A phase's code (R194). -/
def Phase.code : Phase → Nat
  | .begin => 0
  | .update => 1
  | .end_ => 2
  | .cancel => 3

/-- A reason's code (R194). -/
def Reason.code : Reason → Nat
  | .range => 1
  | .invalid => 2
  | .state => 3
  | .unknown => 4
  | .full => 5

/-- The reply code and the reason byte of a reply (R194). -/
def ReplyCode.bytes : ReplyCode → List Byte
  | .done => [0, 0]
  | .busy => [1, 0]
  | .refused r => [2, byteOf r.code]

/-- A track state's code; a FREE slot's is 0 (R196). -/
def TrackState.code : TrackState → Nat
  | .tentative => 1
  | .active => 2
  | .missing => 3
  | .ended _ => 4

/-- An end cause's code, 0 for a track that has not ended (R196). -/
def TrackState.causeCode : TrackState → Nat
  | .tentative => 0
  | .active => 0
  | .missing => 0
  | .ended .lift => 1
  | .ended .cancel => 2

/-- An axis's code (R193, R194). -/
def Axis.code : Axis → Nat
  | .x => 0
  | .y => 1
  | .both => 2

/-- A last direction as a signed byte (R194). -/
def Direction.byte : Direction → Byte
  | .none => 0
  | .positive => intByte 1
  | .negative => intByte (-1)

/-- A slot number, FFh for none (R189). -/
def slotByte : Option Nat → Byte
  | none => 0xFF
  | some n => byteOf n

/-- Flags as the bits of a byte, bit 0 first (R189). -/
def flagBits (l : List Bool) : Byte :=
  byteOf (l.foldr (fun b n => b.toNat + 2 * n) 0)

/-- The bytes of a position. -/
def Pos.bytes (p : Pos) : List Byte := natBytes2 p.x ++ natBytes2 p.y

/-! ## Report record payloads (R194) -/

/-- The mark byte of a contact entry (R194). -/
def ContactEntry.markByte (e : ContactEntry) : Byte :=
  match e.mark with
  | .new => flagBits [false, false, false, false, e.suppressed, e.forced]
  | .ongoing => flagBits [true, false, false, false, e.suppressed, e.forced]
  | .ended cause unseen => flagBits [false, true, cause == .cancel, unseen, e.suppressed, e.forced]

/-- The 13 bytes of a contact entry (R194). -/
def ContactEntry.bytes (e : ContactEntry) : List Byte :=
  [byteOf e.track.id, byteOf e.track.slot, e.markByte, byteOf e.cls.code, slotByte e.owner]
    ++ e.pos.bytes ++ [byteOf e.matchArea] ++ natBytes2 e.peak ++ [byteOf e.zone]

/-- The cause byte and the frame number of a CONTACT report (R194). -/
def ContactCause.bytes : ContactCause → List Byte
  | .frame n => 0 :: halfBytes n
  | .closing => [1, 0, 0]
  | .abort => [2, 0, 0]
  | .catchUp => [3, 0, 0]

/-- A CONTACT payload (R194). -/
def ContactReport.bytes (r : ContactReport) : List Byte :=
  [byteOf r.surface.code] ++ r.cause.bytes ++ [byteOf r.entries.length]
    ++ r.entries.flatMap ContactEntry.bytes

/-- The fields of the held sample after its flags (R194, R196). -/
def PenHeld.bytes (h : PenHeld) : List Byte :=
  h.pos.bytes ++ natBytes2 h.pressure ++ [intByte h.tiltX, intByte h.tiltY, byteOf h.quality]

/-- A PEN payload (R194). -/
def PenReport.bytes (r : PenReport) : List Byte :=
  [byteOf r.shown.code, flagBits [r.lost, r.recovered, r.held.barrel, r.held.eraser, r.held.invert]]
    ++ r.held.bytes

/-- A POINTER payload (R194). -/
def Motion.bytes (m : Motion) : List Byte :=
  intBytes2 m.x ++ intBytes2 m.y
    ++ [flagBits ((m.buttons ++ List.replicate 7 false).take 7 ++ [m.click])]

/-- A GESTURE payload (R194). -/
def GestureReport.bytes (g : GestureReport) : List Byte :=
  [byteOf g.code, byteOf g.phase.code, byteOf g.slot, byteOf g.template, byteOf g.ids.length]
    ++ g.ids.map byteOf
    ++ [intByte g.x.steps, intByte g.y.steps,
        flagBits [g.x.reversed, g.x.clamped, g.y.reversed, g.y.clamped]]

/-- A NOTICE payload (R194). -/
def Notice.bytes : Notice → List Byte
  | .reset c => [0, byteOf c.code]
  | .surface pad panel p q => [1, byteOf pad.code, byteOf panel.code, flagBits [p, q]]
  | .posture p angle => [2, byteOf p.code] ++ natBytes2 angle
  | .faultRising => [3]
  | .lossRising => [4]

/-- A REPLY payload (R194). -/
def Reply.bytes (r : Reply) : List Byte := [r.tag, r.command] ++ r.code.bytes ++ r.body

/-- A claim in a context record (R194). -/
def ClaimEntry.bytes (e : ClaimEntry) : List Byte :=
  [byteOf e.track.slot, byteOf e.track.id] ++ e.pos.bytes ++ e.anchor.bytes ++ [byteOf e.zone]
    ++ intBytes2 e.dx ++ intBytes2 e.dy

/-- One axis of the accumulators in a context record (R194). -/
def AxisAcc.bytes (a : AxisAcc) : List Byte := intBytes2 a.value ++ [a.last.byte]

/-- The accumulators in a context record, 0 when absent (R189, R194). -/
def accBytes : Option Accumulators → List Byte
  | none => List.replicate 7 0
  | some a => [byteOf a.axis.code] ++ a.x.bytes ++ a.y.bytes

/-- The presence flags of a context record (R194). -/
def Context.presence (c : Context) (holder : Bool) : Byte :=
  flagBits [c.timer.isSome, (c.timer.bind ContextTimer.waiting).isSome, c.openCode.isSome, c.acc.isSome, holder]

/-- A context record, with its pointer-holder flag (R194). -/
def Context.bytes (c : Context) (holder : Bool) : List Byte :=
  [byteOf c.template] ++ natBytes2 c.serial ++ [byteOf c.state, c.presence holder]
    ++ timeBytes c.startTime ++ timeBytes c.anchorTime ++ natBytes2 c.anchorSpread
    ++ timeBytes ((c.timer.map ContextTimer.deadline).getD 0)
    ++ [byteOf c.taps, byteOf (c.openCode.getD 0)] ++ accBytes c.acc
    ++ [byteOf c.claims.length] ++ c.claims.flatMap ClaimEntry.bytes

/-- The slot and ID bytes of the track a SNAPSHOT's event names (R194). -/
def eventTrackBytes : Option TrackRef → List Byte
  | none => [0xFF, 0]
  | some r => [byteOf r.slot, byteOf r.id]

/-- A SNAPSHOT payload (R194). -/
def SnapshotReport.bytes (r : SnapshotReport) : List Byte :=
  [byteOf r.slot, byteOf r.event.code] ++ eventTrackBytes r.track ++ r.context.bytes r.holder

/-- A record kind's code (R194). -/
def Payload.kindCode : Payload → Byte
  | .contact _ => 1
  | .pen _ => 2
  | .pointer _ => 3
  | .gesture _ => 4
  | .notice _ => 5
  | .reply _ => 6
  | .snapshot _ => 7

/-- A payload's bytes (R194). -/
def Payload.bytes : Payload → List Byte
  | .contact r => r.bytes
  | .pen r => r.bytes
  | .pointer m => m.bytes
  | .gesture g => g.bytes
  | .notice n => n.bytes
  | .reply r => r.bytes
  | .snapshot r => r.bytes

/-- A report record's bytes with the condition summary filled in (R194). -/
def Record.bytes (r : Record) (summary : Byte) : List Byte :=
  [r.payload.kindCode, summary] ++ timeBytes r.time ++ r.payload.bytes

/-- What a read transfer sends of a record: its length in two bytes, then the record (R173, R191). -/
def Record.sent (r : Record) (summary : Byte) : List Byte :=
  natBytes2 (r.bytes summary).length ++ r.bytes summary

/-! ## QUERY bodies (R196) -/

/-- A surface's part of the condition record (R183, R196). -/
def State.surfaceCondition (s : State) (u : Surface) : List Byte :=
  let i := s.intake.get u
  [byteOf i.state.code] ++ natBytes2 i.taken ++ natBytes2 i.discarded ++ natBytes2 i.errorRun
    ++ natBytes2 i.overruns ++ natBytes2 (s.blobOverflow.get u) ++ natBytes2 (s.tracks.overflow.get u)

/-- The condition record (R183, R196). -/
def State.conditionBytes (s : State) : List Byte :=
  [byteOf s.link.part.code, byteOf s.link.cause.code] ++ s.surfaceCondition .pad
    ++ s.surfaceCondition .panel ++ natBytes2 s.pen.lost ++ [flagByte s.link.loss]
    ++ natBytes2 s.link.badWrites ++ natBytes2 s.link.droppedWrites
    ++ [flagByte s.tables.commit.isSome, byteOf s.posture.code] ++ natBytes2 s.angle
    ++ [intByte s.pen.vote]

/-- The blob features of a track in QUERY of the track table (R196). -/
def Features.bytes (f : Features) : List Byte :=
  natBytes2 f.area ++ [byteOf f.matchArea] ++ natBytes2 f.peak ++ natBytes4 f.sum ++ natBytes2 f.flat
    ++ natBytes2 f.elong ++ [byteOf f.box.c0, byteOf f.box.c1, byteOf f.box.r0, byteOf f.box.r1, byteOf f.zone]

/-- The flags byte of a track (R196). -/
def Track.flagsByte (t : Track) : Byte :=
  flagBits [t.latched, t.forced, t.suppressed, t.startPending, t.endPending, t.prev.isSome, t.feat.edge]

/-- A track's fields after its slot and state (R196). -/
def Track.bytes (t : Track) : List Byte :=
  [byteOf t.id, byteOf t.state.causeCode, byteOf t.cls.code, byteOf t.candidate.code, byteOf t.votes,
      t.flagsByte, slotByte t.owner]
    ++ t.pos.bytes ++ (t.prev.getD ⟨0, 0⟩).bytes ++ t.anchor.bytes ++ [byteOf t.zone]
    ++ timeBytes t.downTime ++ [byteOf t.seen, byteOf t.misses] ++ t.feat.bytes

/-- A slot in QUERY of the track table: its number and state, and the fields of a slot that is not FREE. -/
def slotRecord (n : Nat) (r : Option Track) : List Byte :=
  match r with
  | none => [byteOf n, 0]
  | some t => [byteOf n, byteOf t.state.code] ++ t.bytes

/-- QUERY of a surface's track slots (R70, R196). -/
def State.trackTableBytes (s : State) (u : Surface) : List Byte :=
  [byteOf u.code, byteOf s.tracks.nextId]
    ++ (s.tracks.slots.get u).zipIdx.flatMap fun (r, i) => slotRecord (u.firstSlot + i) r

/-- A context slot in QUERY of the contexts (R194). -/
def State.contextSlotBytes (s : State) (k : Nat) (c : Option Context) : List Byte :=
  match c with
  | none => [0xFF]
  | some c => c.bytes (s.holds k c.serial)

/-- QUERY of the contexts (R146, R196). -/
def State.contextsBytes (s : State) : List Byte :=
  s.gestures.contexts.zipIdx.flatMap (fun (c, k) => s.contextSlotBytes k c)
    ++ [byteOf s.gestures.digests.length, flagByte s.gestures.inHand, flagByte s.gestures.switchWaiting,
        byteOf s.gestures.watch.length]
    ++ s.gestures.watch.flatMap fun w => [byteOf w.template, byteOf w.state]

/-- A deadline with its presence byte (R189, R196). -/
def deadlineBytes : Option Time → List Byte
  | none => 0 :: timeBytes 0
  | some t => 1 :: timeBytes t

/-- The pen shadow with its presence byte (R189, R196). -/
def shadowBytes : Option Rect → List Byte
  | none => List.replicate 9 0
  | some r => [1] ++ natBytes2 r.x0 ++ natBytes2 r.x1 ++ natBytes2 r.y0 ++ natBytes2 r.y1

/-- QUERY of the pen (R107, R196). -/
def State.penBytes (s : State) : List Byte :=
  let h := s.pen.held
  [byteOf s.pen.mode.code, byteOf s.pen.mode.originCode,
      flagBits [false, false, h.barrel, h.eraser, h.invert]]
    ++ h.bytes ++ [byteOf s.pen.coast] ++ deadlineBytes s.pen.guard ++ [flagByte s.padQuiet]
    ++ shadowBytes s.shadow ++ [intByte s.pen.vote, flagByte (!autoRight s.pen.vote)]

/-- The widened band of the current posture, 0 and 0 when its band is empty (R112, R196). -/
def widenedBand (e : PostureEntry) (hysteresis : Nat) : Int × Int :=
  if e.bandEmpty then (0, 0) else ((e.bandMin : Int) - hysteresis, (e.bandMax : Int) + hysteresis)

/-- QUERY of the posture (R119, R196). -/
def State.postureBytes (s : State) : List Byte :=
  let w := widenedBand s.entry (angleHysteresis s.tune)
  [byteOf s.posture.code] ++ natBytes2 s.angle ++ s.entry.bytes ++ [flagByte s.entry.bandEmpty]
    ++ intBytes2 w.1 ++ intBytes2 w.2

/-- QUERY of a baseline row (R32, R196). -/
def State.baselineBytes (s : State) (u : Surface) (row : Nat) : List Byte :=
  let b := s.base.get u
  [byteOf u.code, byteOf row, byteOf b.acquired, byteOf b.drift] ++ (b.values.getD row []).flatMap natBytes2

/-- How many bytes of entries fit in a report record that answers a QUERY of a table range: 520 less the
16 bytes before them (R183, R189, R194 to R196). -/
def rangeRoom : Nat := Config.longestReport - 16

/-- The entries that a QUERY of a table range returns (R183). -/
def rangeEntries (t : Tables) (p : Part) (first count : Nat) : List (List Byte) :=
  ((t.partEntries p).drop first).take (min count (rangeRoom / p.entryBytes))

/-- QUERY of a range of an active table (R183, R196). -/
def State.rangeBytes (s : State) (kind part : Byte) (p : Part) (first count : Half) : List Byte :=
  let es := rangeEntries s.tables.active p first.toNat count.toNat
  [kind, part] ++ halfBytes first ++ [byteOf es.length] ++ es.flatten

end Sys2Proof.Machine
end

