-- ==== Sys2Proof/Machine/Query.lean ====
section
/-! DEFINITION. QUERY in its eight rows (R183): each answers the values as they stand, and changes nothing
but the report queue. -/

namespace Sys2Proof.Machine

/-- The DONE of a QUERY: its selector, then the body that R196 gives (R195). -/
def State.answer (s : State) (tag selector : Byte) (body : List Byte) : State :=
  s.done tag 0x0A (selector :: body)

/-- QUERY of a surface's track slots, taken (R70). -/
def State.takeQueryTracks (s : State) (tag surface : Byte) : State :=
  match surfaceOf surface.toNat with
  | some u => s.answer tag 1 (s.trackTableBytes u)
  | none => s.refuse tag 0x0A .range

/-- QUERY of a baseline row, taken (R32). -/
def State.takeQueryBaseline (s : State) (tag surface row : Byte) : State :=
  match surfaceOf surface.toNat with
  | some u =>
    if row.toNat < u.rows then s.answer tag 5 (s.baselineBytes u row.toNat) else s.refuse tag 0x0A .range
  | none => s.refuse tag 0x0A .range

/-- QUERY of a table range, taken (R183; log 18). -/
def State.takeQueryRange (s : State) (tag kind part : Byte) (first count : Half) : State :=
  match partOf kind.toNat part.toNat with
  | some p =>
    let n := s.tables.active.partLength p
    if n ≠ 0 ∧ n ≤ first.toNat then s.refuse tag 0x0A .range
    else s.answer tag 6 (s.rangeBytes kind part p first count)
  | none => s.refuse tag 0x0A .range

/-- QUERY_CONDITION (R183). -/
def execQueryCondition (tag : Byte) (s : State) : Host.Outcome State Fault Refusal :=
  .next <| s.takeWrite fun s => s.answer tag 0 s.conditionBytes

/-- QUERY_TRACK_TABLE (R70). -/
def execQueryTrackTable (tag surface : Byte) (s : State) : Host.Outcome State Fault Refusal :=
  .next <| s.takeWrite fun s => s.takeQueryTracks tag surface

/-- QUERY_CONTEXTS (R146). -/
def execQueryContexts (tag : Byte) (s : State) : Host.Outcome State Fault Refusal :=
  .next <| s.takeWrite fun s => s.answer tag 2 s.contextsBytes

/-- QUERY_PEN (R107). -/
def execQueryPen (tag : Byte) (s : State) : Host.Outcome State Fault Refusal :=
  .next <| s.takeWrite fun s => s.answer tag 3 s.penBytes

/-- QUERY_POSTURE (R119). -/
def execQueryPosture (tag : Byte) (s : State) : Host.Outcome State Fault Refusal :=
  .next <| s.takeWrite fun s => s.answer tag 4 s.postureBytes

/-- QUERY_BASELINE_ROW (R32). -/
def execQueryBaselineRow (tag surface row : Byte) (s : State) : Host.Outcome State Fault Refusal :=
  .next <| s.takeWrite fun s => s.takeQueryBaseline tag surface row

/-- QUERY_TABLE_RANGE (R183). -/
def execQueryTableRange (tag kind part : Byte) (first count : Half) (s : State) :
    Host.Outcome State Fault Refusal :=
  .next <| s.takeWrite fun s => s.takeQueryRange tag kind part first count

/-- QUERY_BAD_SELECTOR (R183): answered REFUSED(RANGE). -/
def execQueryBadSelector (tag _selector : Byte) (s : State) : Host.Outcome State Fault Refusal :=
  .next <| s.takeWrite fun s => s.refuse tag 0x0A .range

end Sys2Proof.Machine
end

