-- ==== Sys2Proof/Machine/Link.lean ====
section
/-! DEFINITION. The link controller (chapter 11): transfers and departures, the part states with RUN, STOP
and ABORT, RECAL, CLEAR, the three resets, and the decoding of writes. -/

namespace Sys2Proof.Machine

/-! ## Departures (R179 to R181) -/

/-- Waiting replies take the places that are free, oldest first (R181, step 1). -/
def State.admitWaiting (s : State) : State :=
  let room := Config.queueCapacity - s.queue.length
  { s with
    queue := s.queue ++ s.link.waiting.take room
    link := { s.link with waiting := s.link.waiting.drop room } }

/-- The owed-notice set replaced. -/
def State.setOwed (s : State) (o : Owed) : State := { s with link := { s.link with owed := o } }

/-- The owed surface cause is issued with both current states and the marked surfaces (R180). -/
def State.issueSurface (s : State) : State :=
  match s.link.owed.surface with
  | some m =>
    if hasPlace s.queue then
      (s.setOwed { s.link.owed with surface := none }).enqueue s.now
        (.notice (.surface s.intake.pad.state s.intake.panel.state m.pad m.panel))
    else s
  | none => s

/-- The owed posture cause is issued with the current posture and angle (R119, R180). -/
def State.issuePosture (s : State) : State :=
  if s.link.owed.posture && hasPlace s.queue then
    (s.setOwed { s.link.owed with posture := false }).enqueue s.now (.notice (.posture s.posture s.angle))
  else s

/-- The owed cause of FAULT rising is issued (R180). -/
def State.issueFault (s : State) : State :=
  if s.link.owed.fault && hasPlace s.queue then
    (s.setOwed { s.link.owed with fault := false }).enqueue s.now (.notice .faultRising)
  else s

/-- The owed cause of report loss rising is issued (R180). -/
def State.issueLoss (s : State) : State :=
  if s.link.owed.loss && hasPlace s.queue then
    (s.setOwed { s.link.owed with loss := false }).enqueue s.now (.notice .lossRising)
  else s

/-- Owed notices are issued in the order of R180, while there is room (R181, step 2). -/
def State.issueOwed (s : State) : State := s.issueSurface.issuePosture.issueFault.issueLoss

/-- A departure hands the freed room on: waiting replies, owed notices, catch-up reports, unsent motion
(R181). -/
def State.departure (s : State) : State :=
  ((s.admitWaiting.issueOwed.catchUp .pad).catchUp .panel).offerUnsent

/-! ## Transfers (R173, R174) -/

/-- How many bytes a read transfer has the part send: the head record with its length, or a length of 0 (R173). -/
def State.readTotal (s : State) : Nat :=
  match s.queue with
  | [] => 2
  | r :: _ => (r.sent s.summary).length

/-- The command that a transfer of the host stands for, from the bytes it sends (R173, R191). -/
def State.transfer (s : State) (bytes : List Byte) : Option Instr := decodeTransfer s.readTotal bytes

/-- A read transfer run to its end (R173). -/
def State.takeRead (s : State) (extra : Nat) : State :=
  let zeros := List.replicate extra (0 : Byte)
  match s.queue with
  | [] => s.setLinkOut (.bytes ([0, 0] ++ zeros))
  | r :: rest =>
    let s1 := s.setLinkOut (.bytes (r.sent s.summary ++ zeros))
    { s1 with queue := rest }.departure

/-- READ_TRANSFER (R173; log 7). -/
def execReadTransfer (extra : Nat) (s : State) : Host.Outcome State Fault Refusal :=
  .next <| s.unlessHeld fun s => s.takeRead extra

/-- A read transfer ended early (R173): the head record stays, marked begun once the part has begun to send
it, which is at the third byte (log 7). -/
def State.endRead (s : State) (sent : Nat) : State :=
  match s.queue with
  | [] => s.setLinkOut (.bytes (([0, 0] : List Byte).take sent))
  | r :: rest =>
    let s1 := s.setLinkOut (.bytes ((r.sent s.summary).take sent))
    { s1 with queue := { r with begun := r.begun || decide (3 ≤ sent) } :: rest }

/-- READ_ENDED_EARLY (R173). -/
def execReadEndedEarly (sent : Nat) (s : State) : Host.Outcome State Fault Refusal :=
  .next <| s.unlessHeld fun s => s.endRead sent

/-- BAD_TRANSFER_KIND (R173, R174): counted as a bad write. What the part sends in it no rule says, and
`State.linkOut` tells of reads and writes alone (log 7). -/
def execBadTransferKind (_kind : Byte) (s : State) : Host.Outcome State Fault Refusal :=
  .next <| s.unlessHeld State.countBadWrite

/-! ## Part states (R185 to R187) -/

/-- The part state replaced. -/
def State.setPart (s : State) (p : PartState) : State := { s with link := { s.link with part := p } }

/-- STOP's tag, kept for its deferred reply (R186). -/
def State.setStopTag (s : State) (t : Option Byte) : State := { s with link := { s.link with stopTag := t } }

/-- A surface that the current entry enables enters ACQUIRE as RUN is taken in HOLD (R10, R185). -/
def State.runSurface (s : State) (u : Surface) : State :=
  if s.entry.enablesSurface u then s.enterAcquire u false else s

/-- RUN, taken (R185). -/
def State.takeRun (s : State) (tag : Byte) : State :=
  match s.link.part with
  | .hold =>
    (State.noticeRises s (((s.setPart .run).runSurface .pad).runSurface .panel)).done tag 0x05 []
  | .run => s.done tag 0x05 []
  | .stopping => s.busy tag 0x05

/-- STOP accepted in RUN (R186): STOPPING, closing requests with outcome OFF for both surfaces, the pen's
forced exit. -/
def State.beginStop (s : State) (tag : Byte) : State :=
  ((((s.setPart .stopping).setStopTag (some tag)).postClosing .pad .off).postClosing .panel .off).penForcedExit

/-- STOP, taken (R186). -/
def State.takeStop (s : State) (tag : Byte) : State :=
  match s.link.part with
  | .hold => s.done tag 0x06 []
  | .run => State.noticeRises s (s.beginStop tag)
  | .stopping => s.busy tag 0x06

/-- STOP's deferred DONE (R186). -/
def State.stopDone (s : State) : State :=
  match s.link.stopTag with
  | none => s
  | some tag => (s.setStopTag none).done tag 0x06 []

/-- The frame engine has drained: no operation in flight and no closing request waiting (R14). -/
def State.drained (s : State) : Bool :=
  s.engine.op.isNone && !s.closingWaits .pad && !s.closingWaits .panel

/-- A stop completes (R186): general cancellation, HOLD, the rest of a commit, STOP's DONE (log 6). -/
def State.completeStop (s : State) : State :=
  ((State.noticeRises s (s.generalCancel.setPart .hold).switchAtHold).endCommit).stopDone

/-- STOP_COMPLETE (R14, R186): in STOPPING, with the frame engine drained; otherwise nothing befalls (log 2). -/
def execStopComplete (s : State) : Host.Outcome State Fault Refusal :=
  .next <| if s.link.part = .stopping ∧ s.drained then s.completeStop else s

/-- The frame engine's part of ABORT (R19): the operation in flight, the wait list and both ready buffers
are discarded. -/
def State.abortEngine (s : State) : State :=
  { s with
    engine := { waitList := [], op := none }
    intake := ⟨{ s.intake.pad with ready := none }, { s.intake.panel with ready := none }⟩ }

/-- The track table's part of ABORT (R63): every track ends. -/
def State.abortTracks (s : State) : State :=
  { s with tracks := { s.tracks with
      slots := ⟨s.tracks.slots.pad.map closeSlot, s.tracks.slots.panel.map closeSlot⟩ } }

/-- Palm memory loses every entry and both acquire states are cleared (R22, R85). -/
def State.abortStores (s : State) : State :=
  ({ s with palm := [] }.clearAcquire .pad).clearAcquire .panel

/-- The CONTACT report of ABORT for a surface with a pending announcement (R63). -/
def State.abortReport (s : State) (u : Surface) : State :=
  if s.tracks.announcePending u then s.reportContacts u .abort else s

/-- ABORT's steps 1 to 4 (R187): engine, tracks, stores, surfaces. -/
def State.windDown (s : State) : State :=
  (s.abortEngine.abortTracks.abortStores.enterState .pad .off).enterState .panel .off

/-- ABORT's steps 5 to 8 (R187): CONTACT reports, pen, general cancellation, HOLD. -/
def State.windUp (s : State) : State :=
  (((s.abortReport .pad).abortReport .panel).penForcedExit.generalCancel).setPart .hold

/-- ABORT's steps 1 to 9 in RUN or STOPPING (R187; log 6): a surface that leaves FAILED lets FAULT fall in
step 4, so rises count from there. -/
def State.abortAll (s : State) : State :=
  (State.noticeRises s.windDown s.windDown.windUp.switchAtHold).endCommit

/-- ABORT, taken (R187): STOP's DONE comes before its own. -/
def State.takeAbort (s : State) (tag : Byte) : State :=
  match s.link.part with
  | .hold => s.done tag 0x07 []
  | .run | .stopping => s.abortAll.stopDone.done tag 0x07 []

/-- RECAL, taken (R30). -/
def State.takeRecal (s : State) (tag surface : Byte) : State :=
  match surfaceOf surface.toNat with
  | none => s.refuse tag 0x09 .range
  | some u =>
    match (s.intake.get u).state with
    | .live => (if s.shut u then s else State.noticeRises s (s.recapture u)).done tag 0x09 []
    | .acquire => s.done tag 0x09 []
    | .off | .failed => s.refuse tag 0x09 .state

/-! ## CLEAR and the resets (R184, R188) -/

/-- The counters of a surface's intake at 0, its states kept (R20, R184). -/
def Intake.cleared (i : Intake) : Intake :=
  { i with errorRun := 0, discarded := 0, overruns := 0, taken := 0 }

/-- Every counter of CLEAR at 0, the report-loss flag and RESET_SEEN clear (R184). -/
def State.clearCounters (s : State) : State :=
  { s with
    intake := ⟨s.intake.pad.cleared, s.intake.panel.cleared⟩
    blobOverflow := ⟨0, 0⟩
    tracks := { s.tracks with overflow := ⟨0, 0⟩ }
    pen := { s.pen with lost := 0 }
    link := { s.link with badWrites := 0, droppedWrites := 0, loss := false, resetSeen := false } }

/-- CLEAR, taken (R184). -/
def State.takeClear (s : State) (tag : Byte) : State := s.clearCounters.done tag 0x0D []

/-- RESET, taken (R188): no reply. -/
def State.takeReset (s : State) : State := State.afterReset .command s.pending

/-- RUN (R185). -/
def execRun (tag : Byte) (s : State) : Host.Outcome State Fault Refusal :=
  .next <| s.takeWrite fun s => s.takeRun tag

/-- STOP (R186). -/
def execStop (tag : Byte) (s : State) : Host.Outcome State Fault Refusal :=
  .next <| s.takeWrite fun s => s.takeStop tag

/-- ABORT (R187). -/
def execAbort (tag : Byte) (s : State) : Host.Outcome State Fault Refusal :=
  .next <| s.takeWrite fun s => s.takeAbort tag

/-- RECAL (R30). -/
def execRecal (tag surface : Byte) (s : State) : Host.Outcome State Fault Refusal :=
  .next <| s.takeWrite fun s => s.takeRecal tag surface

/-- CLEAR (R184). -/
def execClear (tag : Byte) (s : State) : Host.Outcome State Fault Refusal :=
  .next <| s.takeWrite fun s => s.takeClear tag

/-- RESET (R188). -/
def execReset (_tag : Byte) (s : State) : Host.Outcome State Fault Refusal :=
  .next <| s.takeWrite State.takeReset

/-- UNKNOWN_COMMAND (R175): answered REFUSED(UNKNOWN). -/
def execUnknownCommand (tag code : Byte) (s : State) : Host.Outcome State Fault Refusal :=
  .next <| s.takeWrite fun s => s.refuse tag code .unknown

/-- POWER_ON (R188; log 5): a reset with cause POWER, which lasts while the reset pin is held. -/
def execPowerOn (s : State) : Host.Outcome State Fault Refusal :=
  .next <| if s.pinHeld then State.atReset .power true s.pending else State.afterReset .power s.pending

/-- RESET_PIN_ASSERT (R188; log 5): the part takes its reset values and stays at them. -/
def execResetPinAssert (s : State) : Host.Outcome State Fault Refusal :=
  .next <| if s.pinHeld then s else State.atReset .pin true s.pending

/-- RESET_PIN_RELEASE (R188; log 5): the reset ends, with its NOTICE. -/
def execResetPinRelease (s : State) : Host.Outcome State Fault Refusal :=
  .next <| if s.pinHeld then State.afterReset s.link.cause s.pending else s

/-! ## Writes (R174, R175, R192) -/

/-- A payload whose length does not suit its command is answered REFUSED(RANGE) (R175, R192). LOAD's length
checks are those of R162, whose first is a pending commit: a LOAD too short for its kind, part and offset is
answered BUSY then (log 27). -/
def State.takeBadLength (s : State) (tag code : Byte) : State :=
  if code = 0x01 ∧ s.tables.commit.isSome then s.busy tag code else s.refuse tag code .range

/-- A management record executed by the block that owns it (R175). -/
def State.runMgmt (s : State) : Mgmt → State
  | .load tag k p o e => s.takeLoad tag k p o e
  | .discard tag => s.takeDiscard tag
  | .check tag => s.takeCheck tag
  | .commit tag => s.takeCommit tag
  | .run tag => s.takeRun tag
  | .stop tag => s.takeStop tag
  | .abort tag => s.takeAbort tag
  | .postureCode tag v => s.takePostureCode tag v
  | .postureAngle tag v => s.takePostureAngle tag v
  | .postureBadForm tag _ _ => s.takePostureBadForm tag
  | .recal tag u => s.takeRecal tag u
  | .queryCondition tag => s.answer tag 0 s.conditionBytes
  | .queryTrackTable tag u => s.takeQueryTracks tag u
  | .queryContexts tag => s.answer tag 2 s.contextsBytes
  | .queryPen tag => s.answer tag 3 s.penBytes
  | .queryPosture tag => s.answer tag 4 s.postureBytes
  | .queryBaselineRow tag u r => s.takeQueryBaseline tag u r
  | .queryTableRange tag k p f c => s.takeQueryRange tag k p f c
  | .queryBadSelector tag _ => s.refuse tag 0x0A .range
  | .watch tag t st => s.takeWatch tag t st
  | .unwatch tag t st => s.takeUnwatch tag t st
  | .clear tag => s.takeClear tag
  | .reset _ => s.takeReset
  | .unknownCommand tag c => s.refuse tag c .unknown
  | .badLength tag c => s.takeBadLength tag c

/-- The management record of what the host sends after a write's kind byte, if the write is complete with
a good check (R174). -/
def goodRecord (bytes : List Byte) : Option (List Byte) :=
  match bytes with
  | l1 :: l0 :: rest =>
    let n := (joinBytes l1 l0).toNat
    let record := rest.take n
    let check := (rest.drop n).take 2
    if 2 ≤ n ∧ n ≤ Config.longestWrite ∧ n + 2 ≤ rest.length
        ∧ check = halfBytes (checkBytes checkStart (l1 :: l0 :: record)) then
      some record
    else none
  | _ => none

/-- A good write's record, taken (R175). A good record holds two bytes or more, so it always decodes. -/
def State.takeRecord (s : State) (record : List Byte) : State :=
  match decodeMgmt record with
  | some m => s.runMgmt m
  | none => s

/-- WRITE_TRANSFER (R174, R191): bad and counted, dropped for a full queue, or taken. -/
def execWriteTransfer (bytes : List Byte) (s : State) : Host.Outcome State Fault Refusal :=
  .next <|
    match goodRecord bytes with
    | some record => s.takeWrite fun s => s.takeRecord record
    | none => s.inWrite State.countBadWrite

end Sys2Proof.Machine
end

