-- ==== Sys2Proof/Machine/Dispatch.lean ====
section
/-! DEFINITION. What each command does: one arm for each row of the opcode table. -/

namespace Sys2Proof.Machine

/-- The effect of a command on everything but the queue of commands. -/
def exec (i : Instr) (s : State) : Host.Outcome State Fault Refusal :=
  match i with
  | .frameStart port frame columns rows => Sys2Proof.Machine.execFrameStart port frame columns rows s
  | .rowRecord port body => Sys2Proof.Machine.execRowRecord port body s
  | .frameEnd port frame check => Sys2Proof.Machine.execFrameEnd port frame check s
  | .unknownScanRecord port kind body => Sys2Proof.Machine.execUnknownScanRecord port kind body s
  | .penSample flags x y pressure tiltX tiltY quality => Sys2Proof.Machine.execPenSample flags x y pressure tiltX tiltY quality s
  | .frameTimeout surface => Sys2Proof.Machine.execFrameTimeout surface s
  | .frameOperationBegin => Sys2Proof.Machine.execFrameOperationBegin s
  | .frameOperationComplete => Sys2Proof.Machine.execFrameOperationComplete s
  | .heldOperationComplete => Sys2Proof.Machine.execHeldOperationComplete s
  | .palmMemoryExpiry entry => Sys2Proof.Machine.execPalmMemoryExpiry entry s
  | .penGuardExpiry => Sys2Proof.Machine.execPenGuardExpiry s
  | .timerDeadlineReached slot => Sys2Proof.Machine.execTimerDeadlineReached slot s
  | .timerExpiryTaken slot => Sys2Proof.Machine.execTimerExpiryTaken slot s
  | .digestTaken => Sys2Proof.Machine.execDigestTaken s
  | .penInkTaken => Sys2Proof.Machine.execPenInkTaken s
  | .programSwitch => Sys2Proof.Machine.execProgramSwitch s
  | .stopComplete => Sys2Proof.Machine.execStopComplete s
  | .readTransfer extra => Sys2Proof.Machine.execReadTransfer extra s
  | .readEndedEarly sent => Sys2Proof.Machine.execReadEndedEarly sent s
  | .badTransferKind kind => Sys2Proof.Machine.execBadTransferKind kind s
  | .writeTransfer bytes => Sys2Proof.Machine.execWriteTransfer bytes s
  | .load tag kind part offset entries => Sys2Proof.Machine.execLoad tag kind part offset entries s
  | .discard tag => Sys2Proof.Machine.execDiscard tag s
  | .check tag => Sys2Proof.Machine.execCheck tag s
  | .commit tag => Sys2Proof.Machine.execCommit tag s
  | .run tag => Sys2Proof.Machine.execRun tag s
  | .stop tag => Sys2Proof.Machine.execStop tag s
  | .abort tag => Sys2Proof.Machine.execAbort tag s
  | .postureCode tag value => Sys2Proof.Machine.execPostureCode tag value s
  | .postureAngle tag value => Sys2Proof.Machine.execPostureAngle tag value s
  | .postureBadForm tag form value => Sys2Proof.Machine.execPostureBadForm tag form value s
  | .recal tag surface => Sys2Proof.Machine.execRecal tag surface s
  | .queryCondition tag => Sys2Proof.Machine.execQueryCondition tag s
  | .queryTrackTable tag surface => Sys2Proof.Machine.execQueryTrackTable tag surface s
  | .queryContexts tag => Sys2Proof.Machine.execQueryContexts tag s
  | .queryPen tag => Sys2Proof.Machine.execQueryPen tag s
  | .queryPosture tag => Sys2Proof.Machine.execQueryPosture tag s
  | .queryBaselineRow tag surface row => Sys2Proof.Machine.execQueryBaselineRow tag surface row s
  | .queryTableRange tag kind part first count => Sys2Proof.Machine.execQueryTableRange tag kind part first count s
  | .queryBadSelector tag selector => Sys2Proof.Machine.execQueryBadSelector tag selector s
  | .watch tag template state => Sys2Proof.Machine.execWatch tag template state s
  | .unwatch tag template state => Sys2Proof.Machine.execUnwatch tag template state s
  | .clear tag => Sys2Proof.Machine.execClear tag s
  | .reset tag => Sys2Proof.Machine.execReset tag s
  | .unknownCommand tag code => Sys2Proof.Machine.execUnknownCommand tag code s
  | .powerOn => Sys2Proof.Machine.execPowerOn s
  | .resetPinAssert => Sys2Proof.Machine.execResetPinAssert s
  | .resetPinRelease => Sys2Proof.Machine.execResetPinRelease s
  | .digestHandlingEnd => Sys2Proof.Machine.execDigestHandlingEnd s

end Sys2Proof.Machine
end

