-- ==== Sys2Proof/Machine/Step.lean ====
section
/-! DEFINITION. One step: the command at the front of the queue is run on the rest, and on an empty queue
one tick of part time passes (log 1, log 3). -/

namespace Sys2Proof.Machine

/-- One tick of part time passes; while the reset pin is held part time stays at its reset value (R1, R188;
log 3). -/
def State.tick (s : State) : State := if s.pinHeld then s else { s with now := s.now + 1 }

/-- One step (log 1, log 3). -/
def step (s : State) : Host.Outcome State Fault Refusal :=
  match s.pending with
  | [] => .next s.tick
  | i :: rest => exec i { s with pending := rest }

/-- The state with the command that a word of the opcode table spells at the front of its queue; unchanged
where the word spells none, which is every word (log 16). -/
def State.withFetchWord (s : State) (nbits w : Nat) : State :=
  match decodeTableWord nbits w with
  | some i => { s with pending := i :: s.pending }
  | none => s

end Sys2Proof.Machine
end

