-- ==== Sys2Proof/WellFormed.lean ====
section
/-! DEFINITION. Which terms of `Instr` stand for a record, transfer or event that can befall the part.
Operands are fields of fixed width, so what is left to check is lengths, slot numbers and that the rows
for unknown codes carry unknown codes. `exec` gives every term its row's effect, well formed or not
(log 15). -/

namespace Sys2Proof

/-- A scan record body's length fits its length byte (R190). -/
def bodyFits (body : List Byte) : Bool := decide (body.length ≤ 255)

/-- The kind, length and port are none that R3, R4, R5 or R8 handle (R2). -/
def isUnknownScan (port : Surface) (kind : Byte) (body : List Byte) : Bool :=
  decide (decodeScan port kind body = .unknownScanRecord port kind body)

/-- The term can stand for something that befalls the part. -/
def Instr.wellFormed : Instr → Bool
  | .frameStart .. => true
  | .rowRecord _ body => bodyFits body
  | .frameEnd .. => true
  | .unknownScanRecord port kind body => bodyFits body && isUnknownScan port kind body
  | .penSample .. => true
  | .frameTimeout _ => true
  | .frameOperationBegin => true
  | .frameOperationComplete => true
  | .heldOperationComplete => true
  | .palmMemoryExpiry n => decide (n < Config.palmCapacity)
  | .penGuardExpiry => true
  | .timerDeadlineReached k => decide (k < Config.contextSlots)
  | .timerExpiryTaken k => decide (k < Config.contextSlots)
  | .digestTaken => true
  | .penInkTaken => true
  | .programSwitch => true
  | .stopComplete => true
  | .readTransfer _ => true
  | .readEndedEarly _ => true
  | .badTransferKind kind => decide (kind ≠ readKind ∧ kind ≠ writeKind)
  | .writeTransfer _ => true
  | .load _ _ _ _ entries => decide (entries.length + 6 ≤ Config.longestWrite)
  | .discard _ => true
  | .check _ => true
  | .commit _ => true
  | .run _ => true
  | .stop _ => true
  | .abort _ => true
  | .postureCode .. => true
  | .postureAngle .. => true
  | .postureBadForm _ form _ => decide (2 ≤ form.toNat)
  | .recal .. => true
  | .queryCondition _ => true
  | .queryTrackTable .. => true
  | .queryContexts _ => true
  | .queryPen _ => true
  | .queryPosture _ => true
  | .queryBaselineRow .. => true
  | .queryTableRange .. => true
  | .queryBadSelector _ sel => decide (7 ≤ sel.toNat)
  | .watch .. => true
  | .unwatch .. => true
  | .clear _ => true
  | .reset _ => true
  | .unknownCommand _ code => decide (code.toNat = 0 ∨ 0x0E < code.toNat)
  | .powerOn => true
  | .resetPinAssert => true
  | .resetPinRelease => true
  | .digestHandlingEnd => true

end Sys2Proof
end

