-- ==== Sys2Proof/Safety.lean ====
section
/-! DEFINITION. What counts as a sound state of the part: the capacities of its lists, the replies that may
wait, the winding down of STOP and HOLD, the pointer and the buttons, the active tables. -/

namespace Sys2Proof.Machine

/-! ## Terms the statements use -/

/-- A complete good write is taken: the reset pin is released and the queue holds fewer than 32 records (R174). -/
abbrev State.takes (s : State) : Prop := s.pinHeld = false ∧ s.queue.length < 32

/-- The state after a write that is answered at once: the part has sent zeros, and a REPLY made now stands at the
tail of the queue (R175, R176, R191). -/
def State.replied (s : State) (tag command : Byte) (code : ReplyCode) (body : List Byte) : State :=
  { s with
    linkOut := .zeros
    queue := s.queue ++
      [{ time := s.now, payload := .reply { tag := tag, command := command, code := code, body := body },
         begun := false }] }

/-- The state with a NOTICE made now at the tail of the queue (R176, R180). -/
def State.noticed (s : State) (n : Notice) : State :=
  { s with queue := s.queue ++ [{ time := s.now, payload := .notice n, begun := false }] }

/-- A record as it joins the queue. -/
def Payload.fresh (p : Payload) (time : Time) : Record := { time := time, payload := p, begun := false }

/-- The NOTICEs that the owed causes become when they are issued, in the order of R180. -/
def State.owedNotices (s : State) : List Notice :=
  (s.link.owed.surface.map fun m =>
      Notice.surface s.intake.pad.state s.intake.panel.state m.pad m.panel).toList
    ++ (if s.link.owed.posture then [.posture s.posture s.angle] else [])
    ++ (if s.link.owed.fault then [.faultRising] else [])
    ++ (if s.link.owed.loss then [.lossRising] else [])

/-- A record that a GESTURE may evict (R178). -/
def Record.mayGo (r : Record) : Prop :=
  r.begun = false ∧ ((∃ m, r.payload = .pointer m) ∨ (∃ p, r.payload = .pen p ∧ p.shown = .hover) ∨
    ∃ c, r.payload = .contact c ∧ ∀ e ∈ c.entries, e.mark = .ongoing)

/-- A POINTER record that no read transfer has begun to send (R154). -/
def Record.maySoak (r : Record) : Prop := r.begun = false ∧ ∃ m, r.payload = .pointer m

/-- Two motions made one (R154): counts added within -2047 to 2047, the newer buttons, the click mark of either. -/
def joinedMotion (old new : Motion) : Motion :=
  ⟨max (-2047) (min 2047 (old.x + new.x)), max (-2047) (min 2047 (old.y + new.y)), new.buttons,
    old.click || new.click⟩

/-- The NOTICEs that RUN, taken in HOLD, makes: each surface that the current entry enables enters ACQUIRE, pad
first (R10, R185). -/
def State.runNotices (s : State) : List Notice :=
  let pad := if s.entry.enablesSurface .pad then SurfaceState.acquire else .off
  (if s.entry.enablesSurface .pad then [.surface .acquire .off true false] else [])
    ++ if s.entry.enablesSurface .panel then [.surface pad .acquire false true] else []

/-- A management record spells a command: the command is its row, and one that can befall the part (R175, R192). -/
def spells (m : Mgmt) (i : Instr) : Prop := m.toInstr = some i ∧ i.wellFormed = true

/-- The part holds the reset values, the reset pin held (R188). -/
def State.heldAtReset (s : State) : Prop := s.pinHeld = true → ∃ c, s = State.atReset c true s.pending

/-- A reset state with its cause, these commands waiting and the NOTICE of that cause (R188). -/
def State.ofCause (s : State) (c : ResetCause) (pending : List Instr) : State :=
  { s with pending := pending, link := { s.link with cause := c },
           queue := [{ time := 0, payload := .notice (.reset c), begun := false }] }

/-- The value of a cell of a grid. -/
def cellAt (g : List (List Nat)) (row col : Nat) : Nat := (g.getD row []).getD col 0

/-- The fields that make a row record of the row a receiver expects: one for each column (R4). -/
def rowBody (expected : Nat) (fields : List Half) : List Byte := byteOf expected :: fields.flatMap halfBytes

/-- A row record is the one a receiver expects (R4). -/
def expectedRow (u : Surface) (expected : Nat) (body : List Byte) : Prop :=
  expected < u.rows ∧ ∃ fields : List Half, fields.length = u.columns ∧ body = rowBody expected fields

/-- The record rejects the frame under assembly, or the frame it begins (R3, R4, R5). -/
def State.rejects (s : State) (u : Surface) : Instr → Prop
  | .frameStart p _ columns rows =>
    p = u ∧ (s.intake.get u).recv.cond ≠ .assembling ∧ ¬ (columns.toNat = u.columns ∧ rows.toNat = u.rows)
  | .rowRecord p body =>
    p = u ∧ (s.intake.get u).recv.cond = .assembling ∧ ¬ expectedRow u (s.intake.get u).recv.expected body
  | .frameEnd p frame check =>
    p = u ∧ (s.intake.get u).recv.cond = .assembling ∧
      ¬ ((s.intake.get u).recv.expected = u.rows ∧ (s.intake.get u).recv.frame = frame ∧
        (s.intake.get u).recv.check = check)
  | _ => False

/-- The commands of a whole good frame of a surface (R3 to R6). -/
def frameCommands (u : Surface) (frame : Half) (rows : List (List Half)) : List Instr :=
  [.frameStart u frame (byteOf u.columns) (byteOf u.rows)]
    ++ rows.zipIdx.map (fun (fields, i) => .rowRecord u (rowBody i fields))
    ++ [.frameEnd u frame (checkBytes checkStart (rows.flatten.flatMap halfBytes))]

/-- The rows and the columns of a frame of fields are the surface's (R3). -/
def fieldsShaped (u : Surface) (rows : List (List Half)) : Prop :=
  rows.length = u.rows ∧ ∀ row ∈ rows, row.length = u.columns

/-- Each row has the surface's columns, and there is one for each grid row (R3). -/
def gridShaped (u : Surface) (g : List (List Nat)) : Prop :=
  g.length = u.rows ∧ ∀ row ∈ g, row.length = u.columns

/-! ## The report queue and the replies (R176, R179) -/

/-- The report queue keeps its bounds, and only REPLYs and NOTICEs wait for room (R176, R179). -/
def State.queueWithin (s : State) : Prop :=
  s.queue.length ≤ 32 ∧ ordinaryCount s.queue ≤ 28 ∧ ∀ r ∈ s.link.waiting, r.ordinary = false

/-- Replies wait only while the queue is full, and there are at most three of them, counting the DONEs that
a commit and a stop still owe (R179). -/
def State.repliesWithin (s : State) : Prop :=
  (s.queue.length < 32 → s.link.waiting = []) ∧
    s.link.waiting.length + s.tables.commit.isSome.toNat + s.link.stopTag.isSome.toNat ≤ 3

/-! ## Capacities (R14, R17, R48, R78, R121, R144, R147) -/

/-- A surface has at most one ready frame and one closing request on the wait list (R14). -/
def State.waitListWithin (s : State) (u : Surface) : Prop :=
  s.engine.waitList.countP (·.isFrame u) ≤ 1 ∧ s.engine.waitList.countP (·.isClosing u) ≤ 1

/-- A track table has ten slots for each surface (R48). -/
abbrev TrackTable.shaped (t : TrackTable) : Prop := t.slots.pad.length = 10 ∧ t.slots.panel.length = 10

/-- Every list of fixed length or limited capacity keeps to it. -/
def State.listsWithin (s : State) : Prop :=
  (∀ u, s.waitListWithin u) ∧ s.gestures.digests.length ≤ 4 ∧ s.tracks.shaped ∧
    (∀ o, s.engine.op = some o → o.snap.tracks.shaped) ∧ s.palm.length ≤ 8 ∧
    s.gestures.contexts.length = 6 ∧ s.gestures.watch.length ≤ 4 ∧ s.motion.buttons.length = 3

/-- In a track table a track is latched exactly when its class is PALM (R75). -/
def TrackTable.latchSound (t : TrackTable) : Prop :=
  ∀ u, ∀ r ∈ t.slots.get u, ∀ x, r = some x → (x.latched = true ↔ x.cls = .palm)

/-- Latched means PALM in the track table and in the snapshot of the operation in flight (R75). -/
def State.latchSound (s : State) : Prop :=
  s.tracks.latchSound ∧ ∀ o, s.engine.op = some o → o.snap.tracks.latchSound

/-- The pen guard deadline is present only outside inking (R101, R102). -/
def State.guardSound (s : State) : Prop :=
  s.pen.guard ≠ none → s.pen.mode ≠ .ink ∧ s.pen.mode ≠ .coast .ink

/-- What the handling of an item leaves as it was: everything but the contexts, the motion unit, the tracks'
owners, the report queue and what its losses set (R126, R140). -/
def State.engineKeeps (s t : State) : Prop :=
  t.pending = s.pending ∧ t.linkOut = s.linkOut ∧ t.now = s.now ∧ t.pinHeld = s.pinHeld ∧
    t.intake = s.intake ∧ t.blobOverflow = s.blobOverflow ∧ t.engine = s.engine ∧ t.base = s.base ∧
    t.tracks.nextId = s.tracks.nextId ∧ t.tracks.overflow = s.tracks.overflow ∧
    (∀ u, (t.tracks.slots.get u).map (Option.map fun x => { x with owner := none }) =
      (s.tracks.slots.get u).map (Option.map fun x => { x with owner := none })) ∧
    t.palm = s.palm ∧ t.pen = s.pen ∧ t.posture = s.posture ∧ t.angle = s.angle ∧ t.tables = s.tables ∧
    t.gestures.watch = s.gestures.watch ∧ t.gestures.switchWaiting = s.gestures.switchWaiting ∧
    t.link.part = s.link.part ∧ t.link.waiting = s.link.waiting ∧ t.link.stopTag = s.link.stopTag ∧
    t.link.badWrites = s.link.badWrites ∧ t.link.droppedWrites = s.link.droppedWrites ∧
    t.link.cause = s.link.cause ∧ t.link.resetSeen = s.link.resetSeen

/-- A row is the first of the context's template, in table order, that answers an event (R129). -/
def State.firesFirst (s : State) (c : Context) (e : Event) (row : Row) : Prop :=
  ∃ above below, s.tables.active.templateRows c.template = above ++ row :: below ∧
    row.answers c e = true ∧ ∀ x ∈ above, x.answers c e = false

/-- No row of the context's template answers an event (R129). -/
def State.firesNone (s : State) (c : Context) (e : Event) : Prop :=
  ∀ row ∈ s.tables.active.templateRows c.template, row.answers c e = false

/-- A claim taken from a context's list (R123): its track loses an owner that is the context, and the pointer goes
with its source. -/
def State.claimGone (s : State) (k : Nat) (c : Context) (r : TrackRef) (left : List ClaimEntry) : State :=
  State.setContext
    { s with
      tracks := s.tracks.onTrack r fun y => some (if y.owner = some k then { y with owner := none } else y)
      motion := if s.motion.pointer = some ⟨⟨k, c.serial⟩, r⟩ then
          { s.motion with pointer := none, residueX := 0, residueY := 0 }
        else s.motion }
    k (some { c with claims := left })

/-- A slot after a CONTACT report that lists it was admitted (R60). -/
def announcedSlot (r : Option Track) : Option Track :=
  r.bind fun x => match x.state with
    | .tentative => some x
    | .active | .missing => some { x with startPending := false }
    | .ended _ => if x.endPending then none else some x

/-! ## Track IDs, owners and claims (R48 to R50, R58, R88, R121 to R123) -/

/-- A surface's slots without the tracks' owners. -/
def ownersOff (l : List (Option Track)) : List (Option Track) :=
  l.map (Option.map fun x => { x with owner := none })

/-- The IDs of the slots that are not FREE are distinct and lie within 1 to 255, as the next-ID counter
does (R48, R58). -/
def TrackTable.idsSound (t : TrackTable) : Prop :=
  t.heldIds.Nodup ∧ (∀ n ∈ t.heldIds, 1 ≤ n ∧ n ≤ 255) ∧ 1 ≤ t.nextId ∧ t.nextId ≤ 255

/-- While an operation is in flight, the slots of its surface differ from its snapshot's in owners alone, and a
slot of the other surface holds its snapshot's track or has become FREE (R50, R69). -/
def State.snapshotHolds (s : State) : Prop :=
  ∀ o, s.engine.op = some o →
    ownersOff (s.tracks.slots.get o.surface) = ownersOff (o.snap.tracks.slots.get o.surface) ∧
      ∀ v, v ≠ o.surface → ∀ (i : Nat) (x : Track), (s.tracks.slots.get v)[i]? = some (some x) →
        ∃ y : Track, (o.snap.tracks.slots.get v)[i]? = some (some y) ∧ y.id = x.id

/-- IDs are sound in the track table and in the snapshot of the operation in flight, which still holds (R50, R58). -/
def State.idsSound (s : State) : Prop :=
  s.tracks.idsSound ∧ (∀ o, s.engine.op = some o → o.snap.tracks.idsSound) ∧ s.snapshotHolds

/-- Owners and claims agree (R50, R88, R122): an owned track is neither TENTATIVE nor PALM and its owner runs and
claims it, a claimed track that is still in its slot is owned by the context that claims it, no track is
claimed by two contexts, and none is claimed twice by one. -/
def State.claimsAgree (s : State) : Prop :=
  (∀ n x k, s.tracks.at n = some x → x.owner = some k → x.state ≠ .tentative ∧ x.cls ≠ .palm ∧
      ∃ c, s.context k = some c ∧ c.claimsTrack ⟨n, x.id⟩ = true) ∧
    (∀ k c r x, s.context k = some c → c.claimsTrack r = true → s.tracks.at r.slot = some x → x.id = r.id →
      x.owner = some k) ∧
    (∀ j k c d r, s.context j = some c → s.context k = some d → c.claimsTrack r = true →
      d.claimsTrack r = true → j = k) ∧
    ∀ k c, s.context k = some c → (c.claims.map ClaimEntry.track).Nodup

/-- A slot that takes a new track names it as no context still claims one that was there before: the counter
comes round to an ID only after every other of the 255 (R58). -/
def State.namesFresh (s t : State) : Prop :=
  ∀ n x, t.tracks.at n = some x → (∀ y, s.tracks.at n = some y → y.id ≠ x.id) →
    ∀ k c, s.context k = some c → c.claimsTrack ⟨n, x.id⟩ = false

/-- A context claims no more tracks than its template's maximum, which is at most 5 (R121, R122). -/
def State.claimsWithin (s : State) : Prop :=
  ∀ k c, s.context k = some c →
    c.claims.length ≤ (s.tables.active.template c.template).maxTracks ∧ c.claims.length ≤ 5

/-! ## Palm memory (R78) -/

/-- Two boxes share a cell (R78). -/
def Box.meets (a b : Box) : Prop := a.c0 ≤ b.c1 ∧ b.c0 ≤ a.c1 ∧ a.r0 ≤ b.r1 ∧ b.r0 ≤ a.r1

/-- No two entries of a surface overlap, and an entry has a deadline exactly while no track is bound to it (R78). -/
def State.palmApart (s : State) : Prop :=
  s.palm.Pairwise (fun a b => a.surface = b.surface → ¬ a.box.meets b.box) ∧
    ∀ e ∈ s.palm, e.bound = [] ↔ e.deadline ≠ none

/-- The tracks bound to an entry, ten at most, are open PALM tracks of its surface, each bound once (R78, R80). -/
def State.boundWithin (s : State) : Prop :=
  (∀ e ∈ s.palm, e.bound.length ≤ 10 ∧ ∀ r ∈ e.bound, slotSurface r.slot = e.surface ∧
      ∃ x, s.tracks.at r.slot = some x ∧ x.id = r.id ∧ x.open_ = true ∧ x.cls = .palm) ∧
    (s.palm.flatMap PalmEntry.bound).Nodup

/-! ## The pointer and the buttons (R147 to R155) -/

/-- A context is running: its slot holds it, with its serial (R147). -/
def State.runs (s : State) (c : ContextRef) : Prop :=
  ∃ x, s.context c.slot = some x ∧ x.serial = c.serial

/-- A count of a POINTER record lies within -2047 to 2047 (R154). -/
def Motion.within (m : Motion) : Prop := m.x.natAbs ≤ 2047 ∧ m.y.natAbs ≤ 2047

/-- The residues and the counts keep their ranges (R147, R151, R154). -/
def State.motionWithin (s : State) : Prop :=
  s.motion.residueX.natAbs ≤ 1023 ∧ s.motion.residueY.natAbs ≤ 1023 ∧
    (∀ m, s.motion.unsent = some m → m.within) ∧
    ∀ r ∈ s.queue, ∀ m, r.payload = .pointer m → m.within

/-- The pointer's holder runs and claims its source, and every presser of a button runs (R147 to R153). -/
def State.motionHeld (s : State) : Prop :=
  (∀ p, s.motion.pointer = some p → ∃ x, s.context p.holder.slot = some x ∧ x.serial = p.holder.serial ∧
      x.claimsTrack p.source = true) ∧
    ∀ b ∈ s.motion.buttons, ∀ c, b = some c → s.runs c

/-! ## Winding down (R13 to R19, R185 to R187) -/

/-- No track of a surface is TENTATIVE, ACTIVE or MISSING (R18). -/
def TrackTable.closed (t : TrackTable) (u : Surface) : Prop :=
  ∀ r ∈ t.slots.get u, ∀ x, r = some x → x.open_ = false

/-- A closing request of a surface with this outcome waits. -/
def State.waitsFor (s : State) (u : Surface) (o : ClosingOutcome) : Prop :=
  ∃ w ∈ s.engine.waitList, w.surface = u ∧ w.work = .closing o

/-- What the current posture's entry does when it is applied to `s` (R114 to R116, R118; log 12). -/
def State.entryApplied (s t : State) : Prop :=
  (∀ u, (s.entry.enablesSurface u = false →
        ((s.intake.get u).state ≠ .off ∨ s.closings u .acquire = true →
          t.waitsFor u .off ∧ t.shut u = true ∧ (t.intake.get u).ready = none ∧
            (t.intake.get u).timeout = none ∧ (t.intake.get u).state = (s.intake.get u).state) ∧
        ((s.intake.get u).state = .off → s.closings u .acquire = false → t.intake.get u = s.intake.get u)) ∧
      (s.entry.enablesSurface u = true →
        (s.link.part = .run → s.offClosings u = true → t.offClosings u = false) ∧
        (s.link.part = .run → s.offClosings u = false → (s.intake.get u).state = .off →
          t.intake.get u = { s.intake.get u with
            state := .acquire, errorRun := 0,
            timeout := if frameTimeoutMs s.tune = 0 then none
              else some (s.now + BitVec.ofNat 32 (frameTimeoutMs s.tune * 100)) }) ∧
        (s.link.part ≠ .run ∨ s.offClosings u = true ∨ (s.intake.get u).state ≠ .off →
          t.intake.get u = s.intake.get u))) ∧
    (s.entry.penEnable = false → t.pen = { s.pen with mode := .out, coast := 0, guard := none }) ∧
    (s.entry.penEnable = true → t.pen = s.pen) ∧ t.posture = s.posture ∧ t.angle = s.angle

/-- A closing request of a surface with this outcome is in flight. -/
def State.inFlight (s : State) (u : Surface) (o : ClosingOutcome) : Prop :=
  ∃ x key, s.engine.op = some x ∧ x.surface = u ∧ x.work = .closing key o

/-- A frame of a surface is in flight. -/
def State.frameInFlight (s : State) (u : Surface) : Prop :=
  ∃ x f, s.engine.op = some x ∧ x.surface = u ∧ x.work = .frame f

/-- What holds in HOLD: both surfaces are OFF, no context runs, the frame engine is idle with nothing
waiting (R141, R185). -/
def State.heldStill (s : State) : Prop :=
  (∀ u, (s.intake.get u).state = .off) ∧ (∀ c ∈ s.gestures.contexts, c = none) ∧
    s.engine.op = none ∧ s.engine.waitList = []

/-- What STOPPING keeps for a surface: no request waits to bring it to ACQUIRE, and it is OFF or on its way
there (R13, R186). -/
def State.stoppingSurface (s : State) (u : Surface) : Prop :=
  ¬ s.waitsFor u .acquire ∧
    (s.waitsFor u .off ∨ s.inFlight u .off ∨
      ((s.intake.get u).state = .off ∧ ¬ s.inFlight u .acquire))

/-- What a surface keeps in every part state: no ready frame while it is shut, a ready frame only in ACQUIRE
or LIVE, no open track and no frame in flight while it is OFF, and while an operation on it is in flight the
same slots open as in the operation's snapshot (R9, R13, R15, R18). -/
def State.surfaceSound (s : State) (u : Surface) : Prop :=
  (s.shut u = true → s.engine.waitList.any (·.isFrame u) = false) ∧
    (s.engine.waitList.any (·.isFrame u) = true → s.processed u = true) ∧
    ((s.intake.get u).state = .off → s.tracks.closed u ∧ ¬ s.frameInFlight u) ∧
    ∀ o, s.engine.op = some o → o.surface = u →
      (s.tracks.slots.get u).map (·.any Track.open_) = (o.snap.tracks.slots.get u).map (·.any Track.open_)

/-- The part winds down as R186 and R187 state, and HOLD is what R185 says of it. -/
def State.windingSound (s : State) : Prop :=
  (s.link.part = .hold → s.heldStill) ∧ (s.link.part ≠ .run → s.pen.mode = .out) ∧
    (s.link.part = .stopping → ∀ u, s.stoppingSurface u) ∧ ∀ u, s.surfaceSound u

/-! ## The tables (R164, R165, R169) -/

/-- A TUNE copy's values lie within their parameters' ranges (R165). -/
def tuneWithin (t : List Nat) : Prop :=
  t.length = tuneRanges.length ∧ ∀ p ∈ t.zip tuneRanges, p.2.lo ≤ p.1 ∧ p.1 ≤ p.2.hi

/-- A copy passes validation in every kind, its TUNE values within range (R164, R165). -/
def Tables.valid (t : Tables) : Prop := tuneWithin t.tune ∧ ∀ k, validateKind t k = none

/-- A kind has still to switch in the pending commit (R167, R168). -/
def CommitRecord.toSwitch (c : CommitRecord) (k : Kind) : Prop :=
  c.frameSide.has k = true ∨ (k = .program ∧ c.program = true)

/-- A range of entries fits a part (R162, step 3). -/
def Tables.rangeFits (t : Tables) (p : Part) (offset n : Nat) : Prop :=
  match p.capacity with
  | none => offset + n ≤ t.partLength p
  | some cap => offset ≤ t.partLength p ∧ offset + n ≤ cap

/-- A kind that is not dirty, or that a pending commit has switched, has equal copies (R163, R167, R169). -/
def State.cleanSound (s : State) : Prop :=
  ∀ k, (s.tables.dirty.has k = false ∨ ∃ c, s.tables.commit = some c ∧ ¬ c.toSwitch k) →
    s.tables.staging.takeKind s.tables.active k = s.tables.staging

/-- The active tables are valid, so are the staged kinds that a pending commit has still to switch, its frame-side
set never holds PROGRAM, and the program switch waits only for a commit that has still to switch PROGRAM (R143,
R160, R167, R169). -/
def State.tablesSound (s : State) : Prop :=
  s.tables.active.valid ∧ s.tables.staging.tune.length = tuneRanges.length ∧
    (s.gestures.switchWaiting = true → ∃ c, s.tables.commit = some c ∧ c.program = true) ∧
    ∀ c, s.tables.commit = some c →
      (∀ k, c.toSwitch k → validateKind s.tables.staging k = none) ∧
        (c.frameSide.tune = true → tuneWithin s.tables.staging.tune) ∧ c.frameSide.program = false

end Sys2Proof.Machine
end

