-- ==== Sys2Proof/Certificates/Slice0/Obligations.lean ====
section
/-! DEFINITION. The statements for the provers: what the commands do and what every step keeps, chapter by
chapter. Rules are cited in OBLIGATIONS.json; a statement that rests on a log entry names it. -/

open Sys2Proof Sys2Proof.Machine

/-! ## Steps and resets (00, 11.6) -/

/-- The command at the front of the queue runs on the rest, and an empty queue is one tick of part time,
which stands still while the reset pin is held (logs 1 and 3: the queue and the tick are the model's). -/
def Obligations.StepRunsTheFrontCommand : Prop :=
  (∀ (s : State) (i : Instr) (rest : List Instr), s.pending = i :: rest →
      step s = exec i { s with pending := rest }) ∧
    (∀ s : State, s.pending = [] → s.pinHeld = false → step s = .next { s with now := s.now + 1 }) ∧
    ∀ s : State, s.pending = [] → s.pinHeld = true → step s = .next s

/-- Every command ends in a next state, whatever the state, and leaves the waiting commands as they are
(logs 1, 2 and 5). -/
def Obligations.EveryCommandCompletes : Prop :=
  ∀ (i : Instr) (s : State), ∃ t : State, exec i s = .next t ∧ t.pending = s.pending

/-- What reset leaves: every value that the chapters' reset tables give; and what every step keeps, by the
statements below, holds of it. -/
def Obligations.ResetLeavesTheSpecsValues : Prop :=
  let s := State.reset
  s.now = 0 ∧
    (∀ u, (s.intake.get u).recv.cond = .waiting ∧ (s.intake.get u).recv.samples = [] ∧
      (s.intake.get u).recv.check = 0xFFFF ∧ (s.intake.get u).ready = none ∧
      (s.intake.get u).state = .off ∧ (s.intake.get u).timeout = none ∧ (s.intake.get u).errorRun = 0 ∧
      (s.intake.get u).discarded = 0 ∧ (s.intake.get u).overruns = 0 ∧ (s.intake.get u).taken = 0 ∧
      s.blobOverflow.get u = 0 ∧
      (s.base.get u).values = List.replicate u.rows (List.replicate u.columns 0) ∧
      (s.base.get u).acquired = 0 ∧ (s.base.get u).drift = 0 ∧
      s.tracks.slots.get u = List.replicate 10 none ∧ s.tracks.overflow.get u = 0) ∧
    s.engine = ⟨[], none⟩ ∧ s.tracks.nextId = 1 ∧ s.palm = [] ∧ s.pen.mode = .out ∧
    s.pen.held = ⟨⟨0, 0⟩, 0, 0, 0, false, false, false, 0⟩ ∧ s.pen.coast = 0 ∧ s.pen.guard = none ∧
    s.pen.vote = 0 ∧ s.pen.lost = 0 ∧ s.posture = .laptop ∧ s.angle = 0 ∧
    s.gestures = ⟨List.replicate 6 none, 1, [], false, none, false, []⟩ ∧
    s.motion = ⟨none, 0, 0, [none, none, none], none⟩ ∧
    s.tables = ⟨resetTables, resetTables, KindSet.empty, none⟩ ∧
    s.queue = [⟨0, .notice (.reset .power), false⟩] ∧
    s.link.part = .hold ∧ s.link.cause = .power ∧ s.link.resetSeen = true ∧ s.link.loss = false ∧
    s.link.badWrites = 0 ∧ s.link.droppedWrites = 0 ∧ s.link.waiting = [] ∧ s.link.owed = Owed.empty ∧
    s.queueWithin ∧ s.repliesWithin ∧ s.listsWithin ∧ s.claimsWithin ∧ s.boundWithin ∧ s.palmApart ∧
    s.windingSound ∧ s.motionWithin ∧ s.motionHeld ∧ s.tablesSound ∧ s.cleanSound ∧ s.latchSound ∧
    s.guardSound ∧ s.idsSound ∧ s.claimsAgree ∧ s.heldAtReset

/-- POWER_ON, RESET and the pin's release lead to the reset values and the reset NOTICE, the cause recorded;
the pin's assertion leads to the reset values with an empty queue (log 5 for the pin's own sequence). -/
def Obligations.EveryResetIsThatReset : Prop :=
  (∀ s : State, s.pinHeld = false → exec .powerOn s = .next (State.reset.ofCause .power s.pending)) ∧
    (∀ (s : State) (tag : Byte), s.takes →
      exec (.reset tag) s = .next (State.reset.ofCause .command s.pending)) ∧
    (∀ s : State, s.pinHeld = false → exec .resetPinAssert s =
      .next { State.reset.ofCause .pin s.pending with pinHeld := true, queue := [] }) ∧
    (∀ s : State, s.pinHeld = true →
      exec .resetPinRelease s = .next (State.reset.ofCause s.link.cause s.pending)) ∧
    (∀ s : State, s.pinHeld = true → exec .powerOn s =
      .next { State.reset.ofCause .power s.pending with pinHeld := true, queue := [] }) ∧
    (∀ s : State, s.pinHeld = true → exec .resetPinAssert s = .next s) ∧
    ∀ s : State, s.pinHeld = false → exec .resetPinRelease s = .next s

/-- While the reset pin is held, every step keeps the part at its reset values, and no command but POWER_ON and
the pin's release changes anything; the attention line is released (log 5). -/
def Obligations.HeldPinHoldsThePart : Prop :=
  (∀ s t : State, s.heldAtReset → step s = .next t → t.heldAtReset) ∧
  (∀ (c : ResetCause) (q : List Instr) (i : Instr), i ≠ .powerOn → i ≠ .resetPinRelease →
      exec i (State.atReset c true q) = .next (State.atReset c true q) ∧
        (State.atReset c true q).attention = false)

/-! ## Records and transfers (11.1, 12) -/

/-- A management record reads back from its bytes as itself; so does a scan command from its record, whose body
fits the length byte, and every scan record is the one its command stands for. On a port a record is its kind
byte, the length byte that counts what follows, and its body: whatever follows it, it reads as its command when
its last byte is there and as none before, and what reads as a command is the record of a well-formed one. The
records a port receives in a row read as their commands in that order, with what has arrived of the next record
left over. A transfer is the command that its kind byte names: a write, or a read that runs to its end or ends
early, by the bytes it is clocked for. -/
def Obligations.RecordsRoundTrip : Prop :=
  (∀ (m : Mgmt) (i : Instr), spells m i → decodeMgmt (encodeMgmt m) = some m) ∧
    (∀ (i : Instr) (u : Surface) (kind : Byte) (body : List Byte), i.wellFormed = true →
      encodeScan i = some (u, kind, body) → decodeScan u kind body = i ∧ body.length ≤ 255) ∧
  (∀ (u : Surface) (kind : Byte) (body : List Byte),
      encodeScan (decodeScan u kind body) = some (u, kind, body)) ∧
  ((∀ (i : Instr) (u : Surface) (bytes : List Byte), i.wellFormed = true →
      encodeScanRecord i = some (u, bytes) →
      (∃ kind length body, bytes = kind :: length :: body ∧ length.toNat = body.length) ∧
        (∀ after, readScan u (bytes ++ after) = some (i, after)) ∧
        ∀ n, n < bytes.length → readScan u (bytes.take n) = none) ∧
    (∀ (u : Surface) (received after : List Byte) (i : Instr), readScan u received = some (i, after) →
      i.wellFormed = true ∧
        ∃ bytes, encodeScanRecord i = some (u, bytes) ∧ received = bytes ++ after) ∧
    ∀ (u : Surface) (records : List (Instr × List Byte)) (after : List Byte),
      (∀ r ∈ records, r.1.wellFormed = true ∧ encodeScanRecord r.1 = some (u, r.2)) →
      readScan u after = none →
      scanArrivals u (records.flatMap Prod.snd ++ after) = (records.map Prod.fst, after)) ∧
  ∀ (s : State) (rest : List Byte),
    s.transfer (0x0B :: rest) = some (.writeTransfer rest) ∧
    (∀ n, (s.queue = [] ∧ n = 2 ∨ ∃ r q, s.queue = r :: q ∧ n = 2 + (r.bytes s.summary).length) →
      (rest.length < n → s.transfer (0x0A :: rest) = some (.readEndedEarly rest.length)) ∧
      (n ≤ rest.length → s.transfer (0x0A :: rest) = some (.readTransfer (rest.length - n)))) ∧
    ∀ kind : Byte, kind ≠ 0x0A → kind ≠ 0x0B → s.transfer (kind :: rest) = some (.badTransferKind kind) ∧
      (Instr.badTransferKind kind).wellFormed = true

/-- A write that carries a management record, whatever follows its check, does what the record's own
command does; so does one with an unknown command code or an unknown QUERY selector, whatever its payload. -/
def Obligations.WritesRunTheirRecord : Prop :=
  (∀ (m : Mgmt) (i : Instr) (extra : List Byte) (s : State), spells m i →
      exec (.writeTransfer (frameWrite (encodeMgmt m) ++ extra)) s = exec i s) ∧
    (∀ (tag code : Byte) (payload extra : List Byte) (s : State), payload.length + 2 ≤ 520 →
      (code.toNat = 0 ∨ 14 < code.toNat) →
      exec (.writeTransfer (frameWrite (tag :: code :: payload) ++ extra)) s =
        exec (.unknownCommand tag code) s) ∧
    ∀ (tag selector : Byte) (args extra : List Byte) (s : State), args.length + 3 ≤ 520 →
      6 < selector.toNat →
      exec (.writeTransfer (frameWrite (tag :: 0x0A :: selector :: args) ++ extra)) s =
        exec (.queryBadSelector tag selector) s

/-- A write that is not good, and a transfer of an unknown kind, is counted as bad; a good write that finds 32
records in the queue is counted as dropped, whatever it carries. Neither does anything else, but for the zeros
sent in a write and the NOTICE when FAULT rises by it. A management row is such a good write (log 4); what the
part sends in a transfer of an unknown kind no rule says, and the model leaves its view of it alone (log 7). -/
def Obligations.DroppedWritesAreCounted : Prop :=
  ((∀ (s : State) (bytes : List Byte), s.pinHeld = false →
        (∀ record extra, 2 ≤ record.length → record.length ≤ 520 → bytes ≠ frameWrite record ++ extra) →
        exec (.writeTransfer bytes) s = .next (State.noticeRises s
          { s with linkOut := .zeros
                   link := { s.link with badWrites := min (s.link.badWrites + 1) 65535 } })) ∧
      ∀ (s : State) (kind : Byte), s.pinHeld = false → exec (.badTransferKind kind) s =
        .next (State.noticeRises s
          { s with link := { s.link with badWrites := min (s.link.badWrites + 1) 65535 } })) ∧
  ∀ s : State, s.pinHeld = false → 32 ≤ s.queue.length →
    let dropped := State.noticeRises s
      { s with linkOut := .zeros
               link := { s.link with droppedWrites := min (s.link.droppedWrites + 1) 65535 } }
    (∀ record extra : List Byte, 2 ≤ record.length → record.length ≤ 520 →
        exec (.writeTransfer (frameWrite record ++ extra)) s = .next dropped) ∧
      ∀ (m : Mgmt) (i : Instr), spells m i → exec i s = .next dropped

/-- Commands that name nothing, an unknown POSTURE form, QUERY selector or command code, are refused, and so is a
payload whose length does not suit its command; nothing else comes of them. A LOAD too short for its kind, part
and offset is answered BUSY instead while a commit is pending (log 27). -/
def Obligations.UnsuitableCommandsAreRefused : Prop :=
  (∀ (s : State) (tag code : Byte) (v : Half), s.takes →
      exec (.postureBadForm tag code v) s = .next (s.replied tag 0x08 (.refused .range) []) ∧
      exec (.queryBadSelector tag code) s = .next (s.replied tag 0x0A (.refused .range) []) ∧
      exec (.unknownCommand tag code) s = .next (s.replied tag code (.refused .unknown) [])) ∧
  (∀ (s : State) (tag code : Byte) (payload extra : List Byte), s.takes → payload.length + 2 ≤ 520 →
      2 ≤ code.toNat → code.toNat ≤ 14 →
      (code.toNat ∈ [2, 3, 4, 5, 6, 7, 13, 14] → payload ≠ []) →
      (code.toNat = 8 → payload.length ≠ 3) →
      (code.toNat = 9 → payload.length ≠ 1) →
      (code.toNat ∈ [11, 12] → payload.length ≠ 2) →
      (code.toNat = 10 → payload = [] ∨ ∃ sel args, payload = sel :: args ∧ sel.toNat ≤ 6 ∧
        [0, 1, 0, 0, 0, 2, 6].getD sel.toNat 0 ≠ args.length) →
      exec (.writeTransfer (frameWrite (tag :: code :: payload) ++ extra)) s =
        .next (s.replied tag code (.refused .range) [])) ∧
  ∀ (s : State) (tag : Byte) (payload extra : List Byte), s.takes → payload.length < 4 →
    exec (.writeTransfer (frameWrite (tag :: 0x01 :: payload) ++ extra)) s =
      .next (s.replied tag 0x01 (if s.tables.commit = none then .refused .range else .busy) [])

/-- A read sends the head record's length, its bytes with the summary of now, and zeros; the record leaves the
queue and the room is handed on. An empty queue sends a length of 0. A read ended early leaves the record at
the head, marked begun once the part has begun to send it, which is at the third byte (log 7). -/
def Obligations.ReadsSendTheHeadRecord : Prop :=
  ((∀ (s : State) (r : Record) (rest : List Record) (extra : Nat), s.pinHeld = false → s.queue = r :: rest →
        exec (.readTransfer extra) s = .next (State.departure
          { s with linkOut := .bytes (natBytes2 (r.bytes s.summary).length ++ r.bytes s.summary
                     ++ List.replicate extra 0),
                   queue := rest })) ∧
      ∀ (s : State) (extra : Nat), s.pinHeld = false → s.queue = [] →
        exec (.readTransfer extra) s = .next { s with linkOut := .bytes ([0, 0] ++ List.replicate extra 0) }) ∧
  ((∀ (s : State) (r : Record) (rest : List Record) (sent : Nat), s.pinHeld = false → s.queue = r :: rest →
        exec (.readEndedEarly sent) s = .next
          { s with linkOut := .bytes ((natBytes2 (r.bytes s.summary).length ++ r.bytes s.summary).take sent),
                   queue := { r with begun := r.begun || decide (3 ≤ sent) } :: rest }) ∧
      ∀ (s : State) (sent : Nat), s.pinHeld = false → s.queue = [] →
        exec (.readEndedEarly sent) s = .next { s with linkOut := .bytes (([0, 0] : List Byte).take sent) })

/-- A departure hands its room on in order: first the waiting replies, oldest first, then the owed causes, each a
NOTICE made now with the values as they stand, both while there is room, then the catch-up reports, pad first,
then the unsent motion. What of the first two is left over stands behind a queue of 32 records, and without
unsent motion nothing older is touched. -/
def Obligations.DeparturesServeRepliesFirst : Prop :=
  ∀ s : State, s.queue.length ≤ 32 →
    let room := 32 - s.queue.length
    let replies := s.link.waiting.take room
    let notices := s.owedNotices.take (room - replies.length)
    let t := s.admitWaiting.issueOwed
    t = { s with queue := t.queue, link := t.link } ∧
      t.queue = s.queue ++ replies ++ notices.map (fun n => (Payload.notice n).fresh s.now) ∧
      t.link = { s.link with waiting := s.link.waiting.drop room, owed := t.link.owed } ∧
      t.owedNotices = s.owedNotices.drop (room - replies.length) ∧
      s.departure = ((t.catchUp .pad).catchUp .panel).offerUnsent ∧
      s.departure.link = t.link ∧
      (s.departure.link.waiting = [] ∨ 32 ≤ s.departure.queue.length) ∧
      (s.departure.link.owed = Owed.empty ∨ 32 ≤ s.departure.queue.length) ∧
      (s.motion.unsent = none → t.queue <+: s.departure.queue)

/-- The condition summary's bits, and FAULT as the disjunction of its causes; a rise of FAULT, and then a rise
of report loss, makes its NOTICE or owes it at a full queue, and without a rise nothing is made (log 6: where
among an event's records they stand; log 23: the time they carry). Where both rise, each takes a place while
there is one: at 31 records FAULT's is admitted and report loss's owed, at 32 both are owed. -/
def Obligations.FaultShowsAndRises : Prop :=
  (∀ s : State,
      (s.summary.getLsbD 7 = s.link.resetSeen ∧ s.summary.getLsbD 6 = s.fault ∧
        s.summary.getLsbD 5 = s.tables.commit.isSome ∧ s.summary.getLsbD 4 = false ∧
        s.summary.getLsbD 3 = false ∧ s.summary.toNat % 8 = s.posture.code) ∧
      (s.fault = true ↔ (∃ u, (s.intake.get u).state = .failed) ∨ s.link.loss = true ∨
        (∃ u, 0 < (s.intake.get u).discarded) ∨ 0 < s.link.badWrites ∨ 0 < s.link.droppedWrites)) ∧
  (∀ before s : State,
      (before.fault = false → s.fault = true → (before.link.loss = true ∨ s.link.loss = false) →
        (s.queue.length < 32 → State.noticeRises before s = s.noticed .faultRising) ∧
        (32 ≤ s.queue.length → State.noticeRises before s =
          { s with link := { s.link with owed := { s.link.owed with fault := true } } })) ∧
      (before.fault = true → before.link.loss = false → s.link.loss = true →
        (s.queue.length < 32 → State.noticeRises before s = s.noticed .lossRising) ∧
        (32 ≤ s.queue.length → State.noticeRises before s =
          { s with link := { s.link with owed := { s.link.owed with loss := true } } })) ∧
      (before.fault = false → s.link.loss = true → before.link.loss = false → s.queue.length < 31 →
        State.noticeRises before s = (s.noticed .faultRising).noticed .lossRising) ∧
      (before.fault = false → s.link.loss = true → before.link.loss = false → s.queue.length = 31 →
        State.noticeRises before s = { s.noticed .faultRising with
          link := { s.link with owed := { s.link.owed with loss := true } } }) ∧
      (before.fault = false → s.link.loss = true → before.link.loss = false → 32 ≤ s.queue.length →
        State.noticeRises before s =
          { s with link := { s.link with owed := { s.link.owed with fault := true, loss := true } } }) ∧
      ((before.fault = true ∨ s.fault = false) → (before.link.loss = true ∨ s.link.loss = false) →
        State.noticeRises before s = s))

/-! ## Scan intake (01) -/

/-- A frame start with the surface's grid begins a frame; the row that a receiver expects is taken, its bytes fed
to the check as received, its fields stored clamped to 4095. A rejected frame is thrown away and the receiver
discards until a frame start; unless the surface is shut the discard is counted, and the eighth in a row fails a
surface in ACQUIRE or LIVE. A frame start that finds a frame under assembly first discards and counts that
frame, and a second one with it when its own grid is wrong. The NOTICE of FAULT rising stands after that of the
surface's state (log 6). -/
def Obligations.FramesAssembleOrAreDiscarded : Prop :=
  (∀ (s : State) (u : Surface) (frame : Half) (columns rows : Byte), s.pinHeld = false →
      let fails (n : Nat) := ((s.intake.get u).state = .acquire ∨ (s.intake.get u).state = .live) ∧
        (s.intake.get u).errorRun < 8 ∧ 8 ≤ (s.intake.get u).errorRun + n
      let counted (n : Nat) (r : Receiver) := s.onIntake u fun i =>
        { i with
          recv := r
          discarded := min (i.discarded + n) 65535
          errorRun := min (i.errorRun + n) 65535 }
      let started : Receiver := ⟨.assembling, frame, 0, [], 0xFFFF⟩
      (columns.toNat = u.columns → rows.toNat = u.rows →
        ((s.intake.get u).recv.cond ≠ .assembling ∨ s.shut u = true →
          exec (.frameStart u frame columns rows) s = .next (s.onIntake u fun i => { i with recv := started })) ∧
        ((s.intake.get u).recv.cond = .assembling → s.shut u = false →
          (fails 1 → exec (.frameStart u frame columns rows) s =
            .next (State.noticeRises s ((counted 1 started).failSurface u))) ∧
          (¬ fails 1 → exec (.frameStart u frame columns rows) s =
            .next (State.noticeRises s (counted 1 started))))) ∧
      (¬ (columns.toNat = u.columns ∧ rows.toNat = u.rows) → (s.intake.get u).recv.cond = .assembling →
        (s.shut u = true → exec (.frameStart u frame columns rows) s =
          .next (s.onIntake u fun i => { i with recv := Receiver.idle .discarding })) ∧
        (s.shut u = false → fails 2 → exec (.frameStart u frame columns rows) s =
          .next (State.noticeRises s ((counted 2 (Receiver.idle .discarding)).failSurface u))) ∧
        (s.shut u = false → ¬ fails 2 → exec (.frameStart u frame columns rows) s =
          .next (State.noticeRises s (counted 2 (Receiver.idle .discarding)))))) ∧
  (∀ (s : State) (u : Surface) (fields : List Half), s.pinHeld = false →
      (s.intake.get u).recv.cond = .assembling → (s.intake.get u).recv.expected < u.rows →
      fields.length = u.columns →
      exec (.rowRecord u (rowBody (s.intake.get u).recv.expected fields)) s = .next (s.onIntake u fun i =>
        { i with recv := { i.recv with
            expected := i.recv.expected + 1
            samples := i.recv.samples ++ [fields.map fun f => min f.toNat 4095]
            check := checkBytes i.recv.check (fields.flatMap halfBytes) } })) ∧
  ∀ (s : State) (u : Surface) (c : Instr), s.pinHeld = false → s.rejects u c →
    let counted := s.onIntake u fun i =>
      { i with
        recv := Receiver.idle .discarding
        discarded := min (i.discarded + 1) 65535
        errorRun := min (i.errorRun + 1) 65535 }
    (s.shut u = true → exec c s = .next (s.onIntake u fun i => { i with recv := Receiver.idle .discarding })) ∧
    (s.shut u = false →
      ((s.intake.get u).state = .acquire ∨ (s.intake.get u).state = .live) ∧ (s.intake.get u).errorRun = 7 →
      exec c s = .next (State.noticeRises s (counted.failSurface u))) ∧
    (s.shut u = false →
      ¬ (((s.intake.get u).state = .acquire ∨ (s.intake.get u).state = .live) ∧
        (s.intake.get u).errorRun = 7) →
      exec c s = .next (State.noticeRises s counted))

/-- Records that are ignored change nothing: unknown ones always, rows and ends with no frame under assembly, pen
samples when the part is not in RUN, the posture disables the pen or the panel is OFF. -/
def Obligations.IgnoredRecordsChangeNothing : Prop :=
  ((∀ (s : State) (u : Surface) (kind : Byte) (body : List Byte),
        exec (.unknownScanRecord u kind body) s = .next s) ∧
      ∀ (s : State) (u : Surface), (s.intake.get u).recv.cond ≠ .assembling →
        (∀ body, exec (.rowRecord u body) s = .next s) ∧
          ∀ frame check, exec (.frameEnd u frame check) s = .next s) ∧
  (∀ (s : State) (flags : Byte) (x y p : Half) (tx ty q : Byte),
      s.link.part ≠ .run ∨ s.entry.penEnable = false ∨ s.intake.panel.state = .off →
      exec (.penSample flags x y p tx ty q) s = .next s)

/-- A valid frame of a surface that is shut is dropped; of one in ACQUIRE or LIVE it becomes ready, the one
it replaces an overrun; of one that is FAILED it also moves the surface to ACQUIRE. -/
def Obligations.ValidFramesBecomeReady : Prop :=
  ∀ (s : State) (u : Surface) (frame check : Half), s.pinHeld = false →
    (s.intake.get u).recv.cond = .assembling → (s.intake.get u).recv.expected = u.rows →
    (s.intake.get u).recv.frame = frame → (s.intake.get u).recv.check = check →
    let ready (st : SurfaceState) : State :=
      { s.onIntake u fun i =>
          { i with
            recv := Receiver.idle .waiting
            ready := some ⟨frame, s.now, i.recv.samples⟩
            state := st
            timeout := if frameTimeoutMs s.tune = 0 then none
              else some (s.now + BitVec.ofNat 32 (frameTimeoutMs s.tune * 100))
            errorRun := 0
            overruns := if i.ready.isSome then min (i.overruns + 1) 65535 else i.overruns } with
        engine := { s.engine with waitList :=
          s.engine.waitList.filter (fun w => !w.isFrame u) ++ [⟨s.now, u, .frame⟩] } }
    (s.shut u = true →
      exec (.frameEnd u frame check) s =
        .next (s.onIntake u fun i => { i with recv := Receiver.idle .waiting })) ∧
    (s.shut u = false → (s.intake.get u).state = .acquire ∨ (s.intake.get u).state = .live →
      exec (.frameEnd u frame check) s = .next (ready (s.intake.get u).state)) ∧
    (s.shut u = false → (s.intake.get u).state = .failed →
      exec (.frameEnd u frame check) s = .next ((ready .acquire).surfaceNotice u))

/-- A whole good frame sent to a surface that is processed ends in its ready buffer, every field clamped to
4095, with its place on the wait list, in one step for each of its records. Its ready time and its key are the
time of the first step: the records are commands of the queue (log 1), which take no part time (log 3). -/
def Obligations.WholeFramesAssemble : Prop :=
  ∀ (s : State) (u : Surface) (frame : Half) (rows : List (List Half)) (rest : List Instr),
    s.pinHeld = false → fieldsShaped u rows → (s.intake.get u).recv.cond ≠ .assembling →
    s.shut u = false → (s.intake.get u).state = .acquire ∨ (s.intake.get u).state = .live →
    s.pending = frameCommands u frame rows ++ rest →
    ∃ t : State, Sys2Proof.core.run (u.rows + 2) s = .next t ∧ t.pending = rest ∧
      (t.intake.get u).ready = some ⟨frame, s.now, rows.map (·.map fun f => min f.toNat 4095)⟩ ∧
      (t.intake.get u).recv = Receiver.idle .waiting ∧
      (t.intake.get u).discarded = (s.intake.get u).discarded ∧ (t.intake.get u).errorRun = 0 ∧
      t.engine.waitList =
        s.engine.waitList.filter (fun w => !w.isFrame u) ++ [⟨s.now, u, .frame⟩]

/-! ## The frame engine (01, 1.5 and 1.6) -/

/-- The item taken is the first of its surface that may be taken; of the two surfaces' first items it is the
one with the earlier key, the pad's at equal keys; frames are taken in RUN alone. Keys are compared across the
wrap of part time (log 10). -/
def Obligations.EarliestItemIsTaken : Prop :=
  ∀ (part : PartState) (wait : List WaitItem),
    (∀ w, mayTake part w = true ↔ part = .run ∨ ∃ o, w.work = .closing o) ∧
    (∀ w, nextItem part wait = some w →
      mayTake part w = true ∧
      (∃ a b, wait = a ++ w :: b ∧ ∀ x ∈ a, x.surface = w.surface → mayTake part x = false) ∧
      ∀ v, wait.find? (fun x => x.surface != w.surface && mayTake part x) = some v →
        ¬ (v.key ≠ w.key ∧ (w.key - v.key).toNat < 2 ^ 31) ∧ (v.key = w.key → w.surface = .pad)) ∧
    (nextItem part wait = none ↔ ∀ x ∈ wait, mayTake part x = false)

/-- An idle engine takes the next item: the operation in flight holds the item and a snapshot of the values as
they stand, the item leaves the wait list, and a frame leaves the ready buffer and is counted (log 8: the
baseline store and the track table stand in the snapshot too). An engine with an operation in flight, or with
no item it may take, begins nothing, and its row changes nothing (log 2). -/
def Obligations.OperationsBeginOnTheirSnapshot : Prop :=
  (∀ (s : State) (w : WaitItem), s.engine.op = none → nextItem s.link.part s.engine.waitList = some w →
      let sn : Snapshot :=
        { tables := s.tables.active, posture := s.posture, pen := s.pen.mode, penPos := s.pen.held.pos,
          shadow := s.shadow, padQuiet := s.padQuiet, palm := s.palm, state := (s.intake.get w.surface).state,
          base := s.base.get w.surface, tracks := s.tracks }
      (∀ o, w.work = .closing o → exec .frameOperationBegin s = .next { s with
        engine := ⟨s.engine.waitList.erase w, some ⟨w.surface, .closing w.key o, sn, false⟩⟩ }) ∧
      ∀ f, w.work = .frame → (s.intake.get w.surface).ready = some f →
        exec .frameOperationBegin s = .next { s with
          engine := ⟨s.engine.waitList.erase w, some ⟨w.surface, .frame f, sn, false⟩⟩,
          intake := s.intake.set w.surface { s.intake.get w.surface with
            ready := none, taken := min ((s.intake.get w.surface).taken + 1) 65535 } }) ∧
  (∀ s : State, s.engine.op ≠ none ∨ (∀ w ∈ s.engine.waitList, mayTake s.link.part w = false) →
      exec .frameOperationBegin s = .next s)

/-- Whatever befalls while an operation is in flight, its snapshot, its surface and its frame stay as they
were taken; of a closing request only the outcome OFF may turn to ACQUIRE. -/
def Obligations.SnapshotsStayAsTaken : Prop :=
  ∀ (c : Instr) (s t : State) (o : Operation), s.engine.op = some o → exec c s = .next t →
    t.engine.op = none ∨ ∃ o', t.engine.op = some o' ∧ o'.snap = o.snap ∧ o'.surface = o.surface ∧
      (o'.work = o.work ∨ ∃ key, o.work = .closing key .off ∧ o'.work = .closing key .acquire)

/-- An operation with a digest is held at a full digest queue, changes nothing while it is held there, and
once there is room completes as the working operation would have; one without a digest, as a closing with an
empty result is, completes whatever the queue holds. The row of the one completion changes nothing where the
other's is due (log 2). -/
def Obligations.FullDigestQueueHolds : Prop :=
  ∀ (s : State) (o : Operation), s.engine.op = some o →
    (o.held = false → o.makesDigest = true → 4 ≤ s.gestures.digests.length →
      exec .frameOperationComplete s = .next { s with engine := { s.engine with op := some { o with held := true } } }) ∧
    (o.held = true → exec .frameOperationComplete s = .next s) ∧
    (o.held = true → 4 ≤ s.gestures.digests.length → exec .heldOperationComplete s = .next s) ∧
    (o.held = false → exec .heldOperationComplete s = .next s) ∧
    (o.held = true → s.gestures.digests.length < 4 → exec .heldOperationComplete s =
      exec .frameOperationComplete
        { s with engine := { s.engine with op := some { o with held := false } } }) ∧
    (∀ key out, o.work = .closing key out →
      (o.makesDigest = false ↔ o.snap.tracks.closed o.surface)) ∧
    (o.held = false → o.makesDigest = false → ∃ t : State, exec .frameOperationComplete s = .next t ∧
      t.engine.op = none ∧ t.gestures.digests = s.gestures.digests ∧ t.tracks = s.tracks)

/-- An acquisition completes: the raw samples, or their average with the baseline rounded half up, are the
new baseline, the acquire count is one up, and the surface enters LIVE when the count is reached, its state
is ACQUIRE and no closing request of it waits; with no commit pending, nothing else changes. The baseline it
starts from is its snapshot's (log 8). -/
def Obligations.AcquisitionTakesTheAverage : Prop :=
  ∀ (s : State) (o : Operation) (f : ReadyFrame), s.engine.op = some o → o.held = false →
    o.work = .frame f → o.snap.state = .acquire → s.tables.commit = none →
    let b := o.snap.base
    let count := min (b.acquired + 1) 15
    let values := if b.acquired = 0 then f.samples
      else List.zipWith (List.zipWith fun x r => (x + r + 1) / 2) b.values f.samples
    let t (drift : Nat) : State :=
      { s with engine := { s.engine with op := none },
               base := s.base.set o.surface { values := values, acquired := count, drift := drift } }
    let goesLive := acquireFrames o.snap.tables.tune ≤ count ∧ (s.intake.get o.surface).state = .acquire ∧
      ¬ ∃ w ∈ s.engine.waitList, w.surface = o.surface ∧ ∃ out, w.work = .closing out
    (goesLive → exec .frameOperationComplete s =
      .next (((t 0).onIntake o.surface fun i => { i with state := .live }).surfaceNotice o.surface)) ∧
    (¬ goesLive → exec .frameOperationComplete s = .next (t b.drift))

/-- A live operation completes with room in the digest queue: its FRAME digest joins the queue, with the events of
its tracks slot by slot and, in its position list, the surface's ACTIVE tracks with their positions and
displacements; the operation is over. An anti-touch frame recaptures its surface when that is LIVE and not shut.
A track that became PALM by its vote leaves the claims of the context that owns it, and the pointer goes with
its source. The surface's slots are what the operation made of its snapshot's, an anchor that made a MOVE settled
and each owner as it stands now, none for a track opened here or released; the operation's CONTACT report may then
announce them. With no commit pending nothing else changes but the surface's own baseline and overflow counts, the
next-ID counter, palm memory, the vote, the report queue and, by recapture at a full queue, the owed causes (log 8:
the baseline and the tracks it starts from are its snapshot's). -/
def Obligations.LiveOperationsHandTheirDigest : Prop :=
  ∀ (s : State) (o : Operation) (f : ReadyFrame), s.engine.op = some o → o.held = false →
    o.work = .frame f → o.snap.state = .live → s.gestures.digests.length < 4 → s.tables.commit = none →
    s.tracks.shaped → o.snap.tracks.shaped →
    let u := o.surface
    let r := liveWork o.snap u f
    let recaptures := recapCells o.snap.tables.tune ≤
        antiTouchCells (recapThreshold o.snap.tables.tune) o.snap.base.values f.samples ∧
      (s.intake.get u).state = .live ∧ s.shut u = false
    let released (k : Nat) : List TrackRef := (List.range 10).filterMap fun i =>
      (r.after.getD i none).bind fun y => ((s.tracks.slots.get u).getD i none).bind fun x =>
        if votedPalm (r.before.getD i none) (some y) = true ∧ x.id = y.id ∧ x.owner = some k then
          some ⟨u.firstSlot + i, y.id⟩ else none
    let settled : List (Option Track) := (List.range 10).map fun i => (r.after.getD i none).map fun y =>
      let b := r.before.getD i none
      { y with
        anchor :=
          if goesOn b (some y) = true ∧ b.any Track.confirmed = true ∧ y.state = .active ∧
            slop o.snap.tables.tune ^ 2 ≤ sqDist y.pos y.anchor then y.pos else y.anchor
        owner := ((s.tracks.slots.get u).getD i none).bind fun x =>
          if goesOn b (some y) = true ∧ votedPalm b (some y) = false ∧ x.id = y.id then x.owner else none }
    let sourceReleased := ∃ p c, s.motion.pointer = some p ∧ s.context p.holder.slot = some c ∧
      c.serial = p.holder.serial ∧ p.source ∈ released p.holder.slot
    ∃ (t : State) (d : Digest), exec .frameOperationComplete s = .next t ∧
      t = { s with intake := t.intake, blobOverflow := t.blobOverflow, engine := t.engine, base := t.base,
                   tracks := t.tracks, palm := t.palm, pen := t.pen, gestures := t.gestures,
                   motion := t.motion, queue := t.queue, link := t.link } ∧
      t.gestures = { s.gestures with
        digests := s.gestures.digests ++ [d], contexts := t.gestures.contexts } ∧
      (d.surface = u ∧ d.kind = .frame ∧ d.time = f.time ∧ d.joined = s.now) ∧
      d.events = ((List.range 10).flatMap fun i =>
        match r.before.getD i none, r.after.getD i none with
        | _, none => []
        | b, some y =>
          let track : TrackRef := ⟨u.firstSlot + i, y.id⟩
          let went := goesOn b (some y) = true ∧ ∃ x, b = some x ∧ (x.state = .active ∨ x.state = .missing)
          let stayed := went ∧ y.state = .active
          (if y.state = .active ∧ ¬ went ∧ y.cls ≠ .palm ∧ y.suppressed = false then
              [TrackEvent.touchdown track y.cls y.pos y.zone] else [])
            ++ (if went ∧ y.state = .ended .lift then [TrackEvent.lift track] else [])
            ++ (if stayed ∧ b.map Track.cls ≠ some y.cls then
              [TrackEvent.reclass track (s.releasedFrom (u.firstSlot + i) b (some y))] else [])
            ++ (if stayed ∧ slop o.snap.tables.tune ^ 2 ≤ sqDist y.pos y.anchor then
              [TrackEvent.move track y.pos] else [])) ∧
      d.positions = ((t.tracks.slots.get u).zipIdx.filterMap fun (r, i) =>
        r.bind fun x => if x.state = .active then
          some ⟨⟨u.firstSlot + i, x.id⟩, x.pos, x.pos.x - (x.prev.getD x.pos).x,
            x.pos.y - (x.prev.getD x.pos).y⟩ else none) ∧
      t.engine.op = none ∧
      (recaptures → t.engine.waitList = s.engine.waitList.filter (fun w => !w.isFrame u) ++
          (if s.closingWaits u = true then [] else [⟨s.now, u, .closing .none⟩]) ∧
        t.intake = s.intake.set u { s.intake.get u with
          state := .acquire, ready := none,
          timeout := if frameTimeoutMs s.tune = 0 then none
            else some (s.now + BitVec.ofNat 32 (frameTimeoutMs s.tune * 100)) } ∧
        t.link = { s.link with owed := t.link.owed }) ∧
      (¬ recaptures → t.engine.waitList = s.engine.waitList ∧ t.intake = s.intake ∧ t.link = s.link) ∧
      t.base = s.base.set u (liveBase o.snap u r.extraction.boxes f.samples) ∧
      ((t.base.get u).acquired = o.snap.base.acquired ∧
        (t.base.get u).drift = (o.snap.base.drift + 1) % 2 ^ driftShift o.snap.tables.tune) ∧
      (∀ v, v ≠ u → t.tracks.slots.get v = s.tracks.slots.get v ∧
        t.blobOverflow.get v = s.blobOverflow.get v ∧ t.tracks.overflow.get v = s.tracks.overflow.get v) ∧
      (liveTable s.tracks u o.snap r).slots.get u = settled ∧
      (t.tracks.slots.get u = settled ∨ t.tracks.slots.get u = settled.map announcedSlot) ∧
      t.tracks.nextId = r.opening.table.nextId ∧
      t.tracks.overflow.get u = min (s.tracks.overflow.get u + r.opening.dropped) 65535 ∧
      t.blobOverflow.get u = (if r.extraction.overflow = true then min (s.blobOverflow.get u + 1) 65535
        else s.blobOverflow.get u) ∧
      t.palm = palmAfter u (palmHold o.snap.tables.tune) s.now r.before r.after r.opening.hits s.palm ∧
      t.pen = { s.pen with vote := voteAfter o.snap u s.pen.vote r.before r.after } ∧
      (∀ k, t.context k = (s.context k).map fun c =>
        { c with claims := c.claims.filter fun e => !(released k).contains e.track }) ∧
      (sourceReleased → t.motion = { s.motion with pointer := none, residueX := 0, residueY := 0 }) ∧
      (¬ sourceReleased → t.motion = s.motion)

/-- A closing completes: no track of its surface is left open, its palm entries are gone, its acquire state
is cleared with the baseline kept, and its outcome is applied; a CLOSING digest with a CANCEL for each track
that was ACTIVE or MISSING is handed on exactly when a track was open. Its CONTACT report then lists the surface's
ended tracks, each track that was ACTIVE or MISSING with cause CANCEL: under EVERY, or when it lists any, it goes
first into the report queue while that has room, and the slots of the tracks it lists become FREE. A closing
with no track open completes at a full digest queue too (log 8: the tracks are its snapshot's). -/
def Obligations.ClosingsWindTheirSurfaceDown : Prop :=
  ∀ (s : State) (o : Operation) (key : Time) (out : ClosingOutcome), s.engine.op = some o →
    o.held = false → o.work = .closing key out →
    s.tracks.closed o.surface ∨ s.gestures.digests.length < 4 → s.tables.commit = none →
    s.tracks.shaped → o.snap.tracks.shaped → s.surfaceSound o.surface →
    let ended := ((o.snap.tracks.slots.get o.surface).zip (s.tracks.slots.get o.surface)).map fun p =>
      closedSlot p.1 p.2
    let table := { s.tracks with slots := s.tracks.slots.set o.surface ended }
    let kept := ended.map fun r => r.bind fun x => if x.endPending then none else some x
    let listed := table.entries o.surface
    let offered := contactMode o.snap.tables.tune = 0 ∨ listed ≠ []
    let room := ordinaryCount s.queue < 28 ∧ s.queue.length < 32
    ∃ (t : State) (rest : List Record), exec .frameOperationComplete s = .next t ∧ t.engine.op = none ∧
      t.tracks.closed o.surface ∧
      t.palm = s.palm.filter (fun e => e.surface != o.surface) ∧
      t.base.get o.surface = { s.base.get o.surface with acquired := 0, drift := 0 } ∧
      (t.intake.get o.surface).state =
        (match out with
          | .off => .off
          | .acquire => .acquire
          | .none => (s.intake.get o.surface).state) ∧
      (out = .acquire → (t.intake.get o.surface).errorRun = 0 ∧ (t.intake.get o.surface).timeout =
        if frameTimeoutMs s.tune = 0 then none
          else some (s.now + BitVec.ofNat 32 (frameTimeoutMs s.tune * 100))) ∧
      (out = .off → (t.intake.get o.surface).timeout = none) ∧
      (out = .off → o.surface = .panel → t.pen.mode = .out ∧ t.pen.guard = none) ∧
      (s.tracks.closed o.surface → t.gestures.digests = s.gestures.digests) ∧
      (¬ s.tracks.closed o.surface → t.gestures.digests = s.gestures.digests ++
        [{ joined := s.now, surface := o.surface, kind := .closing, time := key
           events := (o.snap.tracks.slots.get o.surface).zipIdx.filterMap fun (r, i) =>
             r.bind fun x => if x.state = .active ∨ x.state = .missing then
               some (.cancel ⟨o.surface.firstSlot + i, x.id⟩) else none
           positions := [] }]) ∧
      (∀ e ∈ listed, ∃ cause unseen, e.mark = .ended cause unseen) ∧
      (∀ i x, (o.snap.tracks.slots.get o.surface)[i]? = some (some x) → x.state = .active ∨ x.state = .missing →
        ∃ e ∈ listed, e.track = ⟨o.surface.firstSlot + i, x.id⟩ ∧ e.mark = .ended .cancel x.startPending) ∧
      (∀ r ∈ rest, ∀ c, r.payload ≠ .contact c) ∧
      (¬ s.tracks.closed o.surface → offered → room →
        t.queue = s.queue ++ [⟨key, .contact ⟨o.surface, .closing, listed⟩, false⟩] ++ rest ∧
        t.tracks = { s.tracks with slots := s.tracks.slots.set o.surface kept }) ∧
      (¬ s.tracks.closed o.surface → ¬ (offered ∧ room) → t.queue = s.queue ++ rest ∧ t.tracks = table) ∧
      (s.tracks.closed o.surface → t.queue = s.queue ++ rest ∧ t.tracks = s.tracks)

/-! ## Baselines, blobs and tracks (02 to 05) -/

/-- A live frame moves a baseline value by at most one count, toward the raw sample: only on a drift frame
that is no anti-touch frame, only within the drift window, and only outside every blob's box widened by one
cell. -/
def Obligations.DriftMovesOneCount : Prop :=
  ∀ (sn : Snapshot) (u : Surface) (boxes : List Box) (raw : List (List Nat)) (row col : Nat),
    gridShaped u sn.base.values → gridShaped u raw → row < u.rows → col < u.columns →
    let old := cellAt sn.base.values row col
    let r := cellAt raw row col
    let new := cellAt (liveBase sn u boxes raw).values row col
    let moves := (sn.base.drift + 1) % 2 ^ driftShift sn.tables.tune = 0 ∧
      antiTouchCells (recapThreshold sn.tables.tune) sn.base.values raw < recapCells sn.tables.tune ∧
      (max old r - min old r ≤ driftWindow sn.tables.tune) ∧
      ¬ ∃ b ∈ boxes, b.c0 ≤ col + 1 ∧ col ≤ b.c1 + 1 ∧ b.r0 ≤ row + 1 ∧ row ≤ b.r1 + 1
    (moves → old < r → new = old + 1) ∧ (moves → r < old → new + 1 = old) ∧ (moves → r = old → new = old) ∧
      (¬ moves → new = old)

/-- Blobs are the maximal groups of set cells that share sides: together they hold each set cell once, each
is connected, no two of them adjoin, each begins with its first cell, and they come in the row-major order
of their first cells. -/
def Obligations.BlobsPartitionTheSetCells : Prop :=
  ∀ (threshold : Nat) (grid : List (List Nat)),
    let blobs := frameBlobs threshold grid
    blobs.flatten.Perm (setCells threshold grid) ∧
      (∀ c : SetCell, c ∈ setCells threshold grid ↔
        threshold ≤ c.delta ∧ ∃ row, grid[c.row]? = some row ∧ row[c.col]? = some c.delta) ∧
      (∀ b ∈ blobs, ∃ first rest, b = first :: rest ∧ (∀ x ∈ rest, first.before x = true) ∧
        ∀ x ∈ b, Relation.ReflTransGen (fun p q => p ∈ b ∧ q ∈ b ∧ p.adjoins q = true) first x) ∧
      blobs.Pairwise (fun a b => (∀ x ∈ a, ∀ y ∈ b, x.adjoins y = false) ∧
        ∀ x ∈ a.head?, ∀ y ∈ b.head?, x.before y = true)

/-- The features of every blob of a frame lie where the rules say: the area and the sum within their bounds,
the peak within the threshold to 2047, the centroid within the box, the box within the grid, flatness 1 to
256, elongation 16 to 16 times the grid's longer side (384 on the pad, 768 on the panel), the zone 0 to 7. -/
def Obligations.BlobMeasuresStayInRange : Prop :=
  ∀ (t : Tables) (u : Surface) (base raw : List (List Nat)) (b : List SetCell),
    gridShaped u base → gridShaped u raw → 1 ≤ touchThreshold t.tune →
    (∀ col row, t.zoneAt u col row ≤ 7) →
    b ∈ frameBlobs (touchThreshold t.tune) (deltaGrid base raw) →
    let m := measure t u b
    1 ≤ m.feat.area ∧ m.feat.area ≤ u.rows * u.columns ∧
      touchThreshold t.tune ≤ m.feat.peak ∧ m.feat.peak ≤ 2047 ∧
      m.feat.area * touchThreshold t.tune ≤ m.feat.sum ∧ m.feat.sum ≤ m.feat.area * m.feat.peak ∧
      m.feat.box.c0 ≤ m.feat.box.c1 ∧ m.feat.box.c1 < u.columns ∧
      m.feat.box.r0 ≤ m.feat.box.r1 ∧ m.feat.box.r1 < u.rows ∧
      64 * m.feat.box.c0 ≤ m.pos.x ∧ m.pos.x ≤ 64 * m.feat.box.c1 ∧
      64 * m.feat.box.r0 ≤ m.pos.y ∧ m.pos.y ≤ 64 * m.feat.box.r1 ∧
      1 ≤ m.feat.flat ∧ m.feat.flat ≤ 256 ∧ 16 ≤ m.feat.elong ∧
      m.feat.elong ≤ 16 * max u.columns u.rows ∧ m.feat.zone ≤ 7

/-- The ten-blob limit keeps ten blobs at most, in formation order: every blob it drops has a lower peak than
every blob it keeps, or the same peak and a later place. Of a panel frame whose pen snapshot is INK, extraction then
drops exactly the blobs whose centroid lies within *nib_radius* of the pen position, and of any other frame none;
it hands on the box of every formed blob, kept, dropped or excluded, the smallest that holds its cells. -/
def Obligations.TenBlobLimitKeepsTheHighest : Prop :=
  (∀ bs : List (List SetCell), ∃ keep : List Nat,
    keep.Pairwise (· < ·) ∧ (∀ i ∈ keep, i < bs.length) ∧ keep.length = min bs.length 10 ∧
      keptBlobs bs = keep.map (fun i => bs.getD i []) ∧
      ∀ i ∈ keep, ∀ j, j < bs.length → j ∉ keep →
        blobPeak (bs.getD j []) < blobPeak (bs.getD i []) ∨
          (blobPeak (bs.getD j []) = blobPeak (bs.getD i []) ∧ i < j)) ∧
  ∀ (sn : Snapshot) (u : Surface) (f : ReadyFrame),
    let formed := frameBlobs (touchThreshold sn.tables.tune) (deltaGrid sn.base.values f.samples)
    let kept := (keptBlobs formed).map (measure sn.tables u)
    let r := (liveWork sn u f).extraction
    let apart (b : Blob) := (nibRadius sn.tables.tune : Int) ^ 2 <
      ((b.pos.x : Int) - sn.penPos.x) ^ 2 + ((b.pos.y : Int) - sn.penPos.y) ^ 2
    r = extract sn u f.samples ∧
      (u = .panel → sn.pen = .ink → r.blobs = kept.filter fun b => decide (apart b)) ∧
      (u = .pad ∨ sn.pen ≠ .ink → r.blobs = kept) ∧
      r.boxes = formed.map blobBox ∧ (r.overflow = true ↔ 10 < formed.length) ∧
      ∀ b ∈ formed, let box := blobBox b
        (∀ c ∈ b, box.c0 ≤ c.col ∧ c.col ≤ box.c1 ∧ box.r0 ≤ c.row ∧ c.row ≤ box.r1) ∧
          (∃ c ∈ b, c.col = box.c0) ∧ (∃ c ∈ b, c.col = box.c1) ∧
          (∃ c ∈ b, c.row = box.r0) ∧ ∃ c ∈ b, c.row = box.r1

/-- Association pairs candidates greedily, in ascending order of distance, then slot, then list index: a
candidate is passed over exactly when one before it in that order has taken its track or its blob. -/
def Obligations.AssociationIsGreedy : Prop :=
  ∀ (gate : Nat) (u : Surface) (slots : List (Option Track)) (blobs : List Blob),
    let pairs := associate gate u slots blobs
    (∀ c : Candidate, c ∈ candidates gate u slots blobs ↔ ∃ t b, slots[c.slot]? = some (some t) ∧
        blobs[c.blob]? = some b ∧ t.takesPart = true ∧ c.dist = sqDist (t.predicted u) b.pos ∧
        c.dist ≤ gate ^ 2) ∧
      pairs.Pairwise (fun p q => p.before q = true ∧ p.slot ≠ q.slot ∧ p.blob ≠ q.blob) ∧
      (∀ p ∈ pairs, p ∈ candidates gate u slots blobs) ∧
      ∀ c ∈ candidates gate u slots blobs, c ∉ pairs →
        ∃ p ∈ pairs, p.before c = true ∧ (p.slot = c.slot ∨ p.blob = c.blob)

/-- A new track takes the first ID from the counter on that no slot of either surface holds, 1 following 255,
within twenty-one values; it stands in the lowest FREE slot, and the counter moves past its ID; with no FREE slot
its blob is dropped and counted. Its record is TENTATIVE, or ACTIVE at once when *confirm_frames* is 1, at the
blob's place with the blob's features: PALM, latched and forced in the shadow or in a catch area of palm memory,
else of the raw class, latched when that is PALM; suppressed on the pad while it is quiet. The hit recorded is the
catching entry nearest the head. The unmatched blobs of a live frame open tracks in list order in the FREE slots
in slot order, those that the frame freed among them, and the rest are dropped. -/
def Obligations.NewIdsAreFree : Prop :=
  (∀ (sn : Snapshot) (u : Surface) (time : Time) (op : Opening) (b : Blob) (i : Nat),
    op.table.shaped → 1 ≤ op.table.nextId → op.table.nextId ≤ 255 →
    (op.table.slots.get u)[i]? = some none → (∀ j, j < i → (op.table.slots.get u)[j]? ≠ some none) →
    ∃ k ≤ 20, let id := (fun n : Nat => n % 255 + 1)^[k] op.table.nextId
      id ∉ op.table.heldIds ∧ 1 ≤ id ∧ id ≤ 255 ∧
      (∀ j < k, (fun n : Nat => n % 255 + 1)^[j] op.table.nextId ∈ op.table.heldIds) ∧
      (openOne sn u time op b).table = { op.table with
        slots := op.table.slots.set u ((op.table.slots.get u).set i (some (openTrack sn u time id b))),
        nextId := id % 255 + 1 } ∧
      (openOne sn u time op b).dropped = op.dropped ∧
      (openOne sn u time op b).hits = op.hits ++ ((palmHit sn u b.pos).map fun e => (⟨u.firstSlot + i, id⟩, e)).toList) ∧
  (∀ (sn : Snapshot) (u : Surface) (time : Time) (op : Opening) (b : Blob),
    (∀ r ∈ op.table.slots.get u, r ≠ none) →
      openOne sn u time op b = { op with dropped := op.dropped + 1 }) ∧
  (∀ (sn : Snapshot) (u : Surface) (time : Time) (id : Nat) (b : Blob),
    let margin := palmMargin sn.tables.tune
    let catches (e : PalmEntry) := e.surface = u ∧
      64 * (e.box.c0 - margin) ≤ b.pos.x ∧ b.pos.x ≤ 64 * min (e.box.c1 + margin) (u.columns - 1) ∧
      64 * (e.box.r0 - margin) ≤ b.pos.y ∧ b.pos.y ≤ 64 * min (e.box.r1 + margin) (u.rows - 1)
    let inShade := u = .panel ∧ ∃ r, sn.shadow = some r ∧ r.holds b.pos = true
    let forced := inShade ∨ ∃ e ∈ sn.palm, catches e
    let y := openTrack sn u time id b
    y = { y with id := id, votes := 0, candidate := y.cls, owner := none, pos := b.pos, prev := none,
                 anchor := b.pos, zone := b.feat.zone, downTime := time, seen := 1, misses := 0, feat := b.feat,
                 endPending := false } ∧
      (y.forced = true ↔ forced) ∧ (forced → y.cls = .palm) ∧
      (¬ forced → y.cls = rawClass sn.tables.shape u sn.posture b.feat) ∧
      (y.latched = true ↔ y.cls = .palm) ∧ (y.suppressed = true ↔ u = .pad ∧ sn.padQuiet = true) ∧
      (confirmFrames sn.tables.tune ≤ 1 → y.state = .active ∧ y.startPending = true) ∧
      (1 < confirmFrames sn.tables.tune → y.state = .tentative ∧ y.startPending = false) ∧
      (∀ front e back, sn.palm = front ++ e :: back → catches e → (∀ x ∈ front, ¬ catches x) →
        palmHit sn u b.pos = some e) ∧
      ((∀ e ∈ sn.palm, ¬ catches e) → palmHit sn u b.pos = none)) ∧
  ∀ (sn : Snapshot) (u : Surface) (f : ReadyFrame), sn.tracks.shaped →
    let r := liveWork sn u f
    let pairs := associate (gateRadius sn.tables.tune) u r.before r.extraction.blobs
    let free := (List.range 10).filter fun i => (r.before.getD i none).all fun x =>
      x.state == .tentative && pairs.all (fun p => p.slot != i)
    let fresh := (List.range r.extraction.blobs.length).filter fun j => pairs.all fun p => p.blob != j
    (∀ (n i j : Nat) (b : Blob), free[n]? = some i → fresh[n]? = some j → r.extraction.blobs[j]? = some b →
        ∃ id, r.after[i]? = some (some (openTrack sn u f.time id b))) ∧
      (∀ n i : Nat, free[n]? = some i → fresh.length ≤ n → r.after[i]? = some none) ∧
      r.opening.dropped = fresh.length - free.length ∧
      r.opening.hits = (free.zip fresh).filterMap fun (i, j) => (r.extraction.blobs[j]?).bind fun b =>
        (r.after.getD i none).bind fun y => (palmHit sn u b.pos).map fun e => (⟨u.firstSlot + i, y.id⟩, e)

/-- The class of a latched track is PALM and a track of class PALM is latched: kept by every step, in the track
table and in the operation in flight; a latched track stays PALM, its vote unmoved, through every match. A
matched track takes its blob's place and features and is counted as seen; a TENTATIVE one is confirmed at
*confirm_frames*, a MISSING one is ACTIVE again. Its raw class, the result of the first shape rule that the blob
fits, clears the vote when it is the class, else counts for the candidate or becomes it, and carries at
*vote_frames*. An unmatched track is freed silently, MISSING, or ENDED with cause LIFT at *lift_frames* (log 28: its
miss count when that is 1). A live frame matches the tracks that association pairs, and misses the rest; a slot
whose track takes no part stays as it is. -/
def Obligations.LatchedMeansPalm : Prop :=
  (∀ s t : State, s.latchSound → step s = .next t → t.latchSound) ∧
  (∀ (t : Track) (sn : Snapshot) (u : Surface) (b : Blob), t.latched = true → t.cls = .palm →
      (t.matched sn u b).cls = .palm ∧ (t.matched sn u b).latched = true ∧
        (t.matched sn u b).votes = t.votes ∧ (t.matched sn u b).candidate = t.candidate) ∧
  (∀ (t : Track) (sn : Snapshot) (u : Surface) (b : Blob), (∀ cause, t.state ≠ .ended cause) →
      let m := t.matched sn u b
      let raw := rawClass sn.tables.shape u sn.posture b.feat
      let votes := if raw = t.candidate then t.votes + 1 else 1
      m = { t with prev := some t.pos, pos := b.pos, feat := b.feat, seen := min (t.seen + 1) 255,
                   state := m.state, misses := if t.state = .missing then 0 else t.misses,
                   startPending := m.startPending, anchor := m.anchor, cls := m.cls, candidate := m.candidate,
                   votes := m.votes, latched := m.latched } ∧
      (t.state = .tentative → m.seen < confirmFrames sn.tables.tune →
        m.state = .tentative ∧ m.startPending = t.startPending ∧ m.anchor = t.anchor) ∧
      (t.state = .tentative → confirmFrames sn.tables.tune ≤ m.seen →
        m.state = .active ∧ m.startPending = true ∧ m.anchor = b.pos) ∧
      (t.state ≠ .tentative → m.state = .active ∧ m.startPending = t.startPending ∧ m.anchor = t.anchor) ∧
      (t.latched = false →
        (raw = t.cls → m.cls = t.cls ∧ m.candidate = t.candidate ∧ m.votes = 0 ∧ m.latched = false) ∧
        (raw ≠ t.cls → votes < voteFrames sn.tables.tune →
          m.cls = t.cls ∧ m.candidate = raw ∧ m.votes = votes ∧ m.latched = false) ∧
        (raw ≠ t.cls → voteFrames sn.tables.tune ≤ votes →
          m.cls = raw ∧ m.candidate = raw ∧ m.votes = 0 ∧ (m.latched = true ↔ raw = .palm)))) ∧
  (∀ (rules : List ShapeRule) (u : Surface) (p : Posture) (f : Features),
      let fits (r : ShapeRule) := r.surfaces.getLsbD u.code = true ∧ r.zones.getLsbD f.zone = true ∧
        r.postures.getLsbD p.code = true ∧ r.areaMin ≤ min f.area 255 ∧ min f.area 255 ≤ r.areaMax ∧
        r.peakMin ≤ f.peak ∧ f.peak ≤ r.peakMax ∧ r.flatMin ≤ f.flat ∧ f.flat ≤ r.flatMax ∧
        r.elongMin ≤ f.elong ∧ f.elong ≤ r.elongMax ∧
        (r.edge = 0 ∨ (r.edge = 1 ∧ f.edge = true) ∨ (r.edge = 2 ∧ f.edge = false))
      (∀ front r back cls, rules = front ++ r :: back → fits r → (∀ x ∈ front, ¬ fits x) →
          classOf r.cls = some cls → rawClass rules u p f = cls) ∧
        ((∀ r ∈ rules, ¬ fits r) → rawClass rules u p f = .unknown)) ∧
  (∀ (t : Track) (lift : Nat),
      (t.state = .tentative → t.unmatched lift = none) ∧
      (t.state = .active → 1 < lift → t.unmatched lift = some { t with state := .missing, misses := 1 }) ∧
      (t.state = .active → lift ≤ 1 → t.unmatched lift = some { t with state := .ended .lift, endPending := true }) ∧
      (t.state = .missing → t.misses + 1 < lift → t.unmatched lift = some { t with misses := t.misses + 1 }) ∧
      (t.state = .missing → lift ≤ t.misses + 1 → t.unmatched lift =
        some { t with state := .ended .lift, endPending := true, misses := t.misses + 1 })) ∧
  ∀ (sn : Snapshot) (u : Surface) (f : ReadyFrame), sn.tracks.shaped →
    let r := liveWork sn u f
    let pairs := associate (gateRadius sn.tables.tune) u r.before r.extraction.blobs
    ∀ (i : Nat) (x : Track), r.before[i]? = some (some x) →
      (∀ p ∈ pairs, p.slot = i → ∃ b, r.extraction.blobs[p.blob]? = some b ∧
        r.after[i]? = some (some (x.matched sn u b))) ∧
      (∀ y, x.takesPart = true → (∀ p ∈ pairs, p.slot ≠ i) → x.unmatched (liftFrames sn.tables.tune) = some y →
        r.after[i]? = some (some y)) ∧
      (x.takesPart = false → r.after[i]? = some (some x))

/-- Through every step no two entries of a surface overlap, and an entry has a deadline exactly while nothing is
bound to it. After a live completion's decisions palm memory holds at most eight entries, no two entries of
the surface overlap, and an entry of the other surface has the box of one it held before. The decisions come in four
steps, each in slot order. A track that ended with cause LIFT, or went silently, leaves its entry, which
with nothing left bound takes its deadline, or goes when *palm_hold* is 0. A hit entry that is still there (log 14: by
its box) has the track bound, loses its deadline and comes to the head; else the track is passed on. A track that first
became PALM and is unbound does the same to the entry nearest the head that its box overlaps; with none, a new entry
stands at the head, in place of the unbound one nearest the tail when eight are held, and none is made when all
eight are bound. Then a bound entry's box is the smallest that holds its tracks' boxes, and the overlapping
pair nearest the head is merged until there is none. -/
def Obligations.PalmMemoryStaysDisjoint : Prop :=
  (∀ s t : State, s.palmApart → step s = .next t → t.palmApart) ∧
  (∀ (u : Surface) (hold : Nat) (now : Time) (before after : List (Option Track))
    (hits : List (TrackRef × PalmEntry)) (m : List PalmEntry), m.length ≤ 8 →
    let m' := palmAfter u hold now before after hits m
    m'.length ≤ 8 ∧
      m'.Pairwise (fun a b => a.surface = u → b.surface = u →
        ¬ (a.box.c0 ≤ b.box.c1 ∧ b.box.c0 ≤ a.box.c1 ∧ a.box.r0 ≤ b.box.r1 ∧ b.box.r0 ≤ a.box.r1)) ∧
      ∀ e ∈ m', e.surface ≠ u → ∃ old ∈ m, old.surface = e.surface ∧ old.box = e.box) ∧
  (∀ (u : Surface) (hold : Nat) (now : Time) (before after : List (Option Track))
    (hits : List (TrackRef × PalmEntry)) (m : List PalmEntry), before.length = 10 → after.length = 10 →
    let deadline : Option Time := if hold = 0 then none else some (now + BitVec.ofNat 32 (hold * 100))
    let gone := (List.range 10).filterMap fun i => (before.getD i none).bind fun x =>
      let y := after.getD i none
      if (x.state = .active ∨ x.state = .missing) ∧ goesOn (some x) y = true ∧
          y.map Track.state = some (.ended .lift) ∨ x.state = .tentative ∧ goesOn (some x) y = false then
        some (⟨u.firstSlot + i, x.id⟩ : TrackRef) else none
    let hit := hitStep hits (gone.foldl (fun a r => a.filterMap (unbindFrom deadline r)) m)
    let new := (List.range 10).filterMap fun i => (after.getD i none).bind fun y =>
      let x := before.getD i none
      let r : TrackRef := ⟨u.firstSlot + i, y.id⟩
      if y.cls = .palm ∧ ¬ (goesOn x (some y) = true ∧ x.map Track.cls = some .palm) ∧
          (r ∈ hit.2 ∨ ∀ h ∈ hits, h.1 ≠ r) then some (r, y.feat.box) else none
    let placed := (new.foldl (fun a p => placePalm u p.2 p.1 a) hit.1).map (followTracks u after)
    palmAfter u hold now before after hits m = mergeAll u placed.length placed) ∧
  (∀ (deadline : Option Time) (r : TrackRef) (e : PalmEntry),
    (r ∉ e.bound → unbindFrom deadline r e = some e) ∧
      (r ∈ e.bound → (∃ x ∈ e.bound, x ≠ r) →
        unbindFrom deadline r e = some { e with bound := e.bound.filter fun x => x != r }) ∧
      (r ∈ e.bound → (∀ x ∈ e.bound, x = r) →
        unbindFrom deadline r e = deadline.map fun d => { e with bound := [], deadline := some d })) ∧
  (∀ (hits : List (TrackRef × PalmEntry)) (r : TrackRef) (h : PalmEntry) (m : List PalmEntry),
    let told := hitStep hits m
    let same (e : PalmEntry) := e.surface = h.surface ∧ e.box = h.box
    hitStep [] m = (m, []) ∧
      (∀ front e back, told.1 = front ++ e :: back → same e → (∀ x ∈ front, ¬ same x) →
        hitStep (hits ++ [(r, h)]) m =
          ({ e with bound := e.bound ++ [r], deadline := none } :: (front ++ back), told.2)) ∧
      ((∀ x ∈ told.1, ¬ same x) → hitStep (hits ++ [(r, h)]) m = (told.1, told.2 ++ [r]))) ∧
  (∀ (u : Surface) (box : Box) (r : TrackRef) (m : List PalmEntry),
    let fresh : PalmEntry := ⟨u, box, [r], none⟩
    let covers (e : PalmEntry) := e.surface = u ∧ e.box.meets box
    (∀ front e back, m = front ++ e :: back → covers e → (∀ x ∈ front, ¬ covers x) → placePalm u box r m =
        { e with bound := e.bound ++ [r], deadline := none } :: (front ++ back)) ∧
      ((∀ e ∈ m, ¬ covers e) →
        (m.length < 8 → placePalm u box r m = fresh :: m) ∧
        (∀ front e back, 8 ≤ m.length → m = front ++ e :: back → e.bound = [] → (∀ x ∈ back, x.bound ≠ []) →
          placePalm u box r m = fresh :: (front ++ back)) ∧
        (8 ≤ m.length → (∀ e ∈ m, e.bound ≠ []) → placePalm u box r m = m))) ∧
  (∀ (u : Surface) (slots : List (Option Track)) (e : PalmEntry),
    let boxes := e.bound.filterMap fun r => (slots.getD (r.slot - u.firstSlot) none).bind fun x =>
      if x.id = r.id then some x.feat.box else none
    (e.surface ≠ u ∨ e.bound = [] → followTracks u slots e = e) ∧
      (e.surface = u → boxes ≠ [] → ∃ box, followTracks u slots e = { e with box := box } ∧
        (∀ b ∈ boxes, box.c0 ≤ b.c0 ∧ b.c1 ≤ box.c1 ∧ box.r0 ≤ b.r0 ∧ b.r1 ≤ box.r1) ∧
        (∃ b ∈ boxes, b.c0 = box.c0) ∧ (∃ b ∈ boxes, b.c1 = box.c1) ∧
        (∃ b ∈ boxes, b.r0 = box.r0) ∧ ∃ b ∈ boxes, b.r1 = box.r1)) ∧
  ∀ (u : Surface) (n : Nat),
    let apart (a b : PalmEntry) := a.surface = u → b.surface = u → ¬ a.box.meets b.box
    (∀ m : List PalmEntry, m.Pairwise apart → mergeAll u n m = m) ∧
      ∀ front a mid b back, a.surface = u → b.surface = u → a.box.meets b.box → front.Pairwise apart →
        (∀ x ∈ front, ∀ y ∈ a :: (mid ++ b :: back), apart x y) → (∀ y ∈ mid, apart a y) →
        mergeAll u (n + 1) (front ++ a :: (mid ++ b :: back)) = mergeAll u n (front ++
          { a with
            box := ⟨min a.box.c0 b.box.c0, max a.box.c1 b.box.c1, min a.box.r0 b.box.r0, max a.box.r1 b.box.r1⟩
            bound := a.bound ++ b.bound
            deadline := none } :: (mid ++ back))

/-- A CONTACT report lists, in slot order, the ACTIVE and MISSING tracks of its surface, NEW while their start is
pending and ONGOING after, and the ENDED tracks whose end is pending, unseen when their start is pending too.
Admitted, it announces them: starts are pending no more and the ENDED tracks' slots are FREE; dropped, it
changes nothing. A departure's catch-up report is built for a surface with a pending announcement and nothing
waiting or in flight; a live completion's under EVERY, and under ON_CHANGE for a NEW or ENDED entry, a listed
class that changed or a MOVE. -/
def Obligations.ContactReportsAnnounce : Prop :=
  (∀ (t : TrackTable) (u : Surface),
      (∀ e, e ∈ t.entries u ↔ ∃ i x, (t.slots.get u)[i]? = some (some x) ∧
        e.track = ⟨u.firstSlot + i, x.id⟩ ∧ e.cls = x.cls ∧ e.suppressed = x.suppressed ∧
        e.forced = x.forced ∧ e.owner = x.owner ∧ e.pos = x.pos ∧ e.matchArea = min x.feat.area 255 ∧
        e.peak = x.feat.peak ∧ e.zone = x.zone ∧
        ((x.state = .active ∨ x.state = .missing) ∧ x.startPending = true ∧ e.mark = .new ∨
          (x.state = .active ∨ x.state = .missing) ∧ x.startPending = false ∧ e.mark = .ongoing ∨
          ∃ cause, x.state = .ended cause ∧ x.endPending = true ∧ e.mark = .ended cause x.startPending)) ∧
      (t.entries u).Pairwise (fun a b => a.track.slot < b.track.slot)) ∧
  (∀ (s : State) (u : Surface) (cause : ContactCause) (time : Time), s.tracks.shaped →
      let report : ContactReport := ⟨u, cause, s.tracks.entries u⟩
      (ordinaryCount s.queue < 28 ∧ s.queue.length < 32 → s.offerContact time report = { s with
        queue := s.queue ++ [⟨time, .contact report, false⟩]
        tracks := { s.tracks with slots := s.tracks.slots.set u ((s.tracks.slots.get u).map announcedSlot) } }) ∧
      (28 ≤ ordinaryCount s.queue ∨ 32 ≤ s.queue.length → s.offerContact time report = s)) ∧
  (∀ (s : State) (u : Surface),
      let qualifies := (∃ x, some x ∈ s.tracks.slots.get u ∧
          ((x.state = .active ∨ x.state = .missing) ∧ x.startPending = true ∨ ∃ cause, x.state = .ended cause)) ∧
        (∀ w ∈ s.engine.waitList, w.surface ≠ u) ∧ ∀ o, s.engine.op = some o → o.surface ≠ u
      (qualifies → s.catchUp u = s.offerContact s.now ⟨u, .catchUp, s.tracks.entries u⟩) ∧
        (¬ qualifies → s.catchUp u = s)) ∧
  ∀ (s : State) (o : Operation) (f : ReadyFrame), s.engine.op = some o → o.held = false →
    o.work = .frame f → o.snap.state = .live → s.gestures.digests.length < 4 → s.tables.commit = none →
    let r := liveWork o.snap o.surface f
    let report : ContactReport :=
      ⟨o.surface, .frame f.frame, (liveTable s.tracks o.surface o.snap r).entries o.surface⟩
    let builds := contactMode o.snap.tables.tune = 0 ∨ (∃ e ∈ report.entries, e.mark ≠ .ongoing) ∨
      ∃ p ∈ r.before.zip r.after, movedHere (slop o.snap.tables.tune) p.1 p.2 = true ∨
        (classChanged p.1 p.2 = true ∧ ∃ x, p.2 = some x ∧ x.mark ≠ none)
    let table := liveTable s.tracks o.surface o.snap r
    s.tracks.shaped → o.snap.tracks.shaped →
    ∃ (t : State) (notices : List Notice), exec .frameOperationComplete s = .next t ∧
      (builds → ordinaryCount s.queue < 28 → s.queue.length < 32 → t.queue =
          s.queue ++ [⟨f.time, .contact report, false⟩] ++ notices.map (fun n => ⟨s.now, .notice n, false⟩) ∧
        t.tracks = { table with
          slots := table.slots.set o.surface ((table.slots.get o.surface).map announcedSlot) }) ∧
      (¬ builds ∨ 28 ≤ ordinaryCount s.queue ∨ 32 ≤ s.queue.length → t.queue =
          s.queue ++ notices.map (fun n => ⟨s.now, .notice n, false⟩) ∧
        t.tracks = table)

/-! ## The pen (06) -/

/-- A valid sample: the held sample is replaced, brought into range; a tip-down puts the pen in INK, removes
the guard and on entry hands over a PEN_INK; a tip-up puts it in HOVER and on an exit from inking sets the
guard; the PEN report is recovered when the pen was coasting.
The NOTICEs of what rises stand after the event's other records (log 6). -/
def Obligations.ValidPenSamples : Prop :=
  ∀ (s : State) (flags : Byte) (x y p : Half) (tx ty q : Byte), s.pinHeld = false →
    s.link.part = .run → s.entry.penEnable = true → s.intake.panel.state ≠ .off →
    flags.getLsbD 0 = true → penQualityMin s.tune ≤ q.toNat →
    let held : PenHeld :=
      { pos := ⟨min x.toNat 3008, min y.toNat 1856⟩, pressure := min p.toNat 4095,
        tiltX := max (-60) (min 60 tx.toInt), tiltY := max (-60) (min 60 ty.toInt),
        barrel := flags.getLsbD 2, eraser := flags.getLsbD 3, invert := flags.getLsbD 4, quality := q.toNat }
    let coasting := s.pen.mode == .coast .hover || s.pen.mode == .coast .ink
    let inking := s.pen.mode == .ink || s.pen.mode == .coast .ink
    (flags.getLsbD 1 = true →
      let down := State.offerPen { s with pen := { s.pen with
          mode := .ink, held := held, coast := 0, guard := none } } ⟨.ink, held, false, coasting⟩
      exec (.penSample flags x y p tx ty q) s = .next (State.noticeRises s
        (if s.pen.mode = .ink then down else { down with gestures := { down.gestures with
          penInk := some ⟨held.pos, held.pressure, s.now, s.now⟩ } }))) ∧
    (flags.getLsbD 1 = false →
      exec (.penSample flags x y p tx ty q) s = .next (State.noticeRises s
        (State.offerPen { s with pen := { s.pen with
            mode := .hover, held := held, coast := 0,
            guard := if inking then
                (if penGuardMs s.tune = 0 then none
                  else some (s.now + BitVec.ofNat 32 (penGuardMs s.tune * 100)))
              else s.pen.guard } } ⟨.hover, held, false, coasting⟩)))

/-- An invalid sample: nothing in OUT, a coast of count 1 from HOVER and INK, one more in COAST, and at
*pen_coast_limit* the pen is lost: OUT, counted, reported with the held sample (the report itself is lost
while the queue has no room for it), the guard set when the coast began in INK. -/
def Obligations.InvalidPenSamples : Prop :=
  ∀ (s : State) (flags : Byte) (x y p : Half) (tx ty q : Byte), s.pinHeld = false →
    s.link.part = .run → s.entry.penEnable = true → s.intake.panel.state ≠ .off →
    (flags.getLsbD 0 = false ∨ q.toNat < penQualityMin s.tune) →
    (s.pen.mode = .out → exec (.penSample flags x y p tx ty q) s = .next s) ∧
    (s.pen.mode = .hover → exec (.penSample flags x y p tx ty q) s =
      .next { s with pen := { s.pen with mode := .coast .hover, coast := 1 } }) ∧
    (s.pen.mode = .ink → exec (.penSample flags x y p tx ty q) s =
      .next { s with pen := { s.pen with mode := .coast .ink, coast := 1 } }) ∧
    ∀ origin, s.pen.mode = .coast origin →
      (s.pen.coast + 1 < penCoastLimit s.tune → exec (.penSample flags x y p tx ty q) s =
        .next { s with pen := { s.pen with coast := s.pen.coast + 1 } }) ∧
      (penCoastLimit s.tune ≤ s.pen.coast + 1 →
        let out : PenTracker := { s.pen with
          mode := .out, coast := 0, lost := min (s.pen.lost + 1) 65535,
          guard := if origin = .ink then
              (if penGuardMs s.tune = 0 then none
                else some (s.now + BitVec.ofNat 32 (penGuardMs s.tune * 100)))
            else s.pen.guard }
        (hasRoom s.queue = true → exec (.penSample flags x y p tx ty q) s = .next { s with
          pen := out
          queue := s.queue ++ [⟨s.now, .pen ⟨.out, s.pen.held, true, false⟩, false⟩] }) ∧
        (hasRoom s.queue = false → ∃ t : State, exec (.penSample flags x y p tx ty q) s = .next t ∧
          t = { s with pen := out, queue := t.queue, link := t.link } ∧
          t.link = { s.link with loss := true, owed := t.link.owed } ∧ s.queue <+: t.queue))

/-- A pen guard deadline that is reached is removed and nothing else of the part changes; the guard is
present only outside inking, so it is reached in HOVER, in OUT or in COAST entered from HOVER. The pad quiet signal
is on while the deadline is present, and in INK when the current posture's entry has its flag set, else off. -/
def Obligations.GuardExpiresOutsideInking : Prop :=
  (∀ (s : State) (d : Time), s.pen.guard = some d → (s.now - d).toNat < 2 ^ 31 →
      exec .penGuardExpiry s = .next { s with pen := { s.pen with guard := none } }) ∧
    (∀ s t : State, s.guardSound → step s = .next t → t.guardSound) ∧
    ∀ s : State, s.padQuiet = true ↔ s.pen.guard ≠ none ∨
      (s.pen.mode = .ink ∧ (s.tables.active.postureEntry s.posture).padQuietOnInk = true)

/-- The pen shadow is absent in OUT, and otherwise a rectangle within the panel that holds the held position;
the left hand's is the right hand's mirrored about the pen before it is clamped. A live panel completion whose
snapshot held a shadow lets each track that became PALM unforced, in slot order, vote by its side of that
snapshot's pen: right adds 1 and left takes 1 away, within -8 to 8; no other completion changes the vote. -/
def Obligations.ShadowHoldsThePen : Prop :=
  (∀ s : State, s.pen.held.pos.x ≤ 3008 → s.pen.held.pos.y ≤ 1856 →
    (s.shadow = none ↔ s.pen.mode = .out) ∧
      ∀ r, s.shadow = some r →
        r.holds s.pen.held.pos = true ∧ r.x1 ≤ 3008 ∧ r.y1 ≤ 1856 ∧
        (handedness s.tune = 0 ∨ (handedness s.tune = 2 ∧ 0 ≤ s.pen.vote) →
          r.x0 = s.pen.held.pos.x - shadowLead s.tune ∧
            r.x1 = min (s.pen.held.pos.x + shadowReach s.tune) 3008) ∧
        (handedness s.tune = 1 ∨ (handedness s.tune = 2 ∧ s.pen.vote < 0) →
          r.x0 = s.pen.held.pos.x - shadowReach s.tune ∧
            r.x1 = min (s.pen.held.pos.x + shadowLead s.tune) 3008) ∧
        r.y0 = s.pen.held.pos.y - shadowUp s.tune ∧
        r.y1 = min (s.pen.held.pos.y + shadowDown s.tune) 1856) ∧
  ∀ (sn : Snapshot) (u : Surface) (vote : Int) (before after : List (Option Track)), before.length = 10 →
    after.length = 10 → -8 ≤ vote → vote ≤ 8 →
    let palms := (List.range 10).filterMap fun i => (after.getD i none).bind fun y =>
      let x := before.getD i none
      if y.cls = .palm ∧ y.forced = false ∧ ¬ (goesOn x (some y) = true ∧ x.map Track.cls = some .palm) then
        some y.pos.x else none
    (u = .panel → sn.shadow ≠ none → voteAfter sn u vote before after = palms.foldl
        (fun (v : Int) x => if sn.penPos.x < x then min 8 (v + 1) else if x < sn.penPos.x then max (-8) (v - 1) else v)
        vote) ∧
      (u = .pad ∨ sn.shadow = none → voteAfter sn u vote before after = vote) ∧
      -8 ≤ voteAfter sn u vote before after ∧ voteAfter sn u vote before after ≤ 8

/-! ## Postures (07) -/

/-- POSTURE in code form sets the posture its code names, and refuses a value that names none; in angle form the
angle, 360 at most, becomes the last angle, and the posture stays within its widened band, else moves to the
posture whose band holds the angle, else is held. A change makes its NOTICE and applies the new entry; the
DONE carries the posture, the angle and whether it changed. The NOTICEs of FAULT and report loss rising stand
after the change's other records and before the DONE (log 6). -/
def Obligations.PostureCommandsSetThePosture : Prop :=
  (∀ (s : State) (tag : Byte) (v : Half), s.takes →
      (5 ≤ v.toNat → exec (.postureCode tag v) s = .next (s.replied tag 0x08 (.refused .range) [])) ∧
      (v.toNat = s.posture.code → exec (.postureCode tag v) s =
        .next (s.replied tag 0x08 .done ([byteOf s.posture.code] ++ natBytes2 s.angle ++ [0]))) ∧
      ∀ p : Posture, v.toNat = p.code → p ≠ s.posture →
        exec (.postureCode tag v) s = .next (State.done
          (State.noticeRises s (State.applyEntry
            ({ s with linkOut := .zeros, posture := p }.offerNotice (.posture p s.angle))))
          tag 0x08 ([byteOf p.code] ++ natBytes2 s.angle ++ [1]))) ∧
  (∀ (s : State) (tag : Byte) (v : Half), s.takes →
      let a := min v.toNat 360
      let e := s.entry
      let stays := ¬ (e.bandMin = 0 ∧ e.bandMax = 0) ∧ e.bandMin ≤ a + angleHysteresis s.tune ∧
        a ≤ e.bandMax + angleHysteresis s.tune
      let holds (p : Posture) := ¬ ((s.tables.active.postureEntry p).bandMin = 0 ∧
          (s.tables.active.postureEntry p).bandMax = 0) ∧
        (s.tables.active.postureEntry p).bandMin ≤ a ∧ a ≤ (s.tables.active.postureEntry p).bandMax
      let kept := exec (.postureAngle tag v) s = .next ({ s with angle := a }.replied tag 0x08 .done
        ([byteOf s.posture.code] ++ natBytes2 a ++ [0]))
      (stays → kept) ∧ ((∀ p, ¬ holds p) → kept) ∧
        ∀ p, ¬ stays → holds p → (∀ q, holds q → q = p) → p ≠ s.posture →
          exec (.postureAngle tag v) s = .next (State.done
            (State.noticeRises { s with angle := a }
              (State.applyEntry ({ s with linkOut := .zeros, angle := a, posture := p }.offerNotice (.posture p a))))
            tag 0x08 ([byteOf p.code] ++ natBytes2 a ++ [1])))

/-- A surface that the new posture disables is shut at once: a closing request with outcome OFF waits for it,
its ready frame and its deadline are gone, its state is unchanged; one that is OFF is left alone, but for one
whose closing was turned to ACQUIRE and has not completed, which gets its request too. A surface that it
enables in RUN leaves OFF for ACQUIRE, or has its closings turned to ACQUIRE (log 12: the disabling and the second
enabling of a surface that is OFF with turned closings), or is left as it is with its waiting items, and outside
RUN its intake is. -/
def Obligations.PosturesTurnTheirSurfaces : Prop :=
  ∀ (s t : State) (tag : Byte) (v : Half) (p : Posture) (u : Surface), s.takes → v.toNat = p.code →
    p ≠ s.posture → exec (.postureCode tag v) s = .next t →
    let enabled := (s.tables.active.postureEntry p).enablesSurface u
    t.posture = p ∧ t.angle = s.angle ∧
    (enabled = false → (s.intake.get u).state ≠ .off ∨ s.closings u .acquire = true →
      t.waitsFor u .off ∧ t.shut u = true ∧ (t.intake.get u).ready = none ∧
        (t.intake.get u).timeout = none ∧ (t.intake.get u).state = (s.intake.get u).state) ∧
    (enabled = false → (s.intake.get u).state = .off → s.closings u .acquire = false →
      t.intake.get u = s.intake.get u) ∧
    (enabled = true → s.link.part = .run → s.offClosings u = true →
      t.offClosings u = false ∧ t.intake.get u = s.intake.get u) ∧
    (enabled = true → s.link.part = .run → s.offClosings u = false → (s.intake.get u).state = .off →
      (t.intake.get u).state = .acquire ∧ (t.intake.get u).errorRun = 0) ∧
    (enabled = true → s.link.part = .run → s.offClosings u = false → (s.intake.get u).state ≠ .off →
      t.intake.get u = s.intake.get u ∧ t.engine.waitList.filter (fun w => w.surface == u) =
        s.engine.waitList.filter (fun w => w.surface == u)) ∧
    (enabled = true → s.link.part ≠ .run → t.intake.get u = s.intake.get u) ∧
    ((s.tables.active.postureEntry p).penEnable = false → t.pen.mode = .out ∧ t.pen.guard = none)

/-! ## The gesture engine and the motion unit (08, 09) -/

/-- WATCH appends a new pair of a template to 15 and a state 1 to 32 while fewer than four are listed, merges
a listed pair, and refuses the rest; UNWATCH removes the pair; each is answered at once. -/
def Obligations.WatchListCommands : Prop :=
  ∀ (s : State) (tag i st : Byte), s.takes →
    let w : Watch := ⟨i.toNat, st.toNat⟩
    let good := i.toNat ≤ 15 ∧ 1 ≤ st.toNat ∧ st.toNat ≤ 32
    (¬ good → exec (.watch tag i st) s = .next (s.replied tag 0x0B (.refused .range) [])) ∧
    (good → w ∈ s.gestures.watch → exec (.watch tag i st) s = .next (s.replied tag 0x0B .done [])) ∧
    (good → w ∉ s.gestures.watch → s.gestures.watch.length < 4 → exec (.watch tag i st) s =
      .next (State.replied { s with gestures := { s.gestures with watch := s.gestures.watch ++ [w] } }
        tag 0x0B .done [])) ∧
    (good → w ∉ s.gestures.watch → 4 ≤ s.gestures.watch.length →
      exec (.watch tag i st) s = .next (s.replied tag 0x0B (.refused .full) [])) ∧
    (∀ a b, s.gestures.watch = a ++ w :: b → w ∉ a → exec (.unwatch tag i st) s =
      .next (State.replied { s with gestures := { s.gestures with watch := a ++ b } } tag 0x0C .done [])) ∧
    (w ∉ s.gestures.watch → exec (.unwatch tag i st) s = .next (s.replied tag 0x0C .done []))

/-- The free engine takes a waiting item that no other became waiting before, unless the program switch is due;
a digest, an expiry and a PEN_INK are handled whole and change nothing outside the engine, the motion unit,
the tracks' owners and the report queue; the digest stays in hand until its handling ends and then leaves the
queue (log 9). Moments are compared across the wrap of part time (log 10). Otherwise nothing is taken, and the
row changes nothing (log 2). A digest places the claims of its surface's contexts, delivers its track events in
order, and then FRAME and the motion work to each context of the surface; an expiry delivers TIMER, its deadline
gone; PEN_INK goes to each panel context. An event that no context claims is dropped; a LIFT and a CANCEL take the
claim away first, and a CANCEL that no row answers ends the context. The first row in table order that answers an
event does its actions in order and sets its next state, 0 ending the context, a watched new state making a
SNAPSHOT; with no such row nothing changes. A TOUCHDOWN is dropped out of RUN; in RUN it goes to the candidates by
priority until its track is claimed, then to the enabled templates by priority, of which one that claims it starts
a context in the lowest free slot; a template with no row for it leaves nothing but its serial taken; with no slot
free, or none that claims it, the track stays unowned. -/
def Obligations.EngineItemsAreTaken : Prop :=
  ((∀ (s : State) (d : Digest) (rest : List Digest), s.gestures.digests = d :: rest →
        s.mayTakeItem d.joined = true →
        let place (e : ClaimEntry) : ClaimEntry := match d.positions.find? (fun p => p.track == e.track) with
          | some p => { e with pos := p.pos, dx := p.dx, dy := p.dy }
          | none => { e with dx := 0, dy := 0 }
        let placed : State := { s with gestures := { s.gestures with
          inHand := true
          contexts := s.gestures.contexts.map fun r => r.map fun c =>
            if (s.tables.active.template c.template).surface = d.surface.code then
              { c with claims := c.claims.map place } else c } }
        let told := d.events.foldl (State.trackEvent d.surface d.time) placed
        let running := (List.range 6).filter fun k => (told.context k).any fun c =>
          (told.tables.active.template c.template).surface == d.surface.code
        let handled := match d.kind with
          | .closing => told
          | .frame => running.foldl (fun a k =>
              ((a.deliver k (plainEvent .frame d.time)).pointerFrame d.time k).accumulateFrame d.time k) told
        ∃ t : State, exec .digestTaken s = .next t ∧ t = State.noticeRises s handled ∧
          t.gestures.inHand = true ∧ t.gestures.digests = s.gestures.digests ∧ s.engineKeeps t) ∧
      (∀ s : State, s.gestures.inHand = true → exec .digestHandlingEnd s = .next
        { s with gestures := { s.gestures with digests := s.gestures.digests.tail, inHand := false } }) ∧
      (∀ (s : State) (p : PenInk), s.gestures.penInk = some p → s.mayTakeItem p.handed = true →
        let taken := { s with gestures := { s.gestures with penInk := none } }
        let running := (List.range 6).filter fun k => (s.context k).any fun c =>
          (s.tables.active.template c.template).surface == 1
        ∃ t : State, exec .penInkTaken s = .next t ∧ t = State.noticeRises s
            (running.foldl (fun a k => a.deliver k (plainEvent .penInk p.time)) taken) ∧
          t.gestures.penInk = none ∧ t.gestures.digests = s.gestures.digests ∧ s.engineKeeps t) ∧
      ∀ (s : State) (k : Nat) (c : Context) (timer : ContextTimer) (w : Time), s.context k = some c →
        c.timer = some timer → timer.waiting = some w → s.mayTakeItem w = true →
        let taken := s.setContext k (some { c with timer := none })
        ∃ t : State, exec (.timerExpiryTaken k) s = .next t ∧
          t = State.noticeRises s (taken.deliver k (plainEvent .timer timer.deadline)) ∧
          t.gestures.digests = s.gestures.digests ∧ s.engineKeeps t ∧
          (s.firesNone { c with timer := none } (plainEvent .timer timer.deadline) → t = taken)) ∧
  ((∀ (s : State) (m : Time), s.mayTakeItem m = true ↔ s.gestures.inHand = false ∧ s.switchDue = false ∧
        ∀ w ∈ s.waitingMoments, ¬ (w ≠ m ∧ (m - w).toNat < 2 ^ 31)) ∧
      (∀ s : State, (∀ d ∈ s.gestures.digests.head?, s.mayTakeItem d.joined = false) →
        exec .digestTaken s = .next s) ∧
      (∀ s : State, (∀ p ∈ s.gestures.penInk, s.mayTakeItem p.handed = false) →
        exec .penInkTaken s = .next s) ∧
      (∀ (s : State) (k : Nat), (∀ c timer w, s.context k = some c → c.timer = some timer →
          timer.waiting = some w → s.mayTakeItem w = false) → exec (.timerExpiryTaken k) s = .next s) ∧
      ∀ s : State, s.gestures.inHand = false → exec .digestHandlingEnd s = .next s) ∧
  (∀ (s : State) (k : Nat) (e : Event), (s.context k = none → s.deliver k e = s) ∧
      ∀ c, s.context k = some c → (s.firesNone c e → s.deliver k e = s) ∧
        ∀ row, s.firesFirst c e row →
          let acted := row.actions.foldl (fun a x => a.act k e x) s
          ∃ c', acted.context k = some c' ∧ c'.template = c.template ∧ c'.serial = c.serial ∧
            (row.next = 0 → s.deliver k e = acted.endContext e.time k) ∧
            (row.next ≠ 0 → row.next = row.fromState → s.deliver k e = acted) ∧
            (row.next ≠ 0 → row.next ≠ row.fromState →
              let now := { c' with state := row.next }
              let entered := acted.setContext k (some now)
              s.deliver k e = if (⟨c.template, row.next⟩ : Watch) ∈ s.gestures.watch then
                  entered.offerSnapshot e.time ⟨k, e.kind, e.track, now, acted.holds k c.serial⟩
                else entered)) ∧
  (∀ (row : Row) (c : Context) (e : Event), row.answers c e = true ↔ row.fromState = c.state ∧
      row.event = e.kind.code ∧ ∃ g, guardOf row.guard row.operand = some g ∧ g.holds c e = true) ∧
  (∀ (c : Context) (e : Event),
      let since := if (e.time - c.anchorTime).toNat < 2 ^ 31 then (e.time - c.anchorTime).toNat else 0
      Guard.holds .none c e = true ∧
      (∀ n, (Guard.holds (.countEq n) c e = true ↔ c.claims.length = n) ∧
        (Guard.holds (.countGe n) c e = true ↔ n ≤ c.claims.length) ∧
        (Guard.holds (.elapsedLt n) c e = true ↔ since < n * 100) ∧
        (Guard.holds (.elapsedGe n) c e = true ↔ n * 100 ≤ since) ∧
        (Guard.holds (.movedLt n) c e = true ↔ 0 < n ∧ ∀ x ∈ c.claims, sqDist x.pos x.anchor < n ^ 2) ∧
        (Guard.holds (.movedGe n) c e = true ↔ n = 0 ∨ ∃ x ∈ c.claims, n ^ 2 ≤ sqDist x.pos x.anchor) ∧
        (Guard.holds (.tapsEq n) c e = true ↔ c.taps = n) ∧
        (Guard.holds (.spreadGe n) c e = true ↔ ∃ x y rest, c.claims = x :: y :: rest ∧
          n ≤ ((Nat.sqrt (sqDist x.pos y.pos) : Int) - c.anchorSpread).natAbs)) ∧
      ∀ mask, Guard.holds (.zoneIn mask) c e = true ↔ ∃ z, e.zone = some z ∧ mask.getLsbD z = true) ∧
  (∀ (s : State) (u : Surface) (time : Time) (r : TrackRef),
      ((∀ k c, s.context k = some c → c.claimsTrack r = false) →
        s.trackEvent u time (.lift r) = s ∧ s.trackEvent u time (.cancel r) = s ∧
        s.trackEvent u time (.reclass r none) = s ∧ ∀ p, s.trackEvent u time (.move r p) = s) ∧
      (∀ k c front x back, s.context k = some c → c.claims = front ++ x :: back → x.track = r →
        (∀ y ∈ front ++ back, y.track ≠ r) →
        (∀ j d, j < k → s.context j = some d → d.claimsTrack r = false) →
        let meets (kind : EventKind) : Event := ⟨kind, time, some r, x.pos, some x.zone⟩
        let gone := s.claimGone k c r (front ++ back)
        let left := { c with claims := front ++ back }
        s.trackEvent u time (.lift r) = gone.deliver k (meets .lift) ∧
        (s.firesNone left (meets .cancel) → s.trackEvent u time (.cancel r) = gone.endContext time k) ∧
        (∀ row, s.firesFirst left (meets .cancel) row →
          s.trackEvent u time (.cancel r) = gone.deliver k (meets .cancel)) ∧
        s.trackEvent u time (.reclass r none) = s.deliver k (meets .reclass) ∧
        ∀ p, s.trackEvent u time (.move r p) = s.deliver k (meets .move)) ∧
      ∀ from_ : ContextRef,
        (s.runs from_ → s.trackEvent u time (.reclass r (some from_)) =
          s.deliver from_.slot ⟨.reclass, time, some r, ⟨0, 0⟩, none⟩) ∧
        (¬ s.runs from_ → s.trackEvent u time (.reclass r (some from_)) = s)) ∧
  ∀ (s : State) (time : Time) (d : Touch), s.gestures.contexts.length = 6 →
    let offered := s.trackEvent d.surface time (.touchdown d.track d.cls d.pos d.zone)
    let e : Event := ⟨.touchdown, time, some d.track, d.pos, some d.zone⟩
    let priority (i : Nat) := (s.tables.active.template i).priority
    let suits (t : Template) := t.surface = d.surface.code ∧ t.zones.getLsbD d.zone = true ∧
      inClasses t.classes d.cls = true
    let start (i n : Nat) : Context := ⟨i, n, 1, [], time, time, 0, none, 0, none, none⟩
    let serials (n : Nat) := (fun m : Nat => if 65535 ≤ m then 1 else m + 1)^[n] s.gestures.serial
    let declined (ks : List Nat) := ∀ k ∈ ks, ∀ c, s.context k = some c → s.firesNone c e
    let unclaimed := declined (s.offerOrder d) ∧ s.claimed d.track = false ∧ s.link.part = .run
    (s.link.part ≠ .run → offered = s) ∧
    ((∀ k, k ∈ s.offerOrder d ↔ ∃ c, s.context k = some c ∧ suits (s.tables.active.template c.template) ∧
        c.claims.length < (s.tables.active.template c.template).maxTracks) ∧
      (s.offerOrder d).Pairwise fun j k => ∀ a b, s.context j = some a → s.context k = some b →
        priority b.template < priority a.template ∨ (priority a.template = priority b.template ∧ j < k)) ∧
    ((∀ i, i ∈ s.qualifying d ↔ i < s.tables.active.templates.length ∧ s.entry.templates.getLsbD i = true ∧
        suits (s.tables.active.template i)) ∧
      (s.qualifying d).Pairwise fun i j => priority j < priority i ∨ (priority i = priority j ∧ i < j)) ∧
    (∀ front k back, s.offerOrder d = front ++ k :: back → declined front → s.claimed d.track = false →
      s.link.part = .run → (s.deliver k e).claimed d.track = true → offered = s.deliver k e) ∧
    (unclaimed → (∀ r ∈ s.gestures.contexts, r ≠ none) → offered = s) ∧
    (unclaimed → (∃ r ∈ s.gestures.contexts, r = none) →
      (∀ i ∈ s.qualifying d, s.firesNone (start i 0) e) →
      offered = { s with gestures := { s.gestures with serial := serials (s.qualifying d).length } }) ∧
    (∀ front i back k row rest x, unclaimed → s.qualifying d = front ++ i :: back →
      (∀ j ∈ front, s.firesNone (start j 0) e) → s.firesFirst (start i 0) e row →
      row.actions = .claim :: rest → (∀ a ∈ rest, a ≠ .claim ∧ a ≠ .release ∧ a ≠ .releaseAll) → row.next ≠ 0 →
      1 ≤ (s.tables.active.template i).maxTracks → k < 6 → s.context k = none →
      (∀ j, j < k → s.context j ≠ none) → s.tracks.at d.track.slot = some x → x.id = d.track.id →
      x.state = .active ∨ x.state = .missing → x.cls ≠ .palm → x.owner = none →
      ∃ c, offered.context k = some c ∧ c.template = i ∧ c.serial = serials front.length ∧ c.state = row.next ∧
        c.startTime = time ∧ c.claims = [⟨d.track, d.pos, d.pos, d.zone, 0, 0⟩] ∧
        offered.gestures.serial = serials (front.length + 1) ∧
        offered.tracks = s.tracks.put d.track.slot (some { x with owner := some k }) ∧
        ∀ j, j ≠ k → offered.context j = s.context j) ∧
    (s.claimed d.track = false →
      (∀ x, s.tracks.at d.track.slot = some x → x.id ≠ d.track.id ∨ x.cls = .palm ∨ x.state = .tentative ∨
        ∃ cause, x.state = .ended cause) → offered.claimed d.track = false)

/-- A deadline that is reached takes its effect: a frame timeout fails a surface in ACQUIRE or LIVE, with its
NOTICE and a closing request of outcome NONE; a palm entry is removed, the entries behind it moving up; a
context's expiry becomes waiting from its deadline. Before it is reached nothing changes (log 2).
The NOTICEs of what rises stand after the event's other records (log 6). -/
def Obligations.ReachedDeadlinesTakeEffect : Prop :=
  (∀ (s : State) (u : Surface) (d : Time), (s.intake.get u).timeout = some d →
      ((s.now - d).toNat < 2 ^ 31 → (s.intake.get u).state = .acquire ∨ (s.intake.get u).state = .live →
        exec (.frameTimeout u) s = .next (State.noticeRises s
          (((s.onIntake u fun i => { i with state := .failed, timeout := none, ready := none }).setWaitList
            (s.engine.waitList.filter (fun w => !w.isFrame u) ++
              (if s.closingWaits u = true then [] else [⟨s.now, u, .closing .none⟩]))).surfaceNotice u))) ∧
      (2 ^ 31 ≤ (s.now - d).toNat → exec (.frameTimeout u) s = .next s)) ∧
  ((∀ (s : State) (n : Nat) (e : PalmEntry) (d : Time), s.palm[n]? = some e → e.deadline = some d →
        ((s.now - d).toNat < 2 ^ 31 →
          exec (.palmMemoryExpiry n) s = .next { s with palm := s.palm.take n ++ s.palm.drop (n + 1) }) ∧
        (2 ^ 31 ≤ (s.now - d).toNat → exec (.palmMemoryExpiry n) s = .next s)) ∧
      ∀ (s : State) (k : Nat) (c : Context) (d : Time), s.context k = some c → c.timer = some ⟨d, none⟩ →
        ((s.now - d).toNat < 2 ^ 31 → exec (.timerDeadlineReached k) s = .next { s with
          gestures := { s.gestures with
            contexts := s.gestures.contexts.set k (some { c with timer := some ⟨d, some d⟩ }) } }) ∧
        (2 ^ 31 ≤ (s.now - d).toNat → exec (.timerDeadlineReached k) s = .next s))

/-- The program switch, when it is due, ends every context, drops a waiting PEN_INK and makes the staged
program active, with its lengths; the commit ends with it when nothing else of it has to switch. A switch that
is not due changes nothing (log 2). -/
def Obligations.ProgramSwitchesWhenDrained : Prop :=
  (∀ (s : State) (c : CommitRecord), s.gestures.switchWaiting = true → s.gestures.inHand = false →
      s.gestures.digests = [] → s.tables.commit = some c → s.gestures.contexts.length = 6 →
      ∃ t : State, exec .programSwitch s = .next t ∧
        t.gestures.contexts = List.replicate 6 none ∧ t.gestures.penInk = none ∧
        t.gestures.switchWaiting = false ∧ t.gestures.watch = s.gestures.watch ∧
        t.gestures.serial = s.gestures.serial ∧
        t.tables.active = { s.tables.active with
          templates := s.tables.staging.templates, rows := s.tables.staging.rows } ∧
        t.tables.staging = s.tables.staging ∧
        (c.frameSide = KindSet.empty → t.tables.commit = none ∧ t.tables.dirty = KindSet.empty) ∧
        (c.frameSide ≠ KindSet.empty → t.tables.commit = some { c with program := false } ∧
          t.tables.dirty = s.tables.dirty)) ∧
    ∀ s : State, s.gestures.switchWaiting = false ∨ s.gestures.inHand = true ∨ s.gestures.digests ≠ [] →
      exec .programSwitch s = .next s

/-- A claim is granted for an unowned ACTIVE or MISSING track that is not PALM while the context has room, and
then sets the track's owner and stands last among the claims, at the event's position and touchdown zone
(log 24 for an event that has no such zone); otherwise nothing changes. Contexts end whole:
the slot is free, no button and no pointer is left with the context, and its claims have lost their owner; its claims
go first, then its pointer, then its buttons with one record, then an open gesture with its CANCEL. An
action does to its context what its table says, and to nothing else. RELEASE takes the event's track from the claims,
RELEASE_ALL each, oldest first. ANCHOR takes the event time, the claims' positions and the two oldest claims'
distance. TIMER_SET sets the deadline, waiting at once if it is reached (log 19). EMIT offers its GESTURE; a
BEGIN over an open gesture makes that one's CANCEL first. POINTER_ON gives the pointer to the oldest claim when nobody
holds it, the context itself does, or a holder of lower priority. BUTTON presses a released button and
releases the context's own, with a click record; any other does nothing. -/
def Obligations.ClaimsFollowTheirContexts : Prop :=
  (∀ (s : State) (k : Nat) (c : Context) (e : Event) (r : TrackRef), s.context k = some c →
      e.track = some r →
      let fits := c.claimsTrack r = false ∧
        c.claims.length < (s.tables.active.template c.template).maxTracks
      (∀ x, fits → s.tracks.at r.slot = some x → x.id = r.id → x.state = .active ∨ x.state = .missing →
        x.cls ≠ .palm → x.owner = none →
        s.claim k e = State.setContext
          { s with tracks := s.tracks.put r.slot (some { x with owner := some k }) } k
          (some { c with claims := c.claims ++ [⟨r, e.pos, e.pos, e.zone.getD 0, 0, 0⟩] })) ∧
      (¬ fits → s.claim k e = s) ∧
      (∀ x, s.tracks.at r.slot = some x → x.id ≠ r.id ∨ x.cls = .palm ∨ x.owner ≠ none ∨ x.state = .tentative ∨
        (∃ cause, x.state = .ended cause) → s.claim k e = s) ∧
      (s.tracks.at r.slot = none → s.claim k e = s)) ∧
  (∀ (s : State) (time : Time) (k : Nat) (c : Context), k < 6 → s.gestures.contexts.length = 6 →
      s.context k = some c →
      let t := s.endContext time k
      t.context k = none ∧ (∀ b ∈ t.motion.buttons, b ≠ some (⟨k, c.serial⟩ : ContextRef)) ∧
        (∀ p, t.motion.pointer = some p → p.holder ≠ (⟨k, c.serial⟩ : ContextRef)) ∧
        (∀ e ∈ c.claims, ∀ x, t.tracks.at e.track.slot = some x → x.id = e.track.id → x.owner ≠ some k) ∧
        ∀ j, j ≠ k → t.context j = s.context j) ∧
  (∀ (s : State) (k : Nat) (c : Context) (e : Event), s.context k = some c →
      let me : ContextRef := ⟨k, c.serial⟩
      let changed (c' : Context) : State := s.setContext k (some c')
      let record (code : Nat) (phase : Phase) : GestureReport :=
        ⟨code, phase, k, c.template, c.claims.map fun x => x.track.id, ⟨0, false, false⟩, ⟨0, false, false⟩⟩
      let clicked (a : State) (buttons : List (Option ContextRef)) : State :=
        State.offerPointer { a with motion := { a.motion with buttons := buttons } } e.time
          ⟨0, 0, buttons.map Option.isSome, true⟩
      let priority (x : Context) := (s.tables.active.template x.template).priority
      let letGo : State := { s with motion := { s.motion with pointer := none, residueX := 0, residueY := 0 } }
      ((∀ r, e.track = some r → c.claimsTrack r = false → s.act k e .release = s) ∧
        (∀ r front x back, e.track = some r → c.claims = front ++ x :: back → x.track = r →
          (∀ y ∈ front ++ back, y.track ≠ r) → s.act k e .release = s.claimGone k c r (front ++ back)) ∧
        s.act k e .releaseAll =
          c.claims.foldl (fun a x => a.act k { e with track := some x.track } .release) s) ∧
      (s.act k e .anchor = changed { c with
            anchorTime := e.time
            claims := c.claims.map fun x => { x with anchor := x.pos }
            anchorSpread := match c.claims with
              | x :: y :: _ => Nat.sqrt (sqDist x.pos y.pos)
              | _ => 0 } ∧
        (∀ ms : Nat, let deadline := e.time + BitVec.ofNat 32 (ms * 100)
          s.act k e (.timerSet ms) = changed { c with
            timer := some ⟨deadline, if (s.now - deadline).toNat < 2 ^ 31 then some s.now else none⟩ }) ∧
        s.act k e .timerStop = changed { c with timer := none } ∧
        s.act k e .tap = changed { c with taps := min (c.taps + 1) 15 } ∧
        s.act k e .tapClear = changed { c with taps := 0 } ∧
        (∀ axis, s.act k e (.accStart axis) = changed { c with acc := some ⟨axis, ⟨0, .none⟩, ⟨0, .none⟩⟩ }) ∧
        s.act k e .accStop = changed { c with acc := none }) ∧
      (∀ code,
        (c.openCode = none → s.act k e (.emit .begin code) =
          (s.offerGesture e.time (record code .begin)).setContext k (some { c with openCode := some code })) ∧
        (∀ old, c.openCode = some old → s.act k e (.emit .begin code) =
          ((s.offerGesture e.time (record old .cancel)).offerGesture e.time (record code .begin)).setContext k
            (some { c with openCode := some code })) ∧
        s.act k e (.emit .update code) = s.offerGesture e.time (record code .update) ∧
        s.act k e (.emit .end_ code) =
          (s.offerGesture e.time (record code .end_)).setContext k (some { c with openCode := none })) ∧
      ((c.claims = [] → s.act k e .pointerOn = s) ∧
        (∀ x rest, c.claims = x :: rest →
          let taken : State :=
            { s with motion := { s.motion with pointer := some ⟨me, x.track⟩, residueX := 0, residueY := 0 } }
          (s.motion.pointer = none → s.act k e .pointerOn = taken) ∧
          (∀ p, s.motion.pointer = some p → p.holder = me → s.act k e .pointerOn = taken) ∧
          ∀ p h, s.motion.pointer = some p → p.holder ≠ me → s.context p.holder.slot = some h →
            h.serial = p.holder.serial →
            (priority h < priority c → s.act k e .pointerOn = taken) ∧
              (priority c ≤ priority h → s.act k e .pointerOn = s)) ∧
        (∀ p, s.motion.pointer = some p → p.holder = me → s.act k e .pointerOff = letGo) ∧
        ((∀ p, s.motion.pointer = some p → p.holder ≠ me) → s.act k e .pointerOff = s)) ∧
      ∀ (i : Nat) (press : Bool), i < 3 →
        (press = true → s.motion.buttons[i]? = some none →
          s.act k e (.button (i + 1) press) = clicked s (s.motion.buttons.set i (some me))) ∧
        (press = false → s.motion.buttons[i]? = some (some me) →
          s.act k e (.button (i + 1) press) = clicked s (s.motion.buttons.set i none)) ∧
        ∀ presser, s.motion.buttons[i]? = some presser → (press = true → presser ≠ none) →
          (press = false → presser ≠ some me) → s.act k e (.button (i + 1) press) = s) ∧
  ∀ (s : State) (k : Nat) (c : Context) (e : Event), s.context k = some c →
    let me : ContextRef := ⟨k, c.serial⟩
    let freed : State := State.act (s.act k e .releaseAll) k e .pointerOff
    let buttons := freed.motion.buttons.map fun b => if b = some me then none else b
    let unpressed : State := if some me ∈ freed.motion.buttons then
        State.offerPointer { freed with motion := { freed.motion with buttons := buttons } } e.time
          ⟨0, 0, buttons.map Option.isSome, true⟩
      else freed
    (c.openCode = none → s.endContext e.time k = unpressed.setContext k none) ∧
      ∀ code, c.openCode = some code → s.endContext e.time k =
        (unpressed.offerGesture e.time ⟨code, .cancel, k, c.template, c.claims.map fun x => x.track.id,
          ⟨0, false, false⟩, ⟨0, false, false⟩⟩).setContext k none

/-- Scaling keeps the fraction: 1024 times the count and the new residue make up the scaled value, unless the
count is clamped and the residue 0. A gain is the first knot's up to its speed, the last knot's from its own
on, and between two knots lies between their gains. An accumulator ends a FRAME below *detent*, its steps
within -127 to 127, and unless clamped the steps and the remainder make up what was accumulated. -/
def Obligations.MotionKeepsItsFractions : Prop :=
  (∀ d gain residue : Int,
      let r := scaleAxis d gain residue
      let scaled := d * gain + residue
      (-2047 ≤ r.1) ∧ r.1 ≤ 2047 ∧ r.2.natAbs ≤ 1023 ∧
        (scaled.natAbs < 2048 * 1024 → 1024 * r.1 + r.2 = scaled ∧ 0 ≤ r.2 * scaled) ∧
        (2048 * 1024 ≤ scaled → r = (2047, 0)) ∧ (scaled ≤ -(2048 * 1024) → r = (-2047, 0))) ∧
  (∀ (knots : List Knot) (v : Nat), knots.Pairwise (fun a b => a.speed < b.speed) →
      (∀ a rest, knots = a :: rest → v ≤ a.speed → gainOf v knots = a.gain) ∧
      (∀ front b, knots = front ++ [b] → b.speed ≤ v → gainOf v knots = b.gain) ∧
      ∀ front a b rest, knots = front ++ a :: b :: rest → a.speed ≤ v → v < b.speed →
        (v = a.speed → gainOf v knots = a.gain) ∧
        min (a.gain : Int) b.gain ≤ gainOf v knots ∧ gainOf v knots ≤ max (a.gain : Int) b.gain) ∧
  (∀ (a : AxisAcc) (detentUnits slopUnits : Nat) (mean : Int), 1 ≤ detentUnits →
      let r := a.accumulate detentUnits slopUnits mean
      let turned := ((a.last = .positive ∧ mean < 0) ∨ (a.last = .negative ∧ 0 < mean)) ∧ slopUnits ≤ mean.natAbs
      r.1.value.natAbs < detentUnits ∧ r.2.steps.natAbs ≤ 127 ∧ (r.2.reversed = true ↔ turned) ∧
        (r.2.clamped = false →
          r.1.value + r.2.steps * detentUnits = (if turned then mean else a.value + mean)) ∧
        (r.2.clamped = true → r.1.value = 0 ∧ r.2.steps.natAbs = 127) ∧
        (0 < r.2.steps → r.1.last = .positive) ∧ (r.2.steps < 0 → r.1.last = .negative))

/-- A SNAPSHOT record is admitted while there is room for an ordinary record, and else discarded with report loss
set. A GESTURE that finds no room takes the place of the oldest record that may go, and is lost where none may. A
hover record replaces a hover record at the tail that is not begun; otherwise, with no room, it is dropped, and
any other PEN record is lost. A POINTER record takes in the unsent motion and is absorbed by the newest POINTER
record that is not begun, unless both carry the click mark; else it is admitted, or held as unsent motion,
which a departure offers again. -/
def Obligations.AdmissionsChangeTheQueue : Prop :=
  (∀ (s : State) (time : Time) (r : SnapshotReport),
      (ordinaryCount s.queue < 28 → s.queue.length < 32 →
        s.offerSnapshot time r = { s with queue := s.queue ++ [⟨time, .snapshot r, false⟩] }) ∧
      (28 ≤ ordinaryCount s.queue ∨ 32 ≤ s.queue.length →
        s.offerSnapshot time r = { s with link := { s.link with loss := true } })) ∧
  (∀ (s : State) (time : Time) (g : GestureReport),
      let fresh : Record := ⟨time, .gesture g, false⟩
      let room := ordinaryCount s.queue < 28 ∧ s.queue.length < 32
      (room → s.offerGesture time g = { s with queue := s.queue ++ [fresh] }) ∧
      (∀ a r b, ¬ room → s.queue = a ++ r :: b → r.mayGo → (∀ x ∈ a, ¬ x.mayGo) →
        s.offerGesture time g = { s with queue := a ++ b ++ [fresh] }) ∧
      (¬ room → (∀ r ∈ s.queue, ¬ r.mayGo) →
        s.offerGesture time g = { s with link := { s.link with loss := true } })) ∧
  (∀ (s : State) (r : PenReport),
      let room := ordinaryCount s.queue < 28 ∧ s.queue.length < 32
      let admitted := { s with queue := s.queue ++ [⟨s.now, .pen r, false⟩] }
      let replaces (old : PenReport) := ∃ q time, s.queue = q ++ [⟨time, .pen old, false⟩] ∧ old.shown = .hover
      (∀ q time old, r.shown = .hover → s.queue = q ++ [⟨time, .pen old, false⟩] → old.shown = .hover →
        s.offerPen r = { s with queue := q ++
          [⟨s.now, .pen { r with recovered := r.recovered || old.recovered }, false⟩] }) ∧
      (r.shown = .hover → (∀ old, ¬ replaces old) →
        (room → s.offerPen r = admitted) ∧ (¬ room → s.offerPen r = s)) ∧
      (r.shown ≠ .hover → (room → s.offerPen r = admitted) ∧
        (¬ room → s.offerPen r = { s with link := { s.link with loss := true } }))) ∧
  (∀ (s : State) (time : Time) (m : Motion),
      let new := match s.motion.unsent with
        | none => m
        | some old => joinedMotion old m
      let taken := { s with motion := { s.motion with unsent := none } }
      let room := ordinaryCount s.queue < 28 ∧ s.queue.length < 32
      let absorbs (old : Motion) := ∃ a r b, s.queue = a ++ r :: b ∧ r.begun = false ∧
        r.payload = .pointer old ∧ (∀ x ∈ b, ¬ x.maySoak) ∧ ¬ (old.click = true ∧ new.click = true)
      (∀ a r b old, s.queue = a ++ r :: b → r.begun = false → r.payload = .pointer old →
        (∀ x ∈ b, ¬ x.maySoak) → ¬ (old.click = true ∧ new.click = true) →
        s.offerPointer time m =
          { taken with queue := a ++ ⟨time, .pointer (joinedMotion old new), false⟩ :: b }) ∧
      ((∀ old, ¬ absorbs old) →
        (room → s.offerPointer time m =
          { taken with queue := s.queue ++ [⟨time, .pointer new, false⟩] }) ∧
        (¬ room → s.offerPointer time m =
          { s with motion := { s.motion with unsent := some new } }))) ∧
  ∀ s : State, (s.motion.unsent = none → s.offerUnsent = s) ∧
    ∀ m, s.motion.unsent = some m → s.offerUnsent =
      State.offerPointer { s with motion := { s.motion with unsent := none } } s.now m

/-! ## Tables (10) -/

/-- LOAD: BUSY while a commit is pending; REFUSED(RANGE) for an unknown part, entries that are not whole or a
range that does not fit; else the entries are written into staging alone, its kind is dirty, and the entries
of TUNE, ZONE, CURVE and the rows read back byte for byte. -/
def Obligations.LoadsWriteStaging : Prop :=
  (∀ (s : State) (tag kind part : Byte) (offset : Half) (entries : List Byte), s.takes →
      (s.tables.commit ≠ none →
        exec (.load tag kind part offset entries) s = .next (s.replied tag 0x01 .busy [])) ∧
      (s.tables.commit = none →
        (∀ p, partOf kind.toNat part.toNat = some p → ¬ (p.entryBytes ∣ entries.length ∧
          s.tables.staging.rangeFits p offset.toNat (entries.length / p.entryBytes))) →
        exec (.load tag kind part offset entries) s = .next (s.replied tag 0x01 (.refused .range) [])) ∧
      ∀ (p : Part) (es : List (List Byte)), s.tables.commit = none →
        partOf kind.toNat part.toNat = some p → entries = es.flatten →
        (∀ e ∈ es, e.length = p.entryBytes) → s.tables.staging.rangeFits p offset.toNat es.length →
        exec (.load tag kind part offset entries) s = .next (State.replied
          { s with tables := { s.tables with
              staging := s.tables.staging.write p offset.toNat es
              dirty := s.tables.dirty.add p.kind } } tag 0x01 .done [])) ∧
    ∀ (t : Tables) (p : Part) (n : Nat) (es : List (List Byte)), (∀ e ∈ es, e.length = p.entryBytes) →
      (p ∈ [Part.tune, .zonePad, .zonePanel, .curve, .rows] → (t.write p n es).partEntries p =
        if es = [] ∧ p = .rows then (t.partEntries p).take n
        else (t.partEntries p).take n ++ es ++ (t.partEntries p).drop (n + es.length)) ∧
      ((t.write p n es).partLength p =
        if es = [] ∧ p.capacity ≠ none then min n (t.partLength p)
        else min n (t.partLength p) + es.length + (t.partLength p - (n + es.length))) ∧
      ∀ q, q ≠ p → (t.write p n es).partEntries q = t.partEntries q

/-- DISCARD: BUSY while a commit is pending, and otherwise staging is the active copy again with nothing dirty,
and it is answered DONE; with nothing dirty that changes nothing, since a kind that is not dirty, or that a
pending commit has switched, has equal copies, which every step keeps. -/
def Obligations.DiscardsRestoreStaging : Prop :=
  (∀ (s : State) (tag : Byte), s.takes →
      (s.tables.commit ≠ none → exec (.discard tag) s = .next (s.replied tag 0x02 .busy [])) ∧
      (s.tables.commit = none → exec (.discard tag) s = .next (State.replied
        { s with tables := { s.tables with staging := s.tables.active, dirty := ⟨false, false, false, false, false, false⟩ } }
        tag 0x02 .done [])) ∧
      (s.tables.commit = none → s.tables.dirty = ⟨false, false, false, false, false, false⟩ → s.cleanSound →
        exec (.discard tag) s = .next (s.replied tag 0x02 .done []))) ∧
  (∀ s t : State, s.cleanSound → step s = .next t → t.cleanSound)

/-- CHECK only answers: the dirty kinds bit by bit, whether each of them is valid, the first failure, and how
many TUNE values lie outside their ranges when TUNE is dirty. -/
def Obligations.ChecksReportAndChangeNothing : Prop :=
  ∀ (s : State) (tag : Byte), s.takes →
    ∃ mask failed count : Byte, ∃ fields : List Byte,
      exec (.check tag) s = .next (s.replied tag 0x03 .done ([mask, failed] ++ fields ++ [count])) ∧
      (∀ k : Kind, mask.getLsbD k.code = s.tables.dirty.has k) ∧
      (failed = 0 ∧ fields = [0, 0, 0, 0, 0, 0] ∧
          (∀ k, s.tables.dirty.has k = true → validateKind s.tables.staging k = none) ∨
        ∃ k f, failed = 1 ∧ fields = f.bytes ∧ s.tables.dirty.has k = true ∧
          validateKind s.tables.staging k = some f ∧
          ∀ j, j.code < k.code → s.tables.dirty.has j = true → validateKind s.tables.staging j = none) ∧
      count = byteOf (if s.tables.dirty.tune then
        (s.tables.staging.tune.zip tuneRanges).countP fun p => decide (p.1 < p.2.lo ∨ p.2.hi < p.1) else 0)

/-- COMMIT: BUSY while one is pending, DONE with nothing dirty, REFUSED(INVALID) with the first failure; else
accepted: TUNE clamped in staging, every dirty kind switched at once and the commit over in HOLD, the
frame-side kinds switched at once outside HOLD with an idle engine, and nothing switched while an operation
is in flight; PROGRAM outside HOLD waits for the gesture engine. A completion with a commit pending, at once or
after being held, has the effects it has without one, and then switches the frame-side kinds still to switch,
whole; a switched POSTURE table applies the current posture's new entry, with no NOTICE of a posture change; and
when PROGRAM has not to switch the commit ends with its DONE (log 6: the NOTICEs of what rises stand before it).
What the new entry does to a surface is the rules' (R114 to R116, R118) but for the model's choice of log 12: in RUN
an enabled surface that is OFF with turned closings enters ACQUIRE at once, also at a switch with the same enables,
where R13 has it wait and R118 has no effect; one that is OFF with a closing of outcome OFF has it turned and stays
OFF; and a disabled surface that is OFF with a turned closing gets its OFF request. -/
def Obligations.CommitsSwitchTheDirtyKinds : Prop :=
  (∀ (s : State) (o : Operation) (c : CommitRecord) (i : Instr), s.engine.op = some o →
    s.tables.commit = some c →
    ((i = .frameOperationComplete ∧ o.held = false ∧ (o.makesDigest = false ∨ s.gestures.digests.length < 4)) ∨
      (i = .heldOperationComplete ∧ o.held = true ∧ s.gestures.digests.length < 4)) →
    let switched (a : State) : State := { a with tables := { s.tables with
      active := s.tables.active.takeKinds s.tables.staging c.frameSide
      commit := some { c with frameSide := KindSet.empty } } }
    let ended (a : State) : State :=
      if c.program = true then a
      else State.done { a with tables := { a.tables with dirty := KindSet.empty, commit := none } }
        c.tag 0x04 [byteOf c.clamped, byteOf s.tables.dirty.mask]
    ∃ t : State, exec i { s with tables := { s.tables with commit := none } } = .next t ∧
      (c.frameSide.posture = false → exec i s = .next (ended (switched t))) ∧
      (c.frameSide.posture = true → ∃ a : State, exec i s = .next (ended a) ∧
        a = { (switched t).applyEntry with queue := a.queue, link := a.link } ∧
        a.link = { t.link with loss := a.link.loss, owed := a.link.owed } ∧
        (s.link.loss = true → a = (switched t).applyEntry) ∧ (switched t).entryApplied a ∧
        ∀ r ∈ a.queue, ∀ p n, r.payload = .notice (.posture p n) → r ∈ s.queue)) ∧
  (∀ (a b : Tables) (ks : KindSet) (k : Kind),
    (a.takeKinds b ks).takeKind (if ks.has k = true then b else a) k = a.takeKinds b ks) ∧
  ∀ (s : State) (tag : Byte), s.takes →
    let clamped := if s.tables.dirty.tune then clampCount s.tables.staging.tune else 0
    let staged := if s.tables.dirty.tune then
      { s.tables.staging with tune := clampedTune s.tables.staging.tune } else s.tables.staging
    let valid := ∀ k, s.tables.dirty.has k = true → validateKind s.tables.staging k = none
    let answer : Record := ⟨s.now, .reply ⟨tag, 0x04, .done, [byteOf clamped, byteOf s.tables.dirty.mask]⟩, false⟩
    (s.tables.commit ≠ none → exec (.commit tag) s = .next (s.replied tag 0x04 .busy [])) ∧
    (s.tables.commit = none → (∀ k, s.tables.dirty.has k = false) →
      exec (.commit tag) s = .next (s.replied tag 0x04 .done [0, 0])) ∧
    (∀ k f, s.tables.commit = none → s.tables.dirty.has k = true →
      validateKind s.tables.staging k = some f →
      (∀ j, j.code < k.code → s.tables.dirty.has j = true → validateKind s.tables.staging j = none) →
      exec (.commit tag) s = .next (s.replied tag 0x04 (.refused .invalid) f.bytes)) ∧
    (s.tables.commit = none → (∃ k, s.tables.dirty.has k = true) → valid → s.link.part = .hold →
      ∃ t : State, exec (.commit tag) s = .next t ∧
        t.tables = ⟨s.tables.active.takeKinds staged s.tables.dirty, staged, KindSet.empty, none⟩ ∧
        (answer ∈ t.queue ∨ answer ∈ t.link.waiting)) ∧
    (s.tables.commit = none → (∃ k, s.tables.dirty.has k = true) → valid → s.link.part ≠ .hold →
      s.engine.op ≠ none →
      exec (.commit tag) s = .next { s with
        linkOut := .zeros
        tables := { s.tables with
          staging := staged
          commit := some ⟨tag, s.tables.dirty.frameSide, s.tables.dirty.program, clamped⟩ }
        gestures := { s.gestures with switchWaiting := s.tables.dirty.program } }) ∧
    (s.tables.commit = none → (∃ k, s.tables.dirty.has k = true) → valid → s.link.part ≠ .hold →
      s.engine.op = none →
      ∃ t : State, exec (.commit tag) s = .next t ∧
        t.gestures.switchWaiting = s.tables.dirty.program ∧
        t.tables.active = s.tables.active.takeKinds staged s.tables.dirty.frameSide ∧
        t.tables.staging = staged ∧
        (s.tables.dirty.program = true → t.tables.commit = some ⟨tag, KindSet.empty, true, clamped⟩ ∧
          t.tables.dirty = s.tables.dirty) ∧
        (s.tables.dirty.program = false → t.tables.commit = none ∧ t.tables.dirty = KindSet.empty ∧
          (answer ∈ t.queue ∨ answer ∈ t.link.waiting)))

/-- The active tables stay valid, TUNE within its ranges: kept by every step, with what it takes of staging
and a pending commit. -/
def Obligations.ActiveTablesStayValid : Prop :=
  ∀ s t : State, s.tablesSound → step s = .next t → t.tablesSound

/-! ## Control (11.5, 11.6, 02 R30) -/

/-- RUN in HOLD enters RUN and takes each surface that the posture enables to ACQUIRE, pad first, each with its
NOTICE, and is answered DONE after them; what finds the queue full is owed, or waits. STOP in RUN enters
STOPPING with its tag kept, shuts both surfaces with closing requests of outcome OFF and takes the pen out;
the drained engine completes it: every context ends, the part enters HOLD, a pending commit ends and STOP is
answered. RUN in RUN and STOP in HOLD are answered DONE, both in STOPPING BUSY. A stop that has not drained does
not complete, and its row changes nothing (log 2). -/
def Obligations.RunAndStopChangeThePartState : Prop :=
  (∀ (s : State) (tag : Byte), s.takes →
      (s.link.part = .run → exec (.run tag) s = .next (s.replied tag 0x05 .done [])) ∧
      (s.link.part = .stopping → exec (.run tag) s = .next (s.replied tag 0x05 .busy [])) ∧
      (s.link.part = .hold → ∃ t : State, exec (.run tag) s = .next t ∧
        t = { s with linkOut := .zeros, intake := t.intake, queue := t.queue, link := t.link } ∧
        t.link = { s.link with part := .run, waiting := t.link.waiting, owed := t.link.owed } ∧
        ((∀ u, (s.intake.get u).state = .off) →
          let room := 32 - s.queue.length
          let notices := s.runNotices
          let answer : Record := ⟨s.now, .reply ⟨tag, 0x05, .done, []⟩, false⟩
          t.queue = s.queue ++ (notices.take room).map (fun n => ⟨s.now, .notice n, false⟩) ++
              (if notices.length < room then [answer] else []) ∧
            t.link.waiting = s.link.waiting ++ (if notices.length < room then [] else [answer]) ∧
            t.link.owed = (notices.drop room).foldl Owed.add s.link.owed) ∧
        (∀ u, s.entry.enablesSurface u = false → t.intake.get u = s.intake.get u) ∧
        ∀ u, s.entry.enablesSurface u = true → t.intake.get u = { s.intake.get u with
          state := .acquire, errorRun := 0,
          timeout := if frameTimeoutMs s.tune = 0 then none
            else some (s.now + BitVec.ofNat 32 (frameTimeoutMs s.tune * 100)) })) ∧
  ((∀ (s : State) (tag : Byte), s.takes →
        (s.link.part = .hold → exec (.stop tag) s = .next (s.replied tag 0x06 .done [])) ∧
        (s.link.part = .stopping → exec (.stop tag) s = .next (s.replied tag 0x06 .busy [])) ∧
        (s.link.part = .run → ∃ t : State, exec (.stop tag) s = .next t ∧
          t.link.part = .stopping ∧ t.link.stopTag = some tag ∧ t.pen.mode = .out ∧ t.pen.guard = none ∧
          (∀ u, t.waitsFor u .off ∧ t.shut u = true ∧ (t.intake.get u).ready = none ∧
            (t.intake.get u).timeout = none ∧ (t.intake.get u).state = (s.intake.get u).state) ∧
          (s.pen.mode = .out → t.queue = s.queue) ∧ t.engine.op = s.engine.op ∧ t.tables = s.tables ∧
          t.gestures = s.gestures ∧ t.motion = s.motion ∧ t.tracks = s.tracks ∧ t.palm = s.palm)) ∧
      (∀ (s : State) (tag : Byte), s.link.part = .stopping → s.engine.op = none → s.link.stopTag = some tag →
        (¬ ∃ w ∈ s.engine.waitList, ∃ o, w.work = .closing o) → s.gestures.contexts.length = 6 →
        s.motionHeld →
        ∃ t : State, exec .stopComplete s = .next t ∧ t.link.part = .hold ∧ t.link.stopTag = none ∧
          t.gestures.contexts = List.replicate 6 none ∧ t.gestures.penInk = none ∧
          t.gestures.inHand = false ∧ t.gestures.digests =
            (if s.gestures.inHand then s.gestures.digests.tail else s.gestures.digests) ∧
          t.motion.pointer = none ∧ (∀ b ∈ t.motion.buttons, b = none) ∧ t.tables.commit = none ∧
          ∃ r ∈ t.queue ++ t.link.waiting, r = ⟨s.now, .reply ⟨tag, 0x06, .done, []⟩, false⟩) ∧
      ∀ s : State, s.link.part ≠ .stopping ∨ s.engine.op ≠ none ∨
        (∃ w ∈ s.engine.waitList, ∃ o, w.work = .closing o) → exec .stopComplete s = .next s)

/-- ABORT in RUN or STOPPING winds the part down at once: the engine empty, both surfaces OFF, no open track,
no palm entry, acquire states cleared, the pen OUT, no context, no pressed button, HOLD, no commit; the counters,
the baselines, the watch list, the posture and the digests waiting behind the one in hand are kept; STOP's DONE,
when it was owed, and ABORT's are made. In HOLD it only answers. -/
def Obligations.AbortsWindDownAtOnce : Prop :=
  ∀ (s : State) (tag : Byte), s.takes →
    (s.link.part = .hold → exec (.abort tag) s = .next (s.replied tag 0x07 .done [])) ∧
    (s.link.part ≠ .hold → s.gestures.contexts.length = 6 → s.motionHeld →
      ∃ t : State, exec (.abort tag) s = .next t ∧ t.engine = ⟨[], none⟩ ∧ t.palm = [] ∧
        t.pen = { s.pen with mode := .out, coast := 0, guard := none } ∧
        t.gestures.contexts = List.replicate 6 none ∧ t.gestures.penInk = none ∧
        t.gestures.inHand = false ∧ t.gestures.digests =
          (if s.gestures.inHand then s.gestures.digests.tail else s.gestures.digests) ∧
        t.motion.pointer = none ∧ (∀ b ∈ t.motion.buttons, b = none) ∧
        t.link.part = .hold ∧ t.link.stopTag = none ∧ t.tables.commit = none ∧ t.now = s.now ∧
        t.tracks.nextId = s.tracks.nextId ∧ t.tracks.overflow = s.tracks.overflow ∧
        t.link.badWrites = s.link.badWrites ∧ t.link.droppedWrites = s.link.droppedWrites ∧
        t.link.cause = s.link.cause ∧ t.link.resetSeen = s.link.resetSeen ∧
        t.gestures.serial = s.gestures.serial ∧ t.gestures.watch = s.gestures.watch ∧
        t.posture = s.posture ∧ t.angle = s.angle ∧
        (∀ u, t.intake.get u =
            { s.intake.get u with ready := none, state := .off, timeout := none } ∧
          t.tracks.closed u ∧
          t.base.get u = { s.base.get u with acquired := 0, drift := 0 } ∧
          t.blobOverflow.get u = s.blobOverflow.get u) ∧
        (∃ r ∈ t.queue ++ t.link.waiting, r = ⟨s.now, .reply ⟨tag, 0x07, .done, []⟩, false⟩) ∧
        ∀ stopTag, s.link.stopTag = some stopTag →
          ∃ r ∈ t.queue ++ t.link.waiting, r = ⟨s.now, .reply ⟨stopTag, 0x06, .done, []⟩, false⟩)

/-- RECAL by the state of its surface: recapture of one that is LIVE and not shut, DONE alone for LIVE and
shut and for ACQUIRE, REFUSED(STATE) for OFF and FAILED, REFUSED(RANGE) for no surface. -/
def Obligations.RecalsRecapture : Prop :=
  (∀ (s : State) (tag code : Byte), s.takes → 2 ≤ code.toNat →
      exec (.recal tag code) s = .next (s.replied tag 0x09 (.refused .range) [])) ∧
    ∀ (s : State) (tag : Byte) (u : Surface), s.takes →
      ((s.intake.get u).state = .off ∨ (s.intake.get u).state = .failed →
        exec (.recal tag (byteOf u.code)) s = .next (s.replied tag 0x09 (.refused .state) [])) ∧
      ((s.intake.get u).state = .acquire ∨ ((s.intake.get u).state = .live ∧ s.shut u = true) →
        exec (.recal tag (byteOf u.code)) s = .next (s.replied tag 0x09 .done [])) ∧
      ((s.intake.get u).state = .live → s.shut u = false →
        let t := (State.onIntake { s with linkOut := .zeros } u fun i => { i with
            state := .acquire, ready := none,
            timeout := if frameTimeoutMs s.tune = 0 then none
              else some (s.now + BitVec.ofNat 32 (frameTimeoutMs s.tune * 100)) }).setWaitList
          (s.engine.waitList.filter (fun w => !w.isFrame u) ++
            (if s.closingWaits u = true then [] else [⟨s.now, u, .closing .none⟩]))
        exec (.recal tag (byteOf u.code)) s = .next ((t.surfaceNotice u).done tag 0x09 []))

/-- CLEAR sets its counters to 0, clears the report-loss flag and RESET_SEEN, is answered DONE and changes
nothing else. -/
def Obligations.ClearsResetTheCounters : Prop :=
  ∀ (s : State) (tag : Byte), s.takes → exec (.clear tag) s = .next (State.replied
    { s with
      intake := ⟨{ s.intake.pad with errorRun := 0, discarded := 0, overruns := 0, taken := 0 },
        { s.intake.panel with errorRun := 0, discarded := 0, overruns := 0, taken := 0 }⟩
      blobOverflow := ⟨0, 0⟩
      tracks := { s.tracks with overflow := ⟨0, 0⟩ }
      pen := { s.pen with lost := 0 }
      link := { s.link with badWrites := 0, droppedWrites := 0, loss := false, resetSeen := false } }
    tag 0x0D .done [])

/-- Every QUERY only answers: DONE with its selector and the values as they stand, or REFUSED(RANGE) for no
surface, no row, no part, or a first entry beyond the part's length (log 18: whatever the count). -/
def Obligations.QueriesOnlyAnswer : Prop :=
  ∀ (s : State) (tag : Byte), s.takes →
    exec (.queryCondition tag) s = .next (s.replied tag 0x0A .done (0 :: s.conditionBytes)) ∧
    exec (.queryContexts tag) s = .next (s.replied tag 0x0A .done (2 :: s.contextsBytes)) ∧
    exec (.queryPen tag) s = .next (s.replied tag 0x0A .done (3 :: s.penBytes)) ∧
    exec (.queryPosture tag) s = .next (s.replied tag 0x0A .done (4 :: s.postureBytes)) ∧
    (∀ u, exec (.queryTrackTable tag (byteOf u.code)) s =
      .next (s.replied tag 0x0A .done (1 :: s.trackTableBytes u))) ∧
    (∀ code : Byte, 2 ≤ code.toNat →
      exec (.queryTrackTable tag code) s = .next (s.replied tag 0x0A (.refused .range) []) ∧
      ∀ row, exec (.queryBaselineRow tag code row) s =
        .next (s.replied tag 0x0A (.refused .range) [])) ∧
    (∀ u (row : Byte),
      (row.toNat < u.rows → exec (.queryBaselineRow tag (byteOf u.code) row) s =
        .next (s.replied tag 0x0A .done ([5, byteOf u.code, row, byteOf (s.base.get u).acquired,
          byteOf (s.base.get u).drift] ++ ((s.base.get u).values.getD row.toNat []).flatMap natBytes2))) ∧
      (u.rows ≤ row.toNat → exec (.queryBaselineRow tag (byteOf u.code) row) s =
        .next (s.replied tag 0x0A (.refused .range) []))) ∧
    (∀ (kind part : Byte) (first count : Half), partOf kind.toNat part.toNat = none →
      exec (.queryTableRange tag kind part first count) s =
        .next (s.replied tag 0x0A (.refused .range) [])) ∧
    ∀ (kind part : Byte) (first count : Half) (p : Part), partOf kind.toNat part.toNat = some p →
      (first.toNat < s.tables.active.partLength p ∨ s.tables.active.partLength p = 0 →
        ∃ es, exec (.queryTableRange tag kind part first count) s = .next (s.replied tag 0x0A .done
            ([6, kind, part] ++ halfBytes first ++ [byteOf es.length] ++ es.flatten)) ∧
          es = ((s.tables.active.partEntries p).drop first.toNat).take
            (min count.toNat (504 / p.entryBytes))) ∧
      (first.toNat ≥ s.tables.active.partLength p → s.tables.active.partLength p ≠ 0 →
        exec (.queryTableRange tag kind part first count) s =
          .next (s.replied tag 0x0A (.refused .range) []))

/-! ## What every step keeps -/

/-- The report queue never holds more than 32 records nor more than 28 ordinary ones, replies wait only
behind a full queue, and at most three are owed or waiting. -/
def Obligations.QueueStaysWithinItsBounds : Prop :=
  ∀ s t : State, s.queueWithin → s.repliesWithin → step s = .next t → t.queueWithin ∧ t.repliesWithin

/-- Every list keeps to its capacity: four digests, ten slots for each surface, eight palm entries, six
contexts, four watched pairs, three buttons, one ready frame and one closing request for each surface; a
context's claims keep to its template's maximum and to five, and the tracks bound to a palm entry to ten, each
an open PALM track of its surface that is bound once. -/
def Obligations.ListsStayWithinTheirCapacity : Prop :=
  (∀ s t : State, s.listsWithin → step s = .next t → t.listsWithin) ∧
  (∀ s t : State, s.listsWithin → s.windingSound → s.tablesSound → s.claimsWithin → step s = .next t →
    t.claimsWithin) ∧
  ∀ s t : State, s.listsWithin → s.latchSound → s.idsSound → s.boundWithin → step s = .next t →
    t.boundWithin

/-- In HOLD both surfaces stay OFF, no context runs and the engine is idle; outside RUN the pen stays OUT; in
STOPPING each surface is OFF or on its way there; a surface that is OFF has no open track. -/
def Obligations.WindingStaysSound : Prop :=
  ∀ s t : State, s.listsWithin → s.windingSound → step s = .next t → t.windingSound

/-- The residues stay within -1023 to 1023 and the counts of POINTER records and unsent motion within -2047
to 2047; the pointer's holder runs and claims its source, and a pressed button's presser runs. -/
def Obligations.PointerStaysHeldAndWithin : Prop :=
  ∀ s t : State, s.queueWithin → s.motionWithin → s.motionHeld → step s = .next t →
    t.motionWithin ∧ t.motionHeld

/-- The IDs of the slots that are not FREE are distinct and lie within 1 to 255, kept by every step in the track
table and in the snapshot of the operation in flight. An owned track's owner runs and claims it, a claimed
track still in its slot is owned by the context that claims it, and no track is claimed twice, by one context
or by two: kept by every step whose new tracks bear no name that a context still claims. -/
def Obligations.NamesOwnersAndClaimsAgree : Prop :=
  (∀ s t : State, s.listsWithin → s.idsSound → step s = .next t → t.idsSound) ∧
  ∀ s t : State, s.listsWithin → s.idsSound → s.claimsAgree → step s = .next t → s.namesFresh t →
    t.claimsAgree
end

