-- ==== Sys2Proof/Laws/Decode.lean ====
section
/-! SUPPORT. What reading a scan port's bytes can do, said once (R2, R190). -/

namespace Sys2Proof

theorem byteOf_toNat (n : Nat) (h : n ≤ 255) : (byteOf n).toNat = n := by
  simp only [byteOf, BitVec.toNat_ofNat]
  omega

/-- A record whose body fits its length byte is read whole, whatever has arrived after it (R190). -/
theorem readScan_scanRecord (port : Surface) (kind : Byte) (body after : List Byte) (h : body.length ≤ 255) :
    readScan port (scanRecord kind body ++ after) = some (decodeScan port kind body, after) := by
  simp [readScan, scanRecord, byteOf_toNat _ h]

/-- What is read is one whole record, and what is left is what arrived after it (R2, R190). -/
theorem readScan_eq_some (port : Surface) (received after : List Byte) (i : Instr)
    (h : readScan port received = some (i, after)) :
    ∃ kind body, body.length ≤ 255 ∧ received = scanRecord kind body ++ after ∧
      i = decodeScan port kind body := by
  unfold readScan at h
  split at h
  · rename_i kind length rest
    split at h
    · cases h
    · rename_i hl
      simp only [Option.some.injEq, Prod.mk.injEq] at h
      obtain ⟨rfl, rfl⟩ := h
      have hb : (rest.take length.toNat).length = length.toNat := by simp; omega
      refine ⟨kind, rest.take length.toNat, by have := length.isLt; omega, ?_, rfl⟩
      rw [scanRecord, hb, byteOf, BitVec.ofNat_toNat, BitVec.setWidth_eq]
      simp
  · cases h

/-- Nothing is read while the length byte or a byte that it counts is still to come (R2, R190). -/
theorem readScan_take_scanRecord (port : Surface) (kind : Byte) (body : List Byte) (n : Nat)
    (h : body.length ≤ 255) (hn : n < body.length + 2) : readScan port ((scanRecord kind body).take n) = none := by
  match n with
  | 0 => rfl
  | 1 => rfl
  | n + 2 =>
    have := byteOf_toNat _ h
    simp [readScan, scanRecord]
    omega

end Sys2Proof
end

