-- ==== Sys2Proof/Laws/State.lean ====
section
/-! SUPPORT. One lemma for each field of each named update of a state, so that no later proof unfolds a
record update. -/

namespace Sys2Proof.Machine

variable (s : State)

/-! ## One value for each surface -/

@[simp] theorem PerSurface.get_set_same {α : Type} (p : PerSurface α) (u : Surface) (a : α) :
    (p.set u a).get u = a := by cases u <;> rfl

theorem PerSurface.get_set_other {α : Type} (p : PerSurface α) (u v : Surface) (a : α) (h : v ≠ u) :
    (p.set u a).get v = p.get v := by cases u <;> cases v <;> first | rfl | exact absurd rfl h

theorem PerSurface.get_set {α : Type} (p : PerSurface α) (u v : Surface) (a : α) :
    (p.set u a).get v = if v = u then a else p.get v := by cases u <;> cases v <;> rfl

/-! ## `State.onIntake` -/

@[simp] theorem State.onIntake_pending (u : Surface) (f : Intake → Intake) :
    (s.onIntake u f).pending = s.pending := rfl
@[simp] theorem State.onIntake_linkOut (u : Surface) (f : Intake → Intake) :
    (s.onIntake u f).linkOut = s.linkOut := rfl
@[simp] theorem State.onIntake_now (u : Surface) (f : Intake → Intake) : (s.onIntake u f).now = s.now := rfl
@[simp] theorem State.onIntake_pinHeld (u : Surface) (f : Intake → Intake) :
    (s.onIntake u f).pinHeld = s.pinHeld := rfl
@[simp] theorem State.onIntake_intake (u : Surface) (f : Intake → Intake) :
    (s.onIntake u f).intake = s.intake.set u (f (s.intake.get u)) := rfl
@[simp] theorem State.onIntake_blobOverflow (u : Surface) (f : Intake → Intake) :
    (s.onIntake u f).blobOverflow = s.blobOverflow := rfl
@[simp] theorem State.onIntake_engine (u : Surface) (f : Intake → Intake) :
    (s.onIntake u f).engine = s.engine := rfl
@[simp] theorem State.onIntake_base (u : Surface) (f : Intake → Intake) :
    (s.onIntake u f).base = s.base := rfl
@[simp] theorem State.onIntake_tracks (u : Surface) (f : Intake → Intake) :
    (s.onIntake u f).tracks = s.tracks := rfl
@[simp] theorem State.onIntake_palm (u : Surface) (f : Intake → Intake) :
    (s.onIntake u f).palm = s.palm := rfl
@[simp] theorem State.onIntake_pen (u : Surface) (f : Intake → Intake) : (s.onIntake u f).pen = s.pen := rfl
@[simp] theorem State.onIntake_posture (u : Surface) (f : Intake → Intake) :
    (s.onIntake u f).posture = s.posture := rfl
@[simp] theorem State.onIntake_angle (u : Surface) (f : Intake → Intake) :
    (s.onIntake u f).angle = s.angle := rfl
@[simp] theorem State.onIntake_gestures (u : Surface) (f : Intake → Intake) :
    (s.onIntake u f).gestures = s.gestures := rfl
@[simp] theorem State.onIntake_motion (u : Surface) (f : Intake → Intake) :
    (s.onIntake u f).motion = s.motion := rfl
@[simp] theorem State.onIntake_tables (u : Surface) (f : Intake → Intake) :
    (s.onIntake u f).tables = s.tables := rfl
@[simp] theorem State.onIntake_queue (u : Surface) (f : Intake → Intake) :
    (s.onIntake u f).queue = s.queue := rfl
@[simp] theorem State.onIntake_link (u : Surface) (f : Intake → Intake) :
    (s.onIntake u f).link = s.link := rfl

/-! ## `State.setBase` -/

@[simp] theorem State.setBase_pending (u : Surface) (b : Baseline) :
    (s.setBase u b).pending = s.pending := rfl
@[simp] theorem State.setBase_linkOut (u : Surface) (b : Baseline) :
    (s.setBase u b).linkOut = s.linkOut := rfl
@[simp] theorem State.setBase_now (u : Surface) (b : Baseline) : (s.setBase u b).now = s.now := rfl
@[simp] theorem State.setBase_pinHeld (u : Surface) (b : Baseline) :
    (s.setBase u b).pinHeld = s.pinHeld := rfl
@[simp] theorem State.setBase_intake (u : Surface) (b : Baseline) : (s.setBase u b).intake = s.intake := rfl
@[simp] theorem State.setBase_blobOverflow (u : Surface) (b : Baseline) :
    (s.setBase u b).blobOverflow = s.blobOverflow := rfl
@[simp] theorem State.setBase_engine (u : Surface) (b : Baseline) : (s.setBase u b).engine = s.engine := rfl
@[simp] theorem State.setBase_base (u : Surface) (b : Baseline) : (s.setBase u b).base = s.base.set u b := rfl
@[simp] theorem State.setBase_tracks (u : Surface) (b : Baseline) : (s.setBase u b).tracks = s.tracks := rfl
@[simp] theorem State.setBase_palm (u : Surface) (b : Baseline) : (s.setBase u b).palm = s.palm := rfl
@[simp] theorem State.setBase_pen (u : Surface) (b : Baseline) : (s.setBase u b).pen = s.pen := rfl
@[simp] theorem State.setBase_posture (u : Surface) (b : Baseline) :
    (s.setBase u b).posture = s.posture := rfl
@[simp] theorem State.setBase_angle (u : Surface) (b : Baseline) : (s.setBase u b).angle = s.angle := rfl
@[simp] theorem State.setBase_gestures (u : Surface) (b : Baseline) :
    (s.setBase u b).gestures = s.gestures := rfl
@[simp] theorem State.setBase_motion (u : Surface) (b : Baseline) : (s.setBase u b).motion = s.motion := rfl
@[simp] theorem State.setBase_tables (u : Surface) (b : Baseline) : (s.setBase u b).tables = s.tables := rfl
@[simp] theorem State.setBase_queue (u : Surface) (b : Baseline) : (s.setBase u b).queue = s.queue := rfl
@[simp] theorem State.setBase_link (u : Surface) (b : Baseline) : (s.setBase u b).link = s.link := rfl

/-! ## `State.setWaitList` -/

@[simp] theorem State.setWaitList_pending (w : List WaitItem) : (s.setWaitList w).pending = s.pending := rfl
@[simp] theorem State.setWaitList_linkOut (w : List WaitItem) : (s.setWaitList w).linkOut = s.linkOut := rfl
@[simp] theorem State.setWaitList_now (w : List WaitItem) : (s.setWaitList w).now = s.now := rfl
@[simp] theorem State.setWaitList_pinHeld (w : List WaitItem) : (s.setWaitList w).pinHeld = s.pinHeld := rfl
@[simp] theorem State.setWaitList_intake (w : List WaitItem) : (s.setWaitList w).intake = s.intake := rfl
@[simp] theorem State.setWaitList_blobOverflow (w : List WaitItem) :
    (s.setWaitList w).blobOverflow = s.blobOverflow := rfl
@[simp] theorem State.setWaitList_engine (w : List WaitItem) :
    (s.setWaitList w).engine = { s.engine with waitList := w } := rfl
@[simp] theorem State.setWaitList_base (w : List WaitItem) : (s.setWaitList w).base = s.base := rfl
@[simp] theorem State.setWaitList_tracks (w : List WaitItem) : (s.setWaitList w).tracks = s.tracks := rfl
@[simp] theorem State.setWaitList_palm (w : List WaitItem) : (s.setWaitList w).palm = s.palm := rfl
@[simp] theorem State.setWaitList_pen (w : List WaitItem) : (s.setWaitList w).pen = s.pen := rfl
@[simp] theorem State.setWaitList_posture (w : List WaitItem) : (s.setWaitList w).posture = s.posture := rfl
@[simp] theorem State.setWaitList_angle (w : List WaitItem) : (s.setWaitList w).angle = s.angle := rfl
@[simp] theorem State.setWaitList_gestures (w : List WaitItem) :
    (s.setWaitList w).gestures = s.gestures := rfl
@[simp] theorem State.setWaitList_motion (w : List WaitItem) : (s.setWaitList w).motion = s.motion := rfl
@[simp] theorem State.setWaitList_tables (w : List WaitItem) : (s.setWaitList w).tables = s.tables := rfl
@[simp] theorem State.setWaitList_queue (w : List WaitItem) : (s.setWaitList w).queue = s.queue := rfl
@[simp] theorem State.setWaitList_link (w : List WaitItem) : (s.setWaitList w).link = s.link := rfl

/-! ## `State.setOp` -/

@[simp] theorem State.setOp_pending (o : Option Operation) : (s.setOp o).pending = s.pending := rfl
@[simp] theorem State.setOp_linkOut (o : Option Operation) : (s.setOp o).linkOut = s.linkOut := rfl
@[simp] theorem State.setOp_now (o : Option Operation) : (s.setOp o).now = s.now := rfl
@[simp] theorem State.setOp_pinHeld (o : Option Operation) : (s.setOp o).pinHeld = s.pinHeld := rfl
@[simp] theorem State.setOp_intake (o : Option Operation) : (s.setOp o).intake = s.intake := rfl
@[simp] theorem State.setOp_blobOverflow (o : Option Operation) :
    (s.setOp o).blobOverflow = s.blobOverflow := rfl
@[simp] theorem State.setOp_engine (o : Option Operation) :
    (s.setOp o).engine = { s.engine with op := o } := rfl
@[simp] theorem State.setOp_base (o : Option Operation) : (s.setOp o).base = s.base := rfl
@[simp] theorem State.setOp_tracks (o : Option Operation) : (s.setOp o).tracks = s.tracks := rfl
@[simp] theorem State.setOp_palm (o : Option Operation) : (s.setOp o).palm = s.palm := rfl
@[simp] theorem State.setOp_pen (o : Option Operation) : (s.setOp o).pen = s.pen := rfl
@[simp] theorem State.setOp_posture (o : Option Operation) : (s.setOp o).posture = s.posture := rfl
@[simp] theorem State.setOp_angle (o : Option Operation) : (s.setOp o).angle = s.angle := rfl
@[simp] theorem State.setOp_gestures (o : Option Operation) : (s.setOp o).gestures = s.gestures := rfl
@[simp] theorem State.setOp_motion (o : Option Operation) : (s.setOp o).motion = s.motion := rfl
@[simp] theorem State.setOp_tables (o : Option Operation) : (s.setOp o).tables = s.tables := rfl
@[simp] theorem State.setOp_queue (o : Option Operation) : (s.setOp o).queue = s.queue := rfl
@[simp] theorem State.setOp_link (o : Option Operation) : (s.setOp o).link = s.link := rfl

/-! ## `State.setContext` -/

@[simp] theorem State.setContext_pending (k : Nat) (c : Option Context) :
    (s.setContext k c).pending = s.pending := rfl
@[simp] theorem State.setContext_linkOut (k : Nat) (c : Option Context) :
    (s.setContext k c).linkOut = s.linkOut := rfl
@[simp] theorem State.setContext_now (k : Nat) (c : Option Context) : (s.setContext k c).now = s.now := rfl
@[simp] theorem State.setContext_pinHeld (k : Nat) (c : Option Context) :
    (s.setContext k c).pinHeld = s.pinHeld := rfl
@[simp] theorem State.setContext_intake (k : Nat) (c : Option Context) :
    (s.setContext k c).intake = s.intake := rfl
@[simp] theorem State.setContext_blobOverflow (k : Nat) (c : Option Context) :
    (s.setContext k c).blobOverflow = s.blobOverflow := rfl
@[simp] theorem State.setContext_engine (k : Nat) (c : Option Context) :
    (s.setContext k c).engine = s.engine := rfl
@[simp] theorem State.setContext_base (k : Nat) (c : Option Context) : (s.setContext k c).base = s.base := rfl
@[simp] theorem State.setContext_tracks (k : Nat) (c : Option Context) :
    (s.setContext k c).tracks = s.tracks := rfl
@[simp] theorem State.setContext_palm (k : Nat) (c : Option Context) : (s.setContext k c).palm = s.palm := rfl
@[simp] theorem State.setContext_pen (k : Nat) (c : Option Context) : (s.setContext k c).pen = s.pen := rfl
@[simp] theorem State.setContext_posture (k : Nat) (c : Option Context) :
    (s.setContext k c).posture = s.posture := rfl
@[simp] theorem State.setContext_angle (k : Nat) (c : Option Context) :
    (s.setContext k c).angle = s.angle := rfl
@[simp] theorem State.setContext_gestures (k : Nat) (c : Option Context) :
    (s.setContext k c).gestures = { s.gestures with contexts := s.gestures.contexts.set k c } := rfl
@[simp] theorem State.setContext_motion (k : Nat) (c : Option Context) :
    (s.setContext k c).motion = s.motion := rfl
@[simp] theorem State.setContext_tables (k : Nat) (c : Option Context) :
    (s.setContext k c).tables = s.tables := rfl
@[simp] theorem State.setContext_queue (k : Nat) (c : Option Context) :
    (s.setContext k c).queue = s.queue := rfl
@[simp] theorem State.setContext_link (k : Nat) (c : Option Context) : (s.setContext k c).link = s.link := rfl

/-! ## `State.onContext` -/

@[simp] theorem State.onContext_pending (k : Nat) (f : Context → Context) :
    (s.onContext k f).pending = s.pending := rfl
@[simp] theorem State.onContext_linkOut (k : Nat) (f : Context → Context) :
    (s.onContext k f).linkOut = s.linkOut := rfl
@[simp] theorem State.onContext_now (k : Nat) (f : Context → Context) : (s.onContext k f).now = s.now := rfl
@[simp] theorem State.onContext_pinHeld (k : Nat) (f : Context → Context) :
    (s.onContext k f).pinHeld = s.pinHeld := rfl
@[simp] theorem State.onContext_intake (k : Nat) (f : Context → Context) :
    (s.onContext k f).intake = s.intake := rfl
@[simp] theorem State.onContext_blobOverflow (k : Nat) (f : Context → Context) :
    (s.onContext k f).blobOverflow = s.blobOverflow := rfl
@[simp] theorem State.onContext_engine (k : Nat) (f : Context → Context) :
    (s.onContext k f).engine = s.engine := rfl
@[simp] theorem State.onContext_base (k : Nat) (f : Context → Context) :
    (s.onContext k f).base = s.base := rfl
@[simp] theorem State.onContext_tracks (k : Nat) (f : Context → Context) :
    (s.onContext k f).tracks = s.tracks := rfl
@[simp] theorem State.onContext_palm (k : Nat) (f : Context → Context) :
    (s.onContext k f).palm = s.palm := rfl
@[simp] theorem State.onContext_pen (k : Nat) (f : Context → Context) : (s.onContext k f).pen = s.pen := rfl
@[simp] theorem State.onContext_posture (k : Nat) (f : Context → Context) :
    (s.onContext k f).posture = s.posture := rfl
@[simp] theorem State.onContext_angle (k : Nat) (f : Context → Context) :
    (s.onContext k f).angle = s.angle := rfl
@[simp] theorem State.onContext_gestures (k : Nat) (f : Context → Context) :
    (s.onContext k f).gestures = { s.gestures with contexts := updateAt s.gestures.contexts k fun c => c.map f } := rfl
@[simp] theorem State.onContext_motion (k : Nat) (f : Context → Context) :
    (s.onContext k f).motion = s.motion := rfl
@[simp] theorem State.onContext_tables (k : Nat) (f : Context → Context) :
    (s.onContext k f).tables = s.tables := rfl
@[simp] theorem State.onContext_queue (k : Nat) (f : Context → Context) :
    (s.onContext k f).queue = s.queue := rfl
@[simp] theorem State.onContext_link (k : Nat) (f : Context → Context) :
    (s.onContext k f).link = s.link := rfl

/-! ## `State.enqueue` -/

@[simp] theorem State.enqueue_pending (t : Time) (p : Payload) : (s.enqueue t p).pending = s.pending := rfl
@[simp] theorem State.enqueue_linkOut (t : Time) (p : Payload) : (s.enqueue t p).linkOut = s.linkOut := rfl
@[simp] theorem State.enqueue_now (t : Time) (p : Payload) : (s.enqueue t p).now = s.now := rfl
@[simp] theorem State.enqueue_pinHeld (t : Time) (p : Payload) : (s.enqueue t p).pinHeld = s.pinHeld := rfl
@[simp] theorem State.enqueue_intake (t : Time) (p : Payload) : (s.enqueue t p).intake = s.intake := rfl
@[simp] theorem State.enqueue_blobOverflow (t : Time) (p : Payload) :
    (s.enqueue t p).blobOverflow = s.blobOverflow := rfl
@[simp] theorem State.enqueue_engine (t : Time) (p : Payload) : (s.enqueue t p).engine = s.engine := rfl
@[simp] theorem State.enqueue_base (t : Time) (p : Payload) : (s.enqueue t p).base = s.base := rfl
@[simp] theorem State.enqueue_tracks (t : Time) (p : Payload) : (s.enqueue t p).tracks = s.tracks := rfl
@[simp] theorem State.enqueue_palm (t : Time) (p : Payload) : (s.enqueue t p).palm = s.palm := rfl
@[simp] theorem State.enqueue_pen (t : Time) (p : Payload) : (s.enqueue t p).pen = s.pen := rfl
@[simp] theorem State.enqueue_posture (t : Time) (p : Payload) : (s.enqueue t p).posture = s.posture := rfl
@[simp] theorem State.enqueue_angle (t : Time) (p : Payload) : (s.enqueue t p).angle = s.angle := rfl
@[simp] theorem State.enqueue_gestures (t : Time) (p : Payload) : (s.enqueue t p).gestures = s.gestures := rfl
@[simp] theorem State.enqueue_motion (t : Time) (p : Payload) : (s.enqueue t p).motion = s.motion := rfl
@[simp] theorem State.enqueue_tables (t : Time) (p : Payload) : (s.enqueue t p).tables = s.tables := rfl
@[simp] theorem State.enqueue_queue (t : Time) (p : Payload) :
    (s.enqueue t p).queue = s.queue ++ [{ time := t, payload := p, begun := false }] := rfl
@[simp] theorem State.enqueue_link (t : Time) (p : Payload) : (s.enqueue t p).link = s.link := rfl

/-! ## `State.lose` -/

@[simp] theorem State.lose_pending : (s.lose).pending = s.pending := rfl
@[simp] theorem State.lose_linkOut : (s.lose).linkOut = s.linkOut := rfl
@[simp] theorem State.lose_now : (s.lose).now = s.now := rfl
@[simp] theorem State.lose_pinHeld : (s.lose).pinHeld = s.pinHeld := rfl
@[simp] theorem State.lose_intake : (s.lose).intake = s.intake := rfl
@[simp] theorem State.lose_blobOverflow : (s.lose).blobOverflow = s.blobOverflow := rfl
@[simp] theorem State.lose_engine : (s.lose).engine = s.engine := rfl
@[simp] theorem State.lose_base : (s.lose).base = s.base := rfl
@[simp] theorem State.lose_tracks : (s.lose).tracks = s.tracks := rfl
@[simp] theorem State.lose_palm : (s.lose).palm = s.palm := rfl
@[simp] theorem State.lose_pen : (s.lose).pen = s.pen := rfl
@[simp] theorem State.lose_posture : (s.lose).posture = s.posture := rfl
@[simp] theorem State.lose_angle : (s.lose).angle = s.angle := rfl
@[simp] theorem State.lose_gestures : (s.lose).gestures = s.gestures := rfl
@[simp] theorem State.lose_motion : (s.lose).motion = s.motion := rfl
@[simp] theorem State.lose_tables : (s.lose).tables = s.tables := rfl
@[simp] theorem State.lose_queue : (s.lose).queue = s.queue := rfl
@[simp] theorem State.lose_link : (s.lose).link = { s.link with loss := true } := rfl

/-! ## `State.releasePointer` -/

@[simp] theorem State.releasePointer_pending : (s.releasePointer).pending = s.pending := rfl
@[simp] theorem State.releasePointer_linkOut : (s.releasePointer).linkOut = s.linkOut := rfl
@[simp] theorem State.releasePointer_now : (s.releasePointer).now = s.now := rfl
@[simp] theorem State.releasePointer_pinHeld : (s.releasePointer).pinHeld = s.pinHeld := rfl
@[simp] theorem State.releasePointer_intake : (s.releasePointer).intake = s.intake := rfl
@[simp] theorem State.releasePointer_blobOverflow : (s.releasePointer).blobOverflow = s.blobOverflow := rfl
@[simp] theorem State.releasePointer_engine : (s.releasePointer).engine = s.engine := rfl
@[simp] theorem State.releasePointer_base : (s.releasePointer).base = s.base := rfl
@[simp] theorem State.releasePointer_tracks : (s.releasePointer).tracks = s.tracks := rfl
@[simp] theorem State.releasePointer_palm : (s.releasePointer).palm = s.palm := rfl
@[simp] theorem State.releasePointer_pen : (s.releasePointer).pen = s.pen := rfl
@[simp] theorem State.releasePointer_posture : (s.releasePointer).posture = s.posture := rfl
@[simp] theorem State.releasePointer_angle : (s.releasePointer).angle = s.angle := rfl
@[simp] theorem State.releasePointer_gestures : (s.releasePointer).gestures = s.gestures := rfl
@[simp] theorem State.releasePointer_motion :
    (s.releasePointer).motion = { s.motion with pointer := none, residueX := 0, residueY := 0 } := rfl
@[simp] theorem State.releasePointer_tables : (s.releasePointer).tables = s.tables := rfl
@[simp] theorem State.releasePointer_queue : (s.releasePointer).queue = s.queue := rfl
@[simp] theorem State.releasePointer_link : (s.releasePointer).link = s.link := rfl

/-! ## `State.setUnsent` -/

@[simp] theorem State.setUnsent_pending (m : Option Motion) : (s.setUnsent m).pending = s.pending := rfl
@[simp] theorem State.setUnsent_linkOut (m : Option Motion) : (s.setUnsent m).linkOut = s.linkOut := rfl
@[simp] theorem State.setUnsent_now (m : Option Motion) : (s.setUnsent m).now = s.now := rfl
@[simp] theorem State.setUnsent_pinHeld (m : Option Motion) : (s.setUnsent m).pinHeld = s.pinHeld := rfl
@[simp] theorem State.setUnsent_intake (m : Option Motion) : (s.setUnsent m).intake = s.intake := rfl
@[simp] theorem State.setUnsent_blobOverflow (m : Option Motion) :
    (s.setUnsent m).blobOverflow = s.blobOverflow := rfl
@[simp] theorem State.setUnsent_engine (m : Option Motion) : (s.setUnsent m).engine = s.engine := rfl
@[simp] theorem State.setUnsent_base (m : Option Motion) : (s.setUnsent m).base = s.base := rfl
@[simp] theorem State.setUnsent_tracks (m : Option Motion) : (s.setUnsent m).tracks = s.tracks := rfl
@[simp] theorem State.setUnsent_palm (m : Option Motion) : (s.setUnsent m).palm = s.palm := rfl
@[simp] theorem State.setUnsent_pen (m : Option Motion) : (s.setUnsent m).pen = s.pen := rfl
@[simp] theorem State.setUnsent_posture (m : Option Motion) : (s.setUnsent m).posture = s.posture := rfl
@[simp] theorem State.setUnsent_angle (m : Option Motion) : (s.setUnsent m).angle = s.angle := rfl
@[simp] theorem State.setUnsent_gestures (m : Option Motion) : (s.setUnsent m).gestures = s.gestures := rfl
@[simp] theorem State.setUnsent_motion (m : Option Motion) :
    (s.setUnsent m).motion = { s.motion with unsent := m } := rfl
@[simp] theorem State.setUnsent_tables (m : Option Motion) : (s.setUnsent m).tables = s.tables := rfl
@[simp] theorem State.setUnsent_queue (m : Option Motion) : (s.setUnsent m).queue = s.queue := rfl
@[simp] theorem State.setUnsent_link (m : Option Motion) : (s.setUnsent m).link = s.link := rfl

/-! ## `State.setPointer` -/

@[simp] theorem State.setPointer_pending (c : ContextRef) (r : TrackRef) :
    (s.setPointer c r).pending = s.pending := rfl
@[simp] theorem State.setPointer_linkOut (c : ContextRef) (r : TrackRef) :
    (s.setPointer c r).linkOut = s.linkOut := rfl
@[simp] theorem State.setPointer_now (c : ContextRef) (r : TrackRef) : (s.setPointer c r).now = s.now := rfl
@[simp] theorem State.setPointer_pinHeld (c : ContextRef) (r : TrackRef) :
    (s.setPointer c r).pinHeld = s.pinHeld := rfl
@[simp] theorem State.setPointer_intake (c : ContextRef) (r : TrackRef) :
    (s.setPointer c r).intake = s.intake := rfl
@[simp] theorem State.setPointer_blobOverflow (c : ContextRef) (r : TrackRef) :
    (s.setPointer c r).blobOverflow = s.blobOverflow := rfl
@[simp] theorem State.setPointer_engine (c : ContextRef) (r : TrackRef) :
    (s.setPointer c r).engine = s.engine := rfl
@[simp] theorem State.setPointer_base (c : ContextRef) (r : TrackRef) :
    (s.setPointer c r).base = s.base := rfl
@[simp] theorem State.setPointer_tracks (c : ContextRef) (r : TrackRef) :
    (s.setPointer c r).tracks = s.tracks := rfl
@[simp] theorem State.setPointer_palm (c : ContextRef) (r : TrackRef) :
    (s.setPointer c r).palm = s.palm := rfl
@[simp] theorem State.setPointer_pen (c : ContextRef) (r : TrackRef) : (s.setPointer c r).pen = s.pen := rfl
@[simp] theorem State.setPointer_posture (c : ContextRef) (r : TrackRef) :
    (s.setPointer c r).posture = s.posture := rfl
@[simp] theorem State.setPointer_angle (c : ContextRef) (r : TrackRef) :
    (s.setPointer c r).angle = s.angle := rfl
@[simp] theorem State.setPointer_gestures (c : ContextRef) (r : TrackRef) :
    (s.setPointer c r).gestures = s.gestures := rfl
@[simp] theorem State.setPointer_motion (c : ContextRef) (r : TrackRef) :
    (s.setPointer c r).motion = { s.motion with pointer := some { holder := c, source := r }, residueX := 0, residueY := 0 } := rfl
@[simp] theorem State.setPointer_tables (c : ContextRef) (r : TrackRef) :
    (s.setPointer c r).tables = s.tables := rfl
@[simp] theorem State.setPointer_queue (c : ContextRef) (r : TrackRef) :
    (s.setPointer c r).queue = s.queue := rfl
@[simp] theorem State.setPointer_link (c : ContextRef) (r : TrackRef) :
    (s.setPointer c r).link = s.link := rfl

/-! ## `State.setButton` -/

@[simp] theorem State.setButton_pending (i : Nat) (p : Option ContextRef) :
    (s.setButton i p).pending = s.pending := rfl
@[simp] theorem State.setButton_linkOut (i : Nat) (p : Option ContextRef) :
    (s.setButton i p).linkOut = s.linkOut := rfl
@[simp] theorem State.setButton_now (i : Nat) (p : Option ContextRef) : (s.setButton i p).now = s.now := rfl
@[simp] theorem State.setButton_pinHeld (i : Nat) (p : Option ContextRef) :
    (s.setButton i p).pinHeld = s.pinHeld := rfl
@[simp] theorem State.setButton_intake (i : Nat) (p : Option ContextRef) :
    (s.setButton i p).intake = s.intake := rfl
@[simp] theorem State.setButton_blobOverflow (i : Nat) (p : Option ContextRef) :
    (s.setButton i p).blobOverflow = s.blobOverflow := rfl
@[simp] theorem State.setButton_engine (i : Nat) (p : Option ContextRef) :
    (s.setButton i p).engine = s.engine := rfl
@[simp] theorem State.setButton_base (i : Nat) (p : Option ContextRef) :
    (s.setButton i p).base = s.base := rfl
@[simp] theorem State.setButton_tracks (i : Nat) (p : Option ContextRef) :
    (s.setButton i p).tracks = s.tracks := rfl
@[simp] theorem State.setButton_palm (i : Nat) (p : Option ContextRef) :
    (s.setButton i p).palm = s.palm := rfl
@[simp] theorem State.setButton_pen (i : Nat) (p : Option ContextRef) : (s.setButton i p).pen = s.pen := rfl
@[simp] theorem State.setButton_posture (i : Nat) (p : Option ContextRef) :
    (s.setButton i p).posture = s.posture := rfl
@[simp] theorem State.setButton_angle (i : Nat) (p : Option ContextRef) :
    (s.setButton i p).angle = s.angle := rfl
@[simp] theorem State.setButton_gestures (i : Nat) (p : Option ContextRef) :
    (s.setButton i p).gestures = s.gestures := rfl
@[simp] theorem State.setButton_motion (i : Nat) (p : Option ContextRef) :
    (s.setButton i p).motion = { s.motion with buttons := s.motion.buttons.set i p } := rfl
@[simp] theorem State.setButton_tables (i : Nat) (p : Option ContextRef) :
    (s.setButton i p).tables = s.tables := rfl
@[simp] theorem State.setButton_queue (i : Nat) (p : Option ContextRef) :
    (s.setButton i p).queue = s.queue := rfl
@[simp] theorem State.setButton_link (i : Nat) (p : Option ContextRef) :
    (s.setButton i p).link = s.link := rfl

/-! ## `State.handDigest` -/

@[simp] theorem State.handDigest_pending (d : Digest) : (s.handDigest d).pending = s.pending := rfl
@[simp] theorem State.handDigest_linkOut (d : Digest) : (s.handDigest d).linkOut = s.linkOut := rfl
@[simp] theorem State.handDigest_now (d : Digest) : (s.handDigest d).now = s.now := rfl
@[simp] theorem State.handDigest_pinHeld (d : Digest) : (s.handDigest d).pinHeld = s.pinHeld := rfl
@[simp] theorem State.handDigest_intake (d : Digest) : (s.handDigest d).intake = s.intake := rfl
@[simp] theorem State.handDigest_blobOverflow (d : Digest) :
    (s.handDigest d).blobOverflow = s.blobOverflow := rfl
@[simp] theorem State.handDigest_engine (d : Digest) : (s.handDigest d).engine = s.engine := rfl
@[simp] theorem State.handDigest_base (d : Digest) : (s.handDigest d).base = s.base := rfl
@[simp] theorem State.handDigest_tracks (d : Digest) : (s.handDigest d).tracks = s.tracks := rfl
@[simp] theorem State.handDigest_palm (d : Digest) : (s.handDigest d).palm = s.palm := rfl
@[simp] theorem State.handDigest_pen (d : Digest) : (s.handDigest d).pen = s.pen := rfl
@[simp] theorem State.handDigest_posture (d : Digest) : (s.handDigest d).posture = s.posture := rfl
@[simp] theorem State.handDigest_angle (d : Digest) : (s.handDigest d).angle = s.angle := rfl
@[simp] theorem State.handDigest_gestures (d : Digest) :
    (s.handDigest d).gestures = { s.gestures with digests := s.gestures.digests ++ [d] } := rfl
@[simp] theorem State.handDigest_motion (d : Digest) : (s.handDigest d).motion = s.motion := rfl
@[simp] theorem State.handDigest_tables (d : Digest) : (s.handDigest d).tables = s.tables := rfl
@[simp] theorem State.handDigest_queue (d : Digest) : (s.handDigest d).queue = s.queue := rfl
@[simp] theorem State.handDigest_link (d : Digest) : (s.handDigest d).link = s.link := rfl

/-! ## `State.setInHand` -/

@[simp] theorem State.setInHand_pending (b : Bool) : (s.setInHand b).pending = s.pending := rfl
@[simp] theorem State.setInHand_linkOut (b : Bool) : (s.setInHand b).linkOut = s.linkOut := rfl
@[simp] theorem State.setInHand_now (b : Bool) : (s.setInHand b).now = s.now := rfl
@[simp] theorem State.setInHand_pinHeld (b : Bool) : (s.setInHand b).pinHeld = s.pinHeld := rfl
@[simp] theorem State.setInHand_intake (b : Bool) : (s.setInHand b).intake = s.intake := rfl
@[simp] theorem State.setInHand_blobOverflow (b : Bool) : (s.setInHand b).blobOverflow = s.blobOverflow := rfl
@[simp] theorem State.setInHand_engine (b : Bool) : (s.setInHand b).engine = s.engine := rfl
@[simp] theorem State.setInHand_base (b : Bool) : (s.setInHand b).base = s.base := rfl
@[simp] theorem State.setInHand_tracks (b : Bool) : (s.setInHand b).tracks = s.tracks := rfl
@[simp] theorem State.setInHand_palm (b : Bool) : (s.setInHand b).palm = s.palm := rfl
@[simp] theorem State.setInHand_pen (b : Bool) : (s.setInHand b).pen = s.pen := rfl
@[simp] theorem State.setInHand_posture (b : Bool) : (s.setInHand b).posture = s.posture := rfl
@[simp] theorem State.setInHand_angle (b : Bool) : (s.setInHand b).angle = s.angle := rfl
@[simp] theorem State.setInHand_gestures (b : Bool) :
    (s.setInHand b).gestures = { s.gestures with inHand := b } := rfl
@[simp] theorem State.setInHand_motion (b : Bool) : (s.setInHand b).motion = s.motion := rfl
@[simp] theorem State.setInHand_tables (b : Bool) : (s.setInHand b).tables = s.tables := rfl
@[simp] theorem State.setInHand_queue (b : Bool) : (s.setInHand b).queue = s.queue := rfl
@[simp] theorem State.setInHand_link (b : Bool) : (s.setInHand b).link = s.link := rfl

/-! ## `State.dropInHand` -/

@[simp] theorem State.dropInHand_pending : (s.dropInHand).pending = s.pending := rfl
@[simp] theorem State.dropInHand_linkOut : (s.dropInHand).linkOut = s.linkOut := rfl
@[simp] theorem State.dropInHand_now : (s.dropInHand).now = s.now := rfl
@[simp] theorem State.dropInHand_pinHeld : (s.dropInHand).pinHeld = s.pinHeld := rfl
@[simp] theorem State.dropInHand_intake : (s.dropInHand).intake = s.intake := rfl
@[simp] theorem State.dropInHand_blobOverflow : (s.dropInHand).blobOverflow = s.blobOverflow := rfl
@[simp] theorem State.dropInHand_engine : (s.dropInHand).engine = s.engine := rfl
@[simp] theorem State.dropInHand_base : (s.dropInHand).base = s.base := rfl
@[simp] theorem State.dropInHand_tracks : (s.dropInHand).tracks = s.tracks := rfl
@[simp] theorem State.dropInHand_palm : (s.dropInHand).palm = s.palm := rfl
@[simp] theorem State.dropInHand_pen : (s.dropInHand).pen = s.pen := rfl
@[simp] theorem State.dropInHand_posture : (s.dropInHand).posture = s.posture := rfl
@[simp] theorem State.dropInHand_angle : (s.dropInHand).angle = s.angle := rfl
@[simp] theorem State.dropInHand_gestures :
    (s.dropInHand).gestures = { s.gestures with digests := s.gestures.digests.tail, inHand := false } := rfl
@[simp] theorem State.dropInHand_motion : (s.dropInHand).motion = s.motion := rfl
@[simp] theorem State.dropInHand_tables : (s.dropInHand).tables = s.tables := rfl
@[simp] theorem State.dropInHand_queue : (s.dropInHand).queue = s.queue := rfl
@[simp] theorem State.dropInHand_link : (s.dropInHand).link = s.link := rfl

/-! ## `State.setWatch` -/

@[simp] theorem State.setWatch_pending (w : List Watch) : (s.setWatch w).pending = s.pending := rfl
@[simp] theorem State.setWatch_linkOut (w : List Watch) : (s.setWatch w).linkOut = s.linkOut := rfl
@[simp] theorem State.setWatch_now (w : List Watch) : (s.setWatch w).now = s.now := rfl
@[simp] theorem State.setWatch_pinHeld (w : List Watch) : (s.setWatch w).pinHeld = s.pinHeld := rfl
@[simp] theorem State.setWatch_intake (w : List Watch) : (s.setWatch w).intake = s.intake := rfl
@[simp] theorem State.setWatch_blobOverflow (w : List Watch) :
    (s.setWatch w).blobOverflow = s.blobOverflow := rfl
@[simp] theorem State.setWatch_engine (w : List Watch) : (s.setWatch w).engine = s.engine := rfl
@[simp] theorem State.setWatch_base (w : List Watch) : (s.setWatch w).base = s.base := rfl
@[simp] theorem State.setWatch_tracks (w : List Watch) : (s.setWatch w).tracks = s.tracks := rfl
@[simp] theorem State.setWatch_palm (w : List Watch) : (s.setWatch w).palm = s.palm := rfl
@[simp] theorem State.setWatch_pen (w : List Watch) : (s.setWatch w).pen = s.pen := rfl
@[simp] theorem State.setWatch_posture (w : List Watch) : (s.setWatch w).posture = s.posture := rfl
@[simp] theorem State.setWatch_angle (w : List Watch) : (s.setWatch w).angle = s.angle := rfl
@[simp] theorem State.setWatch_gestures (w : List Watch) :
    (s.setWatch w).gestures = { s.gestures with watch := w } := rfl
@[simp] theorem State.setWatch_motion (w : List Watch) : (s.setWatch w).motion = s.motion := rfl
@[simp] theorem State.setWatch_tables (w : List Watch) : (s.setWatch w).tables = s.tables := rfl
@[simp] theorem State.setWatch_queue (w : List Watch) : (s.setWatch w).queue = s.queue := rfl
@[simp] theorem State.setWatch_link (w : List Watch) : (s.setWatch w).link = s.link := rfl

/-! ## `State.setOwed` -/

@[simp] theorem State.setOwed_pending (o : Owed) : (s.setOwed o).pending = s.pending := rfl
@[simp] theorem State.setOwed_linkOut (o : Owed) : (s.setOwed o).linkOut = s.linkOut := rfl
@[simp] theorem State.setOwed_now (o : Owed) : (s.setOwed o).now = s.now := rfl
@[simp] theorem State.setOwed_pinHeld (o : Owed) : (s.setOwed o).pinHeld = s.pinHeld := rfl
@[simp] theorem State.setOwed_intake (o : Owed) : (s.setOwed o).intake = s.intake := rfl
@[simp] theorem State.setOwed_blobOverflow (o : Owed) : (s.setOwed o).blobOverflow = s.blobOverflow := rfl
@[simp] theorem State.setOwed_engine (o : Owed) : (s.setOwed o).engine = s.engine := rfl
@[simp] theorem State.setOwed_base (o : Owed) : (s.setOwed o).base = s.base := rfl
@[simp] theorem State.setOwed_tracks (o : Owed) : (s.setOwed o).tracks = s.tracks := rfl
@[simp] theorem State.setOwed_palm (o : Owed) : (s.setOwed o).palm = s.palm := rfl
@[simp] theorem State.setOwed_pen (o : Owed) : (s.setOwed o).pen = s.pen := rfl
@[simp] theorem State.setOwed_posture (o : Owed) : (s.setOwed o).posture = s.posture := rfl
@[simp] theorem State.setOwed_angle (o : Owed) : (s.setOwed o).angle = s.angle := rfl
@[simp] theorem State.setOwed_gestures (o : Owed) : (s.setOwed o).gestures = s.gestures := rfl
@[simp] theorem State.setOwed_motion (o : Owed) : (s.setOwed o).motion = s.motion := rfl
@[simp] theorem State.setOwed_tables (o : Owed) : (s.setOwed o).tables = s.tables := rfl
@[simp] theorem State.setOwed_queue (o : Owed) : (s.setOwed o).queue = s.queue := rfl
@[simp] theorem State.setOwed_link (o : Owed) : (s.setOwed o).link = { s.link with owed := o } := rfl

/-! ## `State.setPart` -/

@[simp] theorem State.setPart_pending (p : PartState) : (s.setPart p).pending = s.pending := rfl
@[simp] theorem State.setPart_linkOut (p : PartState) : (s.setPart p).linkOut = s.linkOut := rfl
@[simp] theorem State.setPart_now (p : PartState) : (s.setPart p).now = s.now := rfl
@[simp] theorem State.setPart_pinHeld (p : PartState) : (s.setPart p).pinHeld = s.pinHeld := rfl
@[simp] theorem State.setPart_intake (p : PartState) : (s.setPart p).intake = s.intake := rfl
@[simp] theorem State.setPart_blobOverflow (p : PartState) :
    (s.setPart p).blobOverflow = s.blobOverflow := rfl
@[simp] theorem State.setPart_engine (p : PartState) : (s.setPart p).engine = s.engine := rfl
@[simp] theorem State.setPart_base (p : PartState) : (s.setPart p).base = s.base := rfl
@[simp] theorem State.setPart_tracks (p : PartState) : (s.setPart p).tracks = s.tracks := rfl
@[simp] theorem State.setPart_palm (p : PartState) : (s.setPart p).palm = s.palm := rfl
@[simp] theorem State.setPart_pen (p : PartState) : (s.setPart p).pen = s.pen := rfl
@[simp] theorem State.setPart_posture (p : PartState) : (s.setPart p).posture = s.posture := rfl
@[simp] theorem State.setPart_angle (p : PartState) : (s.setPart p).angle = s.angle := rfl
@[simp] theorem State.setPart_gestures (p : PartState) : (s.setPart p).gestures = s.gestures := rfl
@[simp] theorem State.setPart_motion (p : PartState) : (s.setPart p).motion = s.motion := rfl
@[simp] theorem State.setPart_tables (p : PartState) : (s.setPart p).tables = s.tables := rfl
@[simp] theorem State.setPart_queue (p : PartState) : (s.setPart p).queue = s.queue := rfl
@[simp] theorem State.setPart_link (p : PartState) : (s.setPart p).link = { s.link with part := p } := rfl

/-! ## `State.setStopTag` -/

@[simp] theorem State.setStopTag_pending (t : Option Byte) : (s.setStopTag t).pending = s.pending := rfl
@[simp] theorem State.setStopTag_linkOut (t : Option Byte) : (s.setStopTag t).linkOut = s.linkOut := rfl
@[simp] theorem State.setStopTag_now (t : Option Byte) : (s.setStopTag t).now = s.now := rfl
@[simp] theorem State.setStopTag_pinHeld (t : Option Byte) : (s.setStopTag t).pinHeld = s.pinHeld := rfl
@[simp] theorem State.setStopTag_intake (t : Option Byte) : (s.setStopTag t).intake = s.intake := rfl
@[simp] theorem State.setStopTag_blobOverflow (t : Option Byte) :
    (s.setStopTag t).blobOverflow = s.blobOverflow := rfl
@[simp] theorem State.setStopTag_engine (t : Option Byte) : (s.setStopTag t).engine = s.engine := rfl
@[simp] theorem State.setStopTag_base (t : Option Byte) : (s.setStopTag t).base = s.base := rfl
@[simp] theorem State.setStopTag_tracks (t : Option Byte) : (s.setStopTag t).tracks = s.tracks := rfl
@[simp] theorem State.setStopTag_palm (t : Option Byte) : (s.setStopTag t).palm = s.palm := rfl
@[simp] theorem State.setStopTag_pen (t : Option Byte) : (s.setStopTag t).pen = s.pen := rfl
@[simp] theorem State.setStopTag_posture (t : Option Byte) : (s.setStopTag t).posture = s.posture := rfl
@[simp] theorem State.setStopTag_angle (t : Option Byte) : (s.setStopTag t).angle = s.angle := rfl
@[simp] theorem State.setStopTag_gestures (t : Option Byte) : (s.setStopTag t).gestures = s.gestures := rfl
@[simp] theorem State.setStopTag_motion (t : Option Byte) : (s.setStopTag t).motion = s.motion := rfl
@[simp] theorem State.setStopTag_tables (t : Option Byte) : (s.setStopTag t).tables = s.tables := rfl
@[simp] theorem State.setStopTag_queue (t : Option Byte) : (s.setStopTag t).queue = s.queue := rfl
@[simp] theorem State.setStopTag_link (t : Option Byte) :
    (s.setStopTag t).link = { s.link with stopTag := t } := rfl

/-! ## `State.setLinkOut` -/

@[simp] theorem State.setLinkOut_pending (o : LinkOut) : (s.setLinkOut o).pending = s.pending := rfl
@[simp] theorem State.setLinkOut_linkOut (o : LinkOut) : (s.setLinkOut o).linkOut = o := rfl
@[simp] theorem State.setLinkOut_now (o : LinkOut) : (s.setLinkOut o).now = s.now := rfl
@[simp] theorem State.setLinkOut_pinHeld (o : LinkOut) : (s.setLinkOut o).pinHeld = s.pinHeld := rfl
@[simp] theorem State.setLinkOut_intake (o : LinkOut) : (s.setLinkOut o).intake = s.intake := rfl
@[simp] theorem State.setLinkOut_blobOverflow (o : LinkOut) :
    (s.setLinkOut o).blobOverflow = s.blobOverflow := rfl
@[simp] theorem State.setLinkOut_engine (o : LinkOut) : (s.setLinkOut o).engine = s.engine := rfl
@[simp] theorem State.setLinkOut_base (o : LinkOut) : (s.setLinkOut o).base = s.base := rfl
@[simp] theorem State.setLinkOut_tracks (o : LinkOut) : (s.setLinkOut o).tracks = s.tracks := rfl
@[simp] theorem State.setLinkOut_palm (o : LinkOut) : (s.setLinkOut o).palm = s.palm := rfl
@[simp] theorem State.setLinkOut_pen (o : LinkOut) : (s.setLinkOut o).pen = s.pen := rfl
@[simp] theorem State.setLinkOut_posture (o : LinkOut) : (s.setLinkOut o).posture = s.posture := rfl
@[simp] theorem State.setLinkOut_angle (o : LinkOut) : (s.setLinkOut o).angle = s.angle := rfl
@[simp] theorem State.setLinkOut_gestures (o : LinkOut) : (s.setLinkOut o).gestures = s.gestures := rfl
@[simp] theorem State.setLinkOut_motion (o : LinkOut) : (s.setLinkOut o).motion = s.motion := rfl
@[simp] theorem State.setLinkOut_tables (o : LinkOut) : (s.setLinkOut o).tables = s.tables := rfl
@[simp] theorem State.setLinkOut_queue (o : LinkOut) : (s.setLinkOut o).queue = s.queue := rfl
@[simp] theorem State.setLinkOut_link (o : LinkOut) : (s.setLinkOut o).link = s.link := rfl

end Sys2Proof.Machine
end

