-- ==== Sys2Proof/Laws/Frames.lean ====
section
/-! SUPPORT. What each shared operation leaves alone: one lemma for each field that it does not change. -/

namespace Sys2Proof.Machine

variable (s : State)


/-! ## `State.offerReply` -/

@[simp] theorem State.offerReply_pending (r : Reply) : (s.offerReply r).pending = s.pending :=
    by simp [State.offerReply, apply_ite State.pending]
@[simp] theorem State.offerReply_linkOut (r : Reply) : (s.offerReply r).linkOut = s.linkOut :=
    by simp [State.offerReply, apply_ite State.linkOut]
@[simp] theorem State.offerReply_now (r : Reply) : (s.offerReply r).now = s.now :=
    by simp [State.offerReply, apply_ite State.now]
@[simp] theorem State.offerReply_pinHeld (r : Reply) : (s.offerReply r).pinHeld = s.pinHeld :=
    by simp [State.offerReply, apply_ite State.pinHeld]
@[simp] theorem State.offerReply_intake (r : Reply) : (s.offerReply r).intake = s.intake :=
    by simp [State.offerReply, apply_ite State.intake]
@[simp] theorem State.offerReply_blobOverflow (r : Reply) : (s.offerReply r).blobOverflow = s.blobOverflow :=
    by simp [State.offerReply, apply_ite State.blobOverflow]
@[simp] theorem State.offerReply_engine (r : Reply) : (s.offerReply r).engine = s.engine :=
    by simp [State.offerReply, apply_ite State.engine]
@[simp] theorem State.offerReply_base (r : Reply) : (s.offerReply r).base = s.base :=
    by simp [State.offerReply, apply_ite State.base]
@[simp] theorem State.offerReply_tracks (r : Reply) : (s.offerReply r).tracks = s.tracks :=
    by simp [State.offerReply, apply_ite State.tracks]
@[simp] theorem State.offerReply_palm (r : Reply) : (s.offerReply r).palm = s.palm :=
    by simp [State.offerReply, apply_ite State.palm]
@[simp] theorem State.offerReply_pen (r : Reply) : (s.offerReply r).pen = s.pen :=
    by simp [State.offerReply, apply_ite State.pen]
@[simp] theorem State.offerReply_posture (r : Reply) : (s.offerReply r).posture = s.posture :=
    by simp [State.offerReply, apply_ite State.posture]
@[simp] theorem State.offerReply_angle (r : Reply) : (s.offerReply r).angle = s.angle :=
    by simp [State.offerReply, apply_ite State.angle]
@[simp] theorem State.offerReply_gestures (r : Reply) : (s.offerReply r).gestures = s.gestures :=
    by simp [State.offerReply, apply_ite State.gestures]
@[simp] theorem State.offerReply_motion (r : Reply) : (s.offerReply r).motion = s.motion :=
    by simp [State.offerReply, apply_ite State.motion]
@[simp] theorem State.offerReply_tables (r : Reply) : (s.offerReply r).tables = s.tables :=
    by simp [State.offerReply, apply_ite State.tables]

/-! ## `State.offerNotice` -/

@[simp] theorem State.offerNotice_pending (n : Notice) : (s.offerNotice n).pending = s.pending :=
    by simp [State.offerNotice, apply_ite State.pending]
@[simp] theorem State.offerNotice_linkOut (n : Notice) : (s.offerNotice n).linkOut = s.linkOut :=
    by simp [State.offerNotice, apply_ite State.linkOut]
@[simp] theorem State.offerNotice_now (n : Notice) : (s.offerNotice n).now = s.now :=
    by simp [State.offerNotice, apply_ite State.now]
@[simp] theorem State.offerNotice_pinHeld (n : Notice) : (s.offerNotice n).pinHeld = s.pinHeld :=
    by simp [State.offerNotice, apply_ite State.pinHeld]
@[simp] theorem State.offerNotice_intake (n : Notice) : (s.offerNotice n).intake = s.intake :=
    by simp [State.offerNotice, apply_ite State.intake]
@[simp] theorem State.offerNotice_blobOverflow (n : Notice) : (s.offerNotice n).blobOverflow = s.blobOverflow :=
    by simp [State.offerNotice, apply_ite State.blobOverflow]
@[simp] theorem State.offerNotice_engine (n : Notice) : (s.offerNotice n).engine = s.engine :=
    by simp [State.offerNotice, apply_ite State.engine]
@[simp] theorem State.offerNotice_base (n : Notice) : (s.offerNotice n).base = s.base :=
    by simp [State.offerNotice, apply_ite State.base]
@[simp] theorem State.offerNotice_tracks (n : Notice) : (s.offerNotice n).tracks = s.tracks :=
    by simp [State.offerNotice, apply_ite State.tracks]
@[simp] theorem State.offerNotice_palm (n : Notice) : (s.offerNotice n).palm = s.palm :=
    by simp [State.offerNotice, apply_ite State.palm]
@[simp] theorem State.offerNotice_pen (n : Notice) : (s.offerNotice n).pen = s.pen :=
    by simp [State.offerNotice, apply_ite State.pen]
@[simp] theorem State.offerNotice_posture (n : Notice) : (s.offerNotice n).posture = s.posture :=
    by simp [State.offerNotice, apply_ite State.posture]
@[simp] theorem State.offerNotice_angle (n : Notice) : (s.offerNotice n).angle = s.angle :=
    by simp [State.offerNotice, apply_ite State.angle]
@[simp] theorem State.offerNotice_gestures (n : Notice) : (s.offerNotice n).gestures = s.gestures :=
    by simp [State.offerNotice, apply_ite State.gestures]
@[simp] theorem State.offerNotice_motion (n : Notice) : (s.offerNotice n).motion = s.motion :=
    by simp [State.offerNotice, apply_ite State.motion]
@[simp] theorem State.offerNotice_tables (n : Notice) : (s.offerNotice n).tables = s.tables :=
    by simp [State.offerNotice, apply_ite State.tables]

/-! ## `State.noticeRises` -/

@[simp] theorem State.noticeRises_pending (before : State) : (State.noticeRises before s).pending = s.pending :=
    by simp [State.noticeRises, apply_ite State.pending]
@[simp] theorem State.noticeRises_linkOut (before : State) : (State.noticeRises before s).linkOut = s.linkOut :=
    by simp [State.noticeRises, apply_ite State.linkOut]
@[simp] theorem State.noticeRises_now (before : State) : (State.noticeRises before s).now = s.now :=
    by simp [State.noticeRises, apply_ite State.now]
@[simp] theorem State.noticeRises_pinHeld (before : State) : (State.noticeRises before s).pinHeld = s.pinHeld :=
    by simp [State.noticeRises, apply_ite State.pinHeld]
@[simp] theorem State.noticeRises_intake (before : State) : (State.noticeRises before s).intake = s.intake :=
    by simp [State.noticeRises, apply_ite State.intake]
@[simp] theorem State.noticeRises_blobOverflow (before : State) : (State.noticeRises before s).blobOverflow = s.blobOverflow :=
    by simp [State.noticeRises, apply_ite State.blobOverflow]
@[simp] theorem State.noticeRises_engine (before : State) : (State.noticeRises before s).engine = s.engine :=
    by simp [State.noticeRises, apply_ite State.engine]
@[simp] theorem State.noticeRises_base (before : State) : (State.noticeRises before s).base = s.base :=
    by simp [State.noticeRises, apply_ite State.base]
@[simp] theorem State.noticeRises_tracks (before : State) : (State.noticeRises before s).tracks = s.tracks :=
    by simp [State.noticeRises, apply_ite State.tracks]
@[simp] theorem State.noticeRises_palm (before : State) : (State.noticeRises before s).palm = s.palm :=
    by simp [State.noticeRises, apply_ite State.palm]
@[simp] theorem State.noticeRises_pen (before : State) : (State.noticeRises before s).pen = s.pen :=
    by simp [State.noticeRises, apply_ite State.pen]
@[simp] theorem State.noticeRises_posture (before : State) : (State.noticeRises before s).posture = s.posture :=
    by simp [State.noticeRises, apply_ite State.posture]
@[simp] theorem State.noticeRises_angle (before : State) : (State.noticeRises before s).angle = s.angle :=
    by simp [State.noticeRises, apply_ite State.angle]
@[simp] theorem State.noticeRises_gestures (before : State) : (State.noticeRises before s).gestures = s.gestures :=
    by simp [State.noticeRises, apply_ite State.gestures]
@[simp] theorem State.noticeRises_motion (before : State) : (State.noticeRises before s).motion = s.motion :=
    by simp [State.noticeRises, apply_ite State.motion]
@[simp] theorem State.noticeRises_tables (before : State) : (State.noticeRises before s).tables = s.tables :=
    by simp [State.noticeRises, apply_ite State.tables]

/-! ## `State.offerGesture` -/

@[simp] theorem State.offerGesture_pending (t : Time) (g : GestureReport) : (s.offerGesture t g).pending = s.pending :=
    by
  unfold State.offerGesture
  split
  · simp
  · split <;> simp
@[simp] theorem State.offerGesture_linkOut (t : Time) (g : GestureReport) : (s.offerGesture t g).linkOut = s.linkOut :=
    by
  unfold State.offerGesture
  split
  · simp
  · split <;> simp
@[simp] theorem State.offerGesture_now (t : Time) (g : GestureReport) : (s.offerGesture t g).now = s.now := by
  unfold State.offerGesture
  split
  · simp
  · split <;> simp
@[simp] theorem State.offerGesture_pinHeld (t : Time) (g : GestureReport) : (s.offerGesture t g).pinHeld = s.pinHeld :=
    by
  unfold State.offerGesture
  split
  · simp
  · split <;> simp
@[simp] theorem State.offerGesture_intake (t : Time) (g : GestureReport) : (s.offerGesture t g).intake = s.intake :=
    by
  unfold State.offerGesture
  split
  · simp
  · split <;> simp
@[simp] theorem State.offerGesture_blobOverflow (t : Time) (g : GestureReport) : (s.offerGesture t g).blobOverflow = s.blobOverflow :=
    by
  unfold State.offerGesture
  split
  · simp
  · split <;> simp
@[simp] theorem State.offerGesture_engine (t : Time) (g : GestureReport) : (s.offerGesture t g).engine = s.engine :=
    by
  unfold State.offerGesture
  split
  · simp
  · split <;> simp
@[simp] theorem State.offerGesture_base (t : Time) (g : GestureReport) : (s.offerGesture t g).base = s.base :=
    by
  unfold State.offerGesture
  split
  · simp
  · split <;> simp
@[simp] theorem State.offerGesture_tracks (t : Time) (g : GestureReport) : (s.offerGesture t g).tracks = s.tracks :=
    by
  unfold State.offerGesture
  split
  · simp
  · split <;> simp
@[simp] theorem State.offerGesture_palm (t : Time) (g : GestureReport) : (s.offerGesture t g).palm = s.palm :=
    by
  unfold State.offerGesture
  split
  · simp
  · split <;> simp
@[simp] theorem State.offerGesture_pen (t : Time) (g : GestureReport) : (s.offerGesture t g).pen = s.pen := by
  unfold State.offerGesture
  split
  · simp
  · split <;> simp
@[simp] theorem State.offerGesture_posture (t : Time) (g : GestureReport) : (s.offerGesture t g).posture = s.posture :=
    by
  unfold State.offerGesture
  split
  · simp
  · split <;> simp
@[simp] theorem State.offerGesture_angle (t : Time) (g : GestureReport) : (s.offerGesture t g).angle = s.angle :=
    by
  unfold State.offerGesture
  split
  · simp
  · split <;> simp
@[simp] theorem State.offerGesture_gestures (t : Time) (g : GestureReport) : (s.offerGesture t g).gestures = s.gestures :=
    by
  unfold State.offerGesture
  split
  · simp
  · split <;> simp
@[simp] theorem State.offerGesture_motion (t : Time) (g : GestureReport) : (s.offerGesture t g).motion = s.motion :=
    by
  unfold State.offerGesture
  split
  · simp
  · split <;> simp
@[simp] theorem State.offerGesture_tables (t : Time) (g : GestureReport) : (s.offerGesture t g).tables = s.tables :=
    by
  unfold State.offerGesture
  split
  · simp
  · split <;> simp

/-! ## `State.offerSnapshot` -/

@[simp] theorem State.offerSnapshot_pending (t : Time) (r : SnapshotReport) : (s.offerSnapshot t r).pending = s.pending :=
    by simp [State.offerSnapshot, apply_ite State.pending]
@[simp] theorem State.offerSnapshot_linkOut (t : Time) (r : SnapshotReport) : (s.offerSnapshot t r).linkOut = s.linkOut :=
    by simp [State.offerSnapshot, apply_ite State.linkOut]
@[simp] theorem State.offerSnapshot_now (t : Time) (r : SnapshotReport) : (s.offerSnapshot t r).now = s.now :=
    by simp [State.offerSnapshot, apply_ite State.now]
@[simp] theorem State.offerSnapshot_pinHeld (t : Time) (r : SnapshotReport) : (s.offerSnapshot t r).pinHeld = s.pinHeld :=
    by simp [State.offerSnapshot, apply_ite State.pinHeld]
@[simp] theorem State.offerSnapshot_intake (t : Time) (r : SnapshotReport) : (s.offerSnapshot t r).intake = s.intake :=
    by simp [State.offerSnapshot, apply_ite State.intake]
@[simp] theorem State.offerSnapshot_blobOverflow (t : Time) (r : SnapshotReport) : (s.offerSnapshot t r).blobOverflow = s.blobOverflow :=
    by simp [State.offerSnapshot, apply_ite State.blobOverflow]
@[simp] theorem State.offerSnapshot_engine (t : Time) (r : SnapshotReport) : (s.offerSnapshot t r).engine = s.engine :=
    by simp [State.offerSnapshot, apply_ite State.engine]
@[simp] theorem State.offerSnapshot_base (t : Time) (r : SnapshotReport) : (s.offerSnapshot t r).base = s.base :=
    by simp [State.offerSnapshot, apply_ite State.base]
@[simp] theorem State.offerSnapshot_tracks (t : Time) (r : SnapshotReport) : (s.offerSnapshot t r).tracks = s.tracks :=
    by simp [State.offerSnapshot, apply_ite State.tracks]
@[simp] theorem State.offerSnapshot_palm (t : Time) (r : SnapshotReport) : (s.offerSnapshot t r).palm = s.palm :=
    by simp [State.offerSnapshot, apply_ite State.palm]
@[simp] theorem State.offerSnapshot_pen (t : Time) (r : SnapshotReport) : (s.offerSnapshot t r).pen = s.pen :=
    by simp [State.offerSnapshot, apply_ite State.pen]
@[simp] theorem State.offerSnapshot_posture (t : Time) (r : SnapshotReport) : (s.offerSnapshot t r).posture = s.posture :=
    by simp [State.offerSnapshot, apply_ite State.posture]
@[simp] theorem State.offerSnapshot_angle (t : Time) (r : SnapshotReport) : (s.offerSnapshot t r).angle = s.angle :=
    by simp [State.offerSnapshot, apply_ite State.angle]
@[simp] theorem State.offerSnapshot_gestures (t : Time) (r : SnapshotReport) : (s.offerSnapshot t r).gestures = s.gestures :=
    by simp [State.offerSnapshot, apply_ite State.gestures]
@[simp] theorem State.offerSnapshot_motion (t : Time) (r : SnapshotReport) : (s.offerSnapshot t r).motion = s.motion :=
    by simp [State.offerSnapshot, apply_ite State.motion]
@[simp] theorem State.offerSnapshot_tables (t : Time) (r : SnapshotReport) : (s.offerSnapshot t r).tables = s.tables :=
    by simp [State.offerSnapshot, apply_ite State.tables]

/-! ## `State.offerContact` -/

@[simp] theorem State.offerContact_pending (t : Time) (r : ContactReport) : (s.offerContact t r).pending = s.pending :=
    by simp [State.offerContact, apply_ite State.pending]
@[simp] theorem State.offerContact_linkOut (t : Time) (r : ContactReport) : (s.offerContact t r).linkOut = s.linkOut :=
    by simp [State.offerContact, apply_ite State.linkOut]
@[simp] theorem State.offerContact_now (t : Time) (r : ContactReport) : (s.offerContact t r).now = s.now :=
    by simp [State.offerContact, apply_ite State.now]
@[simp] theorem State.offerContact_pinHeld (t : Time) (r : ContactReport) : (s.offerContact t r).pinHeld = s.pinHeld :=
    by simp [State.offerContact, apply_ite State.pinHeld]
@[simp] theorem State.offerContact_intake (t : Time) (r : ContactReport) : (s.offerContact t r).intake = s.intake :=
    by simp [State.offerContact, apply_ite State.intake]
@[simp] theorem State.offerContact_blobOverflow (t : Time) (r : ContactReport) : (s.offerContact t r).blobOverflow = s.blobOverflow :=
    by simp [State.offerContact, apply_ite State.blobOverflow]
@[simp] theorem State.offerContact_engine (t : Time) (r : ContactReport) : (s.offerContact t r).engine = s.engine :=
    by simp [State.offerContact, apply_ite State.engine]
@[simp] theorem State.offerContact_base (t : Time) (r : ContactReport) : (s.offerContact t r).base = s.base :=
    by simp [State.offerContact, apply_ite State.base]
@[simp] theorem State.offerContact_palm (t : Time) (r : ContactReport) : (s.offerContact t r).palm = s.palm :=
    by simp [State.offerContact, apply_ite State.palm]
@[simp] theorem State.offerContact_pen (t : Time) (r : ContactReport) : (s.offerContact t r).pen = s.pen :=
    by simp [State.offerContact, apply_ite State.pen]
@[simp] theorem State.offerContact_posture (t : Time) (r : ContactReport) : (s.offerContact t r).posture = s.posture :=
    by simp [State.offerContact, apply_ite State.posture]
@[simp] theorem State.offerContact_angle (t : Time) (r : ContactReport) : (s.offerContact t r).angle = s.angle :=
    by simp [State.offerContact, apply_ite State.angle]
@[simp] theorem State.offerContact_gestures (t : Time) (r : ContactReport) : (s.offerContact t r).gestures = s.gestures :=
    by simp [State.offerContact, apply_ite State.gestures]
@[simp] theorem State.offerContact_motion (t : Time) (r : ContactReport) : (s.offerContact t r).motion = s.motion :=
    by simp [State.offerContact, apply_ite State.motion]
@[simp] theorem State.offerContact_tables (t : Time) (r : ContactReport) : (s.offerContact t r).tables = s.tables :=
    by simp [State.offerContact, apply_ite State.tables]
@[simp] theorem State.offerContact_link (t : Time) (r : ContactReport) : (s.offerContact t r).link = s.link :=
    by simp [State.offerContact, apply_ite State.link]

/-! ## `State.done` -/

@[simp] theorem State.done_pending (tag c : Byte) (b : List Byte) : (s.done tag c b).pending = s.pending :=
    by simp [State.done]
@[simp] theorem State.done_linkOut (tag c : Byte) (b : List Byte) : (s.done tag c b).linkOut = s.linkOut :=
    by simp [State.done]
@[simp] theorem State.done_now (tag c : Byte) (b : List Byte) : (s.done tag c b).now = s.now :=
    by simp [State.done]
@[simp] theorem State.done_pinHeld (tag c : Byte) (b : List Byte) : (s.done tag c b).pinHeld = s.pinHeld :=
    by simp [State.done]
@[simp] theorem State.done_intake (tag c : Byte) (b : List Byte) : (s.done tag c b).intake = s.intake :=
    by simp [State.done]
@[simp] theorem State.done_blobOverflow (tag c : Byte) (b : List Byte) : (s.done tag c b).blobOverflow = s.blobOverflow :=
    by simp [State.done]
@[simp] theorem State.done_engine (tag c : Byte) (b : List Byte) : (s.done tag c b).engine = s.engine :=
    by simp [State.done]
@[simp] theorem State.done_base (tag c : Byte) (b : List Byte) : (s.done tag c b).base = s.base :=
    by simp [State.done]
@[simp] theorem State.done_tracks (tag c : Byte) (b : List Byte) : (s.done tag c b).tracks = s.tracks :=
    by simp [State.done]
@[simp] theorem State.done_palm (tag c : Byte) (b : List Byte) : (s.done tag c b).palm = s.palm :=
    by simp [State.done]
@[simp] theorem State.done_pen (tag c : Byte) (b : List Byte) : (s.done tag c b).pen = s.pen :=
    by simp [State.done]
@[simp] theorem State.done_posture (tag c : Byte) (b : List Byte) : (s.done tag c b).posture = s.posture :=
    by simp [State.done]
@[simp] theorem State.done_angle (tag c : Byte) (b : List Byte) : (s.done tag c b).angle = s.angle :=
    by simp [State.done]
@[simp] theorem State.done_gestures (tag c : Byte) (b : List Byte) : (s.done tag c b).gestures = s.gestures :=
    by simp [State.done]
@[simp] theorem State.done_motion (tag c : Byte) (b : List Byte) : (s.done tag c b).motion = s.motion :=
    by simp [State.done]
@[simp] theorem State.done_tables (tag c : Byte) (b : List Byte) : (s.done tag c b).tables = s.tables :=
    by simp [State.done]

/-! ## `State.refuse` -/

@[simp] theorem State.refuse_pending (tag c : Byte) (r : Reason) : (s.refuse tag c r).pending = s.pending :=
    by simp [State.refuse]
@[simp] theorem State.refuse_linkOut (tag c : Byte) (r : Reason) : (s.refuse tag c r).linkOut = s.linkOut :=
    by simp [State.refuse]
@[simp] theorem State.refuse_now (tag c : Byte) (r : Reason) : (s.refuse tag c r).now = s.now :=
    by simp [State.refuse]
@[simp] theorem State.refuse_pinHeld (tag c : Byte) (r : Reason) : (s.refuse tag c r).pinHeld = s.pinHeld :=
    by simp [State.refuse]
@[simp] theorem State.refuse_intake (tag c : Byte) (r : Reason) : (s.refuse tag c r).intake = s.intake :=
    by simp [State.refuse]
@[simp] theorem State.refuse_blobOverflow (tag c : Byte) (r : Reason) : (s.refuse tag c r).blobOverflow = s.blobOverflow :=
    by simp [State.refuse]
@[simp] theorem State.refuse_engine (tag c : Byte) (r : Reason) : (s.refuse tag c r).engine = s.engine :=
    by simp [State.refuse]
@[simp] theorem State.refuse_base (tag c : Byte) (r : Reason) : (s.refuse tag c r).base = s.base :=
    by simp [State.refuse]
@[simp] theorem State.refuse_tracks (tag c : Byte) (r : Reason) : (s.refuse tag c r).tracks = s.tracks :=
    by simp [State.refuse]
@[simp] theorem State.refuse_palm (tag c : Byte) (r : Reason) : (s.refuse tag c r).palm = s.palm :=
    by simp [State.refuse]
@[simp] theorem State.refuse_pen (tag c : Byte) (r : Reason) : (s.refuse tag c r).pen = s.pen :=
    by simp [State.refuse]
@[simp] theorem State.refuse_posture (tag c : Byte) (r : Reason) : (s.refuse tag c r).posture = s.posture :=
    by simp [State.refuse]
@[simp] theorem State.refuse_angle (tag c : Byte) (r : Reason) : (s.refuse tag c r).angle = s.angle :=
    by simp [State.refuse]
@[simp] theorem State.refuse_gestures (tag c : Byte) (r : Reason) : (s.refuse tag c r).gestures = s.gestures :=
    by simp [State.refuse]
@[simp] theorem State.refuse_motion (tag c : Byte) (r : Reason) : (s.refuse tag c r).motion = s.motion :=
    by simp [State.refuse]
@[simp] theorem State.refuse_tables (tag c : Byte) (r : Reason) : (s.refuse tag c r).tables = s.tables :=
    by simp [State.refuse]

/-! ## `State.busy` -/

@[simp] theorem State.busy_pending (tag c : Byte) : (s.busy tag c).pending = s.pending := by simp [State.busy]
@[simp] theorem State.busy_linkOut (tag c : Byte) : (s.busy tag c).linkOut = s.linkOut := by simp [State.busy]
@[simp] theorem State.busy_now (tag c : Byte) : (s.busy tag c).now = s.now := by simp [State.busy]
@[simp] theorem State.busy_pinHeld (tag c : Byte) : (s.busy tag c).pinHeld = s.pinHeld := by simp [State.busy]
@[simp] theorem State.busy_intake (tag c : Byte) : (s.busy tag c).intake = s.intake := by simp [State.busy]
@[simp] theorem State.busy_blobOverflow (tag c : Byte) : (s.busy tag c).blobOverflow = s.blobOverflow :=
    by simp [State.busy]
@[simp] theorem State.busy_engine (tag c : Byte) : (s.busy tag c).engine = s.engine := by simp [State.busy]
@[simp] theorem State.busy_base (tag c : Byte) : (s.busy tag c).base = s.base := by simp [State.busy]
@[simp] theorem State.busy_tracks (tag c : Byte) : (s.busy tag c).tracks = s.tracks := by simp [State.busy]
@[simp] theorem State.busy_palm (tag c : Byte) : (s.busy tag c).palm = s.palm := by simp [State.busy]
@[simp] theorem State.busy_pen (tag c : Byte) : (s.busy tag c).pen = s.pen := by simp [State.busy]
@[simp] theorem State.busy_posture (tag c : Byte) : (s.busy tag c).posture = s.posture := by simp [State.busy]
@[simp] theorem State.busy_angle (tag c : Byte) : (s.busy tag c).angle = s.angle := by simp [State.busy]
@[simp] theorem State.busy_gestures (tag c : Byte) : (s.busy tag c).gestures = s.gestures :=
    by simp [State.busy]
@[simp] theorem State.busy_motion (tag c : Byte) : (s.busy tag c).motion = s.motion := by simp [State.busy]
@[simp] theorem State.busy_tables (tag c : Byte) : (s.busy tag c).tables = s.tables := by simp [State.busy]

/-! ## `State.surfaceNotice` -/

@[simp] theorem State.surfaceNotice_pending (u : Surface) : (s.surfaceNotice u).pending = s.pending :=
    by simp [State.surfaceNotice]
@[simp] theorem State.surfaceNotice_linkOut (u : Surface) : (s.surfaceNotice u).linkOut = s.linkOut :=
    by simp [State.surfaceNotice]
@[simp] theorem State.surfaceNotice_now (u : Surface) : (s.surfaceNotice u).now = s.now :=
    by simp [State.surfaceNotice]
@[simp] theorem State.surfaceNotice_pinHeld (u : Surface) : (s.surfaceNotice u).pinHeld = s.pinHeld :=
    by simp [State.surfaceNotice]
@[simp] theorem State.surfaceNotice_intake (u : Surface) : (s.surfaceNotice u).intake = s.intake :=
    by simp [State.surfaceNotice]
@[simp] theorem State.surfaceNotice_blobOverflow (u : Surface) : (s.surfaceNotice u).blobOverflow = s.blobOverflow :=
    by simp [State.surfaceNotice]
@[simp] theorem State.surfaceNotice_engine (u : Surface) : (s.surfaceNotice u).engine = s.engine :=
    by simp [State.surfaceNotice]
@[simp] theorem State.surfaceNotice_base (u : Surface) : (s.surfaceNotice u).base = s.base :=
    by simp [State.surfaceNotice]
@[simp] theorem State.surfaceNotice_tracks (u : Surface) : (s.surfaceNotice u).tracks = s.tracks :=
    by simp [State.surfaceNotice]
@[simp] theorem State.surfaceNotice_palm (u : Surface) : (s.surfaceNotice u).palm = s.palm :=
    by simp [State.surfaceNotice]
@[simp] theorem State.surfaceNotice_pen (u : Surface) : (s.surfaceNotice u).pen = s.pen :=
    by simp [State.surfaceNotice]
@[simp] theorem State.surfaceNotice_posture (u : Surface) : (s.surfaceNotice u).posture = s.posture :=
    by simp [State.surfaceNotice]
@[simp] theorem State.surfaceNotice_angle (u : Surface) : (s.surfaceNotice u).angle = s.angle :=
    by simp [State.surfaceNotice]
@[simp] theorem State.surfaceNotice_gestures (u : Surface) : (s.surfaceNotice u).gestures = s.gestures :=
    by simp [State.surfaceNotice]
@[simp] theorem State.surfaceNotice_motion (u : Surface) : (s.surfaceNotice u).motion = s.motion :=
    by simp [State.surfaceNotice]
@[simp] theorem State.surfaceNotice_tables (u : Surface) : (s.surfaceNotice u).tables = s.tables :=
    by simp [State.surfaceNotice]

/-! ## `State.enterState` -/

@[simp] theorem State.enterState_pending (u : Surface) (x : SurfaceState) : (s.enterState u x).pending = s.pending :=
    by simp [State.enterState, apply_ite State.pending]
@[simp] theorem State.enterState_linkOut (u : Surface) (x : SurfaceState) : (s.enterState u x).linkOut = s.linkOut :=
    by simp [State.enterState, apply_ite State.linkOut]
@[simp] theorem State.enterState_now (u : Surface) (x : SurfaceState) : (s.enterState u x).now = s.now :=
    by simp [State.enterState, apply_ite State.now]
@[simp] theorem State.enterState_pinHeld (u : Surface) (x : SurfaceState) : (s.enterState u x).pinHeld = s.pinHeld :=
    by simp [State.enterState, apply_ite State.pinHeld]
@[simp] theorem State.enterState_blobOverflow (u : Surface) (x : SurfaceState) : (s.enterState u x).blobOverflow = s.blobOverflow :=
    by simp [State.enterState, apply_ite State.blobOverflow]
@[simp] theorem State.enterState_engine (u : Surface) (x : SurfaceState) : (s.enterState u x).engine = s.engine :=
    by simp [State.enterState, apply_ite State.engine]
@[simp] theorem State.enterState_base (u : Surface) (x : SurfaceState) : (s.enterState u x).base = s.base :=
    by simp [State.enterState, apply_ite State.base]
@[simp] theorem State.enterState_tracks (u : Surface) (x : SurfaceState) : (s.enterState u x).tracks = s.tracks :=
    by simp [State.enterState, apply_ite State.tracks]
@[simp] theorem State.enterState_palm (u : Surface) (x : SurfaceState) : (s.enterState u x).palm = s.palm :=
    by simp [State.enterState, apply_ite State.palm]
@[simp] theorem State.enterState_pen (u : Surface) (x : SurfaceState) : (s.enterState u x).pen = s.pen :=
    by simp [State.enterState, apply_ite State.pen]
@[simp] theorem State.enterState_posture (u : Surface) (x : SurfaceState) : (s.enterState u x).posture = s.posture :=
    by simp [State.enterState, apply_ite State.posture]
@[simp] theorem State.enterState_angle (u : Surface) (x : SurfaceState) : (s.enterState u x).angle = s.angle :=
    by simp [State.enterState, apply_ite State.angle]
@[simp] theorem State.enterState_gestures (u : Surface) (x : SurfaceState) : (s.enterState u x).gestures = s.gestures :=
    by simp [State.enterState, apply_ite State.gestures]
@[simp] theorem State.enterState_motion (u : Surface) (x : SurfaceState) : (s.enterState u x).motion = s.motion :=
    by simp [State.enterState, apply_ite State.motion]
@[simp] theorem State.enterState_tables (u : Surface) (x : SurfaceState) : (s.enterState u x).tables = s.tables :=
    by simp [State.enterState, apply_ite State.tables]

/-! ## `State.enterAcquire` -/

@[simp] theorem State.enterAcquire_pending (u : Surface) (b : Bool) : (s.enterAcquire u b).pending = s.pending :=
    by simp [State.enterAcquire]
@[simp] theorem State.enterAcquire_linkOut (u : Surface) (b : Bool) : (s.enterAcquire u b).linkOut = s.linkOut :=
    by simp [State.enterAcquire]
@[simp] theorem State.enterAcquire_now (u : Surface) (b : Bool) : (s.enterAcquire u b).now = s.now :=
    by simp [State.enterAcquire]
@[simp] theorem State.enterAcquire_pinHeld (u : Surface) (b : Bool) : (s.enterAcquire u b).pinHeld = s.pinHeld :=
    by simp [State.enterAcquire]
@[simp] theorem State.enterAcquire_blobOverflow (u : Surface) (b : Bool) : (s.enterAcquire u b).blobOverflow = s.blobOverflow :=
    by simp [State.enterAcquire]
@[simp] theorem State.enterAcquire_engine (u : Surface) (b : Bool) : (s.enterAcquire u b).engine = s.engine :=
    by simp [State.enterAcquire]
@[simp] theorem State.enterAcquire_base (u : Surface) (b : Bool) : (s.enterAcquire u b).base = s.base :=
    by simp [State.enterAcquire]
@[simp] theorem State.enterAcquire_tracks (u : Surface) (b : Bool) : (s.enterAcquire u b).tracks = s.tracks :=
    by simp [State.enterAcquire]
@[simp] theorem State.enterAcquire_palm (u : Surface) (b : Bool) : (s.enterAcquire u b).palm = s.palm :=
    by simp [State.enterAcquire]
@[simp] theorem State.enterAcquire_pen (u : Surface) (b : Bool) : (s.enterAcquire u b).pen = s.pen :=
    by simp [State.enterAcquire]
@[simp] theorem State.enterAcquire_posture (u : Surface) (b : Bool) : (s.enterAcquire u b).posture = s.posture :=
    by simp [State.enterAcquire]
@[simp] theorem State.enterAcquire_angle (u : Surface) (b : Bool) : (s.enterAcquire u b).angle = s.angle :=
    by simp [State.enterAcquire]
@[simp] theorem State.enterAcquire_gestures (u : Surface) (b : Bool) : (s.enterAcquire u b).gestures = s.gestures :=
    by simp [State.enterAcquire]
@[simp] theorem State.enterAcquire_motion (u : Surface) (b : Bool) : (s.enterAcquire u b).motion = s.motion :=
    by simp [State.enterAcquire]
@[simp] theorem State.enterAcquire_tables (u : Surface) (b : Bool) : (s.enterAcquire u b).tables = s.tables :=
    by simp [State.enterAcquire]

/-! ## `State.postClosing` -/

@[simp] theorem State.postClosing_pending (u : Surface) (o : ClosingOutcome) : (s.postClosing u o).pending = s.pending :=
    rfl
@[simp] theorem State.postClosing_linkOut (u : Surface) (o : ClosingOutcome) : (s.postClosing u o).linkOut = s.linkOut :=
    rfl
@[simp] theorem State.postClosing_now (u : Surface) (o : ClosingOutcome) : (s.postClosing u o).now = s.now :=
    rfl
@[simp] theorem State.postClosing_pinHeld (u : Surface) (o : ClosingOutcome) : (s.postClosing u o).pinHeld = s.pinHeld :=
    rfl
@[simp] theorem State.postClosing_blobOverflow (u : Surface) (o : ClosingOutcome) : (s.postClosing u o).blobOverflow = s.blobOverflow :=
    rfl
@[simp] theorem State.postClosing_base (u : Surface) (o : ClosingOutcome) : (s.postClosing u o).base = s.base :=
    rfl
@[simp] theorem State.postClosing_tracks (u : Surface) (o : ClosingOutcome) : (s.postClosing u o).tracks = s.tracks :=
    rfl
@[simp] theorem State.postClosing_palm (u : Surface) (o : ClosingOutcome) : (s.postClosing u o).palm = s.palm :=
    rfl
@[simp] theorem State.postClosing_pen (u : Surface) (o : ClosingOutcome) : (s.postClosing u o).pen = s.pen :=
    rfl
@[simp] theorem State.postClosing_posture (u : Surface) (o : ClosingOutcome) : (s.postClosing u o).posture = s.posture :=
    rfl
@[simp] theorem State.postClosing_angle (u : Surface) (o : ClosingOutcome) : (s.postClosing u o).angle = s.angle :=
    rfl
@[simp] theorem State.postClosing_gestures (u : Surface) (o : ClosingOutcome) : (s.postClosing u o).gestures = s.gestures :=
    rfl
@[simp] theorem State.postClosing_motion (u : Surface) (o : ClosingOutcome) : (s.postClosing u o).motion = s.motion :=
    rfl
@[simp] theorem State.postClosing_tables (u : Surface) (o : ClosingOutcome) : (s.postClosing u o).tables = s.tables :=
    rfl
@[simp] theorem State.postClosing_queue (u : Surface) (o : ClosingOutcome) : (s.postClosing u o).queue = s.queue :=
    rfl
@[simp] theorem State.postClosing_link (u : Surface) (o : ClosingOutcome) : (s.postClosing u o).link = s.link :=
    rfl

/-! ## `State.recapture` -/

@[simp] theorem State.recapture_pending (u : Surface) : (s.recapture u).pending = s.pending :=
    by simp [State.recapture]
@[simp] theorem State.recapture_linkOut (u : Surface) : (s.recapture u).linkOut = s.linkOut :=
    by simp [State.recapture]
@[simp] theorem State.recapture_now (u : Surface) : (s.recapture u).now = s.now := by simp [State.recapture]
@[simp] theorem State.recapture_pinHeld (u : Surface) : (s.recapture u).pinHeld = s.pinHeld :=
    by simp [State.recapture]
@[simp] theorem State.recapture_blobOverflow (u : Surface) : (s.recapture u).blobOverflow = s.blobOverflow :=
    by simp [State.recapture]
@[simp] theorem State.recapture_base (u : Surface) : (s.recapture u).base = s.base :=
    by simp [State.recapture]
@[simp] theorem State.recapture_tracks (u : Surface) : (s.recapture u).tracks = s.tracks :=
    by simp [State.recapture]
@[simp] theorem State.recapture_palm (u : Surface) : (s.recapture u).palm = s.palm :=
    by simp [State.recapture]
@[simp] theorem State.recapture_pen (u : Surface) : (s.recapture u).pen = s.pen := by simp [State.recapture]
@[simp] theorem State.recapture_posture (u : Surface) : (s.recapture u).posture = s.posture :=
    by simp [State.recapture]
@[simp] theorem State.recapture_angle (u : Surface) : (s.recapture u).angle = s.angle :=
    by simp [State.recapture]
@[simp] theorem State.recapture_gestures (u : Surface) : (s.recapture u).gestures = s.gestures :=
    by simp [State.recapture]
@[simp] theorem State.recapture_motion (u : Surface) : (s.recapture u).motion = s.motion :=
    by simp [State.recapture]
@[simp] theorem State.recapture_tables (u : Surface) : (s.recapture u).tables = s.tables :=
    by simp [State.recapture]

/-! ## `State.clearAcquire` -/

@[simp] theorem State.clearAcquire_pending (u : Surface) : (s.clearAcquire u).pending = s.pending := rfl
@[simp] theorem State.clearAcquire_linkOut (u : Surface) : (s.clearAcquire u).linkOut = s.linkOut := rfl
@[simp] theorem State.clearAcquire_now (u : Surface) : (s.clearAcquire u).now = s.now := rfl
@[simp] theorem State.clearAcquire_pinHeld (u : Surface) : (s.clearAcquire u).pinHeld = s.pinHeld := rfl
@[simp] theorem State.clearAcquire_intake (u : Surface) : (s.clearAcquire u).intake = s.intake := rfl
@[simp] theorem State.clearAcquire_blobOverflow (u : Surface) : (s.clearAcquire u).blobOverflow = s.blobOverflow :=
    rfl
@[simp] theorem State.clearAcquire_engine (u : Surface) : (s.clearAcquire u).engine = s.engine := rfl
@[simp] theorem State.clearAcquire_tracks (u : Surface) : (s.clearAcquire u).tracks = s.tracks := rfl
@[simp] theorem State.clearAcquire_palm (u : Surface) : (s.clearAcquire u).palm = s.palm := rfl
@[simp] theorem State.clearAcquire_pen (u : Surface) : (s.clearAcquire u).pen = s.pen := rfl
@[simp] theorem State.clearAcquire_posture (u : Surface) : (s.clearAcquire u).posture = s.posture := rfl
@[simp] theorem State.clearAcquire_angle (u : Surface) : (s.clearAcquire u).angle = s.angle := rfl
@[simp] theorem State.clearAcquire_gestures (u : Surface) : (s.clearAcquire u).gestures = s.gestures := rfl
@[simp] theorem State.clearAcquire_motion (u : Surface) : (s.clearAcquire u).motion = s.motion := rfl
@[simp] theorem State.clearAcquire_tables (u : Surface) : (s.clearAcquire u).tables = s.tables := rfl
@[simp] theorem State.clearAcquire_queue (u : Surface) : (s.clearAcquire u).queue = s.queue := rfl
@[simp] theorem State.clearAcquire_link (u : Surface) : (s.clearAcquire u).link = s.link := rfl

/-! ## `State.reportContacts` -/

@[simp] theorem State.reportContacts_pending (u : Surface) (c : ContactCause) : (s.reportContacts u c).pending = s.pending :=
    by simp [State.reportContacts]
@[simp] theorem State.reportContacts_linkOut (u : Surface) (c : ContactCause) : (s.reportContacts u c).linkOut = s.linkOut :=
    by simp [State.reportContacts]
@[simp] theorem State.reportContacts_now (u : Surface) (c : ContactCause) : (s.reportContacts u c).now = s.now :=
    by simp [State.reportContacts]
@[simp] theorem State.reportContacts_pinHeld (u : Surface) (c : ContactCause) : (s.reportContacts u c).pinHeld = s.pinHeld :=
    by simp [State.reportContacts]
@[simp] theorem State.reportContacts_intake (u : Surface) (c : ContactCause) : (s.reportContacts u c).intake = s.intake :=
    by simp [State.reportContacts]
@[simp] theorem State.reportContacts_blobOverflow (u : Surface) (c : ContactCause) : (s.reportContacts u c).blobOverflow = s.blobOverflow :=
    by simp [State.reportContacts]
@[simp] theorem State.reportContacts_engine (u : Surface) (c : ContactCause) : (s.reportContacts u c).engine = s.engine :=
    by simp [State.reportContacts]
@[simp] theorem State.reportContacts_base (u : Surface) (c : ContactCause) : (s.reportContacts u c).base = s.base :=
    by simp [State.reportContacts]
@[simp] theorem State.reportContacts_palm (u : Surface) (c : ContactCause) : (s.reportContacts u c).palm = s.palm :=
    by simp [State.reportContacts]
@[simp] theorem State.reportContacts_pen (u : Surface) (c : ContactCause) : (s.reportContacts u c).pen = s.pen :=
    by simp [State.reportContacts]
@[simp] theorem State.reportContacts_posture (u : Surface) (c : ContactCause) : (s.reportContacts u c).posture = s.posture :=
    by simp [State.reportContacts]
@[simp] theorem State.reportContacts_angle (u : Surface) (c : ContactCause) : (s.reportContacts u c).angle = s.angle :=
    by simp [State.reportContacts]
@[simp] theorem State.reportContacts_gestures (u : Surface) (c : ContactCause) : (s.reportContacts u c).gestures = s.gestures :=
    by simp [State.reportContacts]
@[simp] theorem State.reportContacts_motion (u : Surface) (c : ContactCause) : (s.reportContacts u c).motion = s.motion :=
    by simp [State.reportContacts]
@[simp] theorem State.reportContacts_tables (u : Surface) (c : ContactCause) : (s.reportContacts u c).tables = s.tables :=
    by simp [State.reportContacts]
@[simp] theorem State.reportContacts_link (u : Surface) (c : ContactCause) : (s.reportContacts u c).link = s.link :=
    by simp [State.reportContacts]

/-! ## `State.catchUp` -/

@[simp] theorem State.catchUp_pending (u : Surface) : (s.catchUp u).pending = s.pending :=
    by simp [State.catchUp, apply_ite State.pending]
@[simp] theorem State.catchUp_linkOut (u : Surface) : (s.catchUp u).linkOut = s.linkOut :=
    by simp [State.catchUp, apply_ite State.linkOut]
@[simp] theorem State.catchUp_now (u : Surface) : (s.catchUp u).now = s.now :=
    by simp [State.catchUp, apply_ite State.now]
@[simp] theorem State.catchUp_pinHeld (u : Surface) : (s.catchUp u).pinHeld = s.pinHeld :=
    by simp [State.catchUp, apply_ite State.pinHeld]
@[simp] theorem State.catchUp_intake (u : Surface) : (s.catchUp u).intake = s.intake :=
    by simp [State.catchUp, apply_ite State.intake]
@[simp] theorem State.catchUp_blobOverflow (u : Surface) : (s.catchUp u).blobOverflow = s.blobOverflow :=
    by simp [State.catchUp, apply_ite State.blobOverflow]
@[simp] theorem State.catchUp_engine (u : Surface) : (s.catchUp u).engine = s.engine :=
    by simp [State.catchUp, apply_ite State.engine]
@[simp] theorem State.catchUp_base (u : Surface) : (s.catchUp u).base = s.base :=
    by simp [State.catchUp, apply_ite State.base]
@[simp] theorem State.catchUp_palm (u : Surface) : (s.catchUp u).palm = s.palm :=
    by simp [State.catchUp, apply_ite State.palm]
@[simp] theorem State.catchUp_pen (u : Surface) : (s.catchUp u).pen = s.pen :=
    by simp [State.catchUp, apply_ite State.pen]
@[simp] theorem State.catchUp_posture (u : Surface) : (s.catchUp u).posture = s.posture :=
    by simp [State.catchUp, apply_ite State.posture]
@[simp] theorem State.catchUp_angle (u : Surface) : (s.catchUp u).angle = s.angle :=
    by simp [State.catchUp, apply_ite State.angle]
@[simp] theorem State.catchUp_gestures (u : Surface) : (s.catchUp u).gestures = s.gestures :=
    by simp [State.catchUp, apply_ite State.gestures]
@[simp] theorem State.catchUp_motion (u : Surface) : (s.catchUp u).motion = s.motion :=
    by simp [State.catchUp, apply_ite State.motion]
@[simp] theorem State.catchUp_tables (u : Surface) : (s.catchUp u).tables = s.tables :=
    by simp [State.catchUp, apply_ite State.tables]
@[simp] theorem State.catchUp_link (u : Surface) : (s.catchUp u).link = s.link :=
    by simp [State.catchUp, apply_ite State.link]

/-! ## `State.releaseTrack` -/

@[simp] theorem State.releaseTrack_pending (r : TrackRef) (k : Nat) : (s.releaseTrack r k).pending = s.pending :=
    rfl
@[simp] theorem State.releaseTrack_linkOut (r : TrackRef) (k : Nat) : (s.releaseTrack r k).linkOut = s.linkOut :=
    rfl
@[simp] theorem State.releaseTrack_now (r : TrackRef) (k : Nat) : (s.releaseTrack r k).now = s.now := rfl
@[simp] theorem State.releaseTrack_pinHeld (r : TrackRef) (k : Nat) : (s.releaseTrack r k).pinHeld = s.pinHeld :=
    rfl
@[simp] theorem State.releaseTrack_intake (r : TrackRef) (k : Nat) : (s.releaseTrack r k).intake = s.intake :=
    rfl
@[simp] theorem State.releaseTrack_blobOverflow (r : TrackRef) (k : Nat) : (s.releaseTrack r k).blobOverflow = s.blobOverflow :=
    rfl
@[simp] theorem State.releaseTrack_engine (r : TrackRef) (k : Nat) : (s.releaseTrack r k).engine = s.engine :=
    rfl
@[simp] theorem State.releaseTrack_base (r : TrackRef) (k : Nat) : (s.releaseTrack r k).base = s.base := rfl
@[simp] theorem State.releaseTrack_palm (r : TrackRef) (k : Nat) : (s.releaseTrack r k).palm = s.palm := rfl
@[simp] theorem State.releaseTrack_pen (r : TrackRef) (k : Nat) : (s.releaseTrack r k).pen = s.pen := rfl
@[simp] theorem State.releaseTrack_posture (r : TrackRef) (k : Nat) : (s.releaseTrack r k).posture = s.posture :=
    rfl
@[simp] theorem State.releaseTrack_angle (r : TrackRef) (k : Nat) : (s.releaseTrack r k).angle = s.angle :=
    rfl
@[simp] theorem State.releaseTrack_gestures (r : TrackRef) (k : Nat) : (s.releaseTrack r k).gestures = s.gestures :=
    rfl
@[simp] theorem State.releaseTrack_motion (r : TrackRef) (k : Nat) : (s.releaseTrack r k).motion = s.motion :=
    rfl
@[simp] theorem State.releaseTrack_tables (r : TrackRef) (k : Nat) : (s.releaseTrack r k).tables = s.tables :=
    rfl
@[simp] theorem State.releaseTrack_queue (r : TrackRef) (k : Nat) : (s.releaseTrack r k).queue = s.queue :=
    rfl
@[simp] theorem State.releaseTrack_link (r : TrackRef) (k : Nat) : (s.releaseTrack r k).link = s.link := rfl

/-! ## `State.dropClaim` -/

@[simp] theorem State.dropClaim_pending (k : Nat) (r : TrackRef) : (s.dropClaim k r).pending = s.pending := by
  unfold State.dropClaim
  split
  · split <;> simp
  · simp
@[simp] theorem State.dropClaim_linkOut (k : Nat) (r : TrackRef) : (s.dropClaim k r).linkOut = s.linkOut := by
  unfold State.dropClaim
  split
  · split <;> simp
  · simp
@[simp] theorem State.dropClaim_now (k : Nat) (r : TrackRef) : (s.dropClaim k r).now = s.now := by
  unfold State.dropClaim
  split
  · split <;> simp
  · simp
@[simp] theorem State.dropClaim_pinHeld (k : Nat) (r : TrackRef) : (s.dropClaim k r).pinHeld = s.pinHeld := by
  unfold State.dropClaim
  split
  · split <;> simp
  · simp
@[simp] theorem State.dropClaim_intake (k : Nat) (r : TrackRef) : (s.dropClaim k r).intake = s.intake := by
  unfold State.dropClaim
  split
  · split <;> simp
  · simp
@[simp] theorem State.dropClaim_blobOverflow (k : Nat) (r : TrackRef) : (s.dropClaim k r).blobOverflow = s.blobOverflow :=
    by
  unfold State.dropClaim
  split
  · split <;> simp
  · simp
@[simp] theorem State.dropClaim_engine (k : Nat) (r : TrackRef) : (s.dropClaim k r).engine = s.engine := by
  unfold State.dropClaim
  split
  · split <;> simp
  · simp
@[simp] theorem State.dropClaim_base (k : Nat) (r : TrackRef) : (s.dropClaim k r).base = s.base := by
  unfold State.dropClaim
  split
  · split <;> simp
  · simp
@[simp] theorem State.dropClaim_tracks (k : Nat) (r : TrackRef) : (s.dropClaim k r).tracks = s.tracks := by
  unfold State.dropClaim
  split
  · split <;> simp
  · simp
@[simp] theorem State.dropClaim_palm (k : Nat) (r : TrackRef) : (s.dropClaim k r).palm = s.palm := by
  unfold State.dropClaim
  split
  · split <;> simp
  · simp
@[simp] theorem State.dropClaim_pen (k : Nat) (r : TrackRef) : (s.dropClaim k r).pen = s.pen := by
  unfold State.dropClaim
  split
  · split <;> simp
  · simp
@[simp] theorem State.dropClaim_posture (k : Nat) (r : TrackRef) : (s.dropClaim k r).posture = s.posture := by
  unfold State.dropClaim
  split
  · split <;> simp
  · simp
@[simp] theorem State.dropClaim_angle (k : Nat) (r : TrackRef) : (s.dropClaim k r).angle = s.angle := by
  unfold State.dropClaim
  split
  · split <;> simp
  · simp
@[simp] theorem State.dropClaim_tables (k : Nat) (r : TrackRef) : (s.dropClaim k r).tables = s.tables := by
  unfold State.dropClaim
  split
  · split <;> simp
  · simp
@[simp] theorem State.dropClaim_queue (k : Nat) (r : TrackRef) : (s.dropClaim k r).queue = s.queue := by
  unfold State.dropClaim
  split
  · split <;> simp
  · simp
@[simp] theorem State.dropClaim_link (k : Nat) (r : TrackRef) : (s.dropClaim k r).link = s.link := by
  unfold State.dropClaim
  split
  · split <;> simp
  · simp

/-! ## `State.giveUp` -/

@[simp] theorem State.giveUp_pending (k : Nat) (r : TrackRef) : (s.giveUp k r).pending = s.pending :=
    by simp [State.giveUp]
@[simp] theorem State.giveUp_linkOut (k : Nat) (r : TrackRef) : (s.giveUp k r).linkOut = s.linkOut :=
    by simp [State.giveUp]
@[simp] theorem State.giveUp_now (k : Nat) (r : TrackRef) : (s.giveUp k r).now = s.now :=
    by simp [State.giveUp]
@[simp] theorem State.giveUp_pinHeld (k : Nat) (r : TrackRef) : (s.giveUp k r).pinHeld = s.pinHeld :=
    by simp [State.giveUp]
@[simp] theorem State.giveUp_intake (k : Nat) (r : TrackRef) : (s.giveUp k r).intake = s.intake :=
    by simp [State.giveUp]
@[simp] theorem State.giveUp_blobOverflow (k : Nat) (r : TrackRef) : (s.giveUp k r).blobOverflow = s.blobOverflow :=
    by simp [State.giveUp]
@[simp] theorem State.giveUp_engine (k : Nat) (r : TrackRef) : (s.giveUp k r).engine = s.engine :=
    by simp [State.giveUp]
@[simp] theorem State.giveUp_base (k : Nat) (r : TrackRef) : (s.giveUp k r).base = s.base :=
    by simp [State.giveUp]
@[simp] theorem State.giveUp_palm (k : Nat) (r : TrackRef) : (s.giveUp k r).palm = s.palm :=
    by simp [State.giveUp]
@[simp] theorem State.giveUp_pen (k : Nat) (r : TrackRef) : (s.giveUp k r).pen = s.pen :=
    by simp [State.giveUp]
@[simp] theorem State.giveUp_posture (k : Nat) (r : TrackRef) : (s.giveUp k r).posture = s.posture :=
    by simp [State.giveUp]
@[simp] theorem State.giveUp_angle (k : Nat) (r : TrackRef) : (s.giveUp k r).angle = s.angle :=
    by simp [State.giveUp]
@[simp] theorem State.giveUp_tables (k : Nat) (r : TrackRef) : (s.giveUp k r).tables = s.tables :=
    by simp [State.giveUp]
@[simp] theorem State.giveUp_queue (k : Nat) (r : TrackRef) : (s.giveUp k r).queue = s.queue :=
    by simp [State.giveUp]
@[simp] theorem State.giveUp_link (k : Nat) (r : TrackRef) : (s.giveUp k r).link = s.link :=
    by simp [State.giveUp]

/-! ## `State.offerPointer` -/

@[simp] theorem State.offerPointer_pending (t : Time) (m : Motion) : (s.offerPointer t m).pending = s.pending :=
    by
  simp only [State.offerPointer]
  split
  · simp
  · split <;> simp
@[simp] theorem State.offerPointer_linkOut (t : Time) (m : Motion) : (s.offerPointer t m).linkOut = s.linkOut :=
    by
  simp only [State.offerPointer]
  split
  · simp
  · split <;> simp
@[simp] theorem State.offerPointer_now (t : Time) (m : Motion) : (s.offerPointer t m).now = s.now := by
  simp only [State.offerPointer]
  split
  · simp
  · split <;> simp
@[simp] theorem State.offerPointer_pinHeld (t : Time) (m : Motion) : (s.offerPointer t m).pinHeld = s.pinHeld :=
    by
  simp only [State.offerPointer]
  split
  · simp
  · split <;> simp
@[simp] theorem State.offerPointer_intake (t : Time) (m : Motion) : (s.offerPointer t m).intake = s.intake :=
    by
  simp only [State.offerPointer]
  split
  · simp
  · split <;> simp
@[simp] theorem State.offerPointer_blobOverflow (t : Time) (m : Motion) : (s.offerPointer t m).blobOverflow = s.blobOverflow :=
    by
  simp only [State.offerPointer]
  split
  · simp
  · split <;> simp
@[simp] theorem State.offerPointer_engine (t : Time) (m : Motion) : (s.offerPointer t m).engine = s.engine :=
    by
  simp only [State.offerPointer]
  split
  · simp
  · split <;> simp
@[simp] theorem State.offerPointer_base (t : Time) (m : Motion) : (s.offerPointer t m).base = s.base := by
  simp only [State.offerPointer]
  split
  · simp
  · split <;> simp
@[simp] theorem State.offerPointer_tracks (t : Time) (m : Motion) : (s.offerPointer t m).tracks = s.tracks :=
    by
  simp only [State.offerPointer]
  split
  · simp
  · split <;> simp
@[simp] theorem State.offerPointer_palm (t : Time) (m : Motion) : (s.offerPointer t m).palm = s.palm := by
  simp only [State.offerPointer]
  split
  · simp
  · split <;> simp
@[simp] theorem State.offerPointer_pen (t : Time) (m : Motion) : (s.offerPointer t m).pen = s.pen := by
  simp only [State.offerPointer]
  split
  · simp
  · split <;> simp
@[simp] theorem State.offerPointer_posture (t : Time) (m : Motion) : (s.offerPointer t m).posture = s.posture :=
    by
  simp only [State.offerPointer]
  split
  · simp
  · split <;> simp
@[simp] theorem State.offerPointer_angle (t : Time) (m : Motion) : (s.offerPointer t m).angle = s.angle := by
  simp only [State.offerPointer]
  split
  · simp
  · split <;> simp
@[simp] theorem State.offerPointer_gestures (t : Time) (m : Motion) : (s.offerPointer t m).gestures = s.gestures :=
    by
  simp only [State.offerPointer]
  split
  · simp
  · split <;> simp
@[simp] theorem State.offerPointer_tables (t : Time) (m : Motion) : (s.offerPointer t m).tables = s.tables :=
    by
  simp only [State.offerPointer]
  split
  · simp
  · split <;> simp
@[simp] theorem State.offerPointer_link (t : Time) (m : Motion) : (s.offerPointer t m).link = s.link := by
  simp only [State.offerPointer]
  split
  · simp
  · split <;> simp

/-! ## `State.offerUnsent` -/

@[simp] theorem State.offerUnsent_pending : (s.offerUnsent).pending = s.pending := by
  unfold State.offerUnsent
  split <;> simp
@[simp] theorem State.offerUnsent_linkOut : (s.offerUnsent).linkOut = s.linkOut := by
  unfold State.offerUnsent
  split <;> simp
@[simp] theorem State.offerUnsent_now : (s.offerUnsent).now = s.now := by
  unfold State.offerUnsent
  split <;> simp
@[simp] theorem State.offerUnsent_pinHeld : (s.offerUnsent).pinHeld = s.pinHeld := by
  unfold State.offerUnsent
  split <;> simp
@[simp] theorem State.offerUnsent_intake : (s.offerUnsent).intake = s.intake := by
  unfold State.offerUnsent
  split <;> simp
@[simp] theorem State.offerUnsent_blobOverflow : (s.offerUnsent).blobOverflow = s.blobOverflow := by
  unfold State.offerUnsent
  split <;> simp
@[simp] theorem State.offerUnsent_engine : (s.offerUnsent).engine = s.engine := by
  unfold State.offerUnsent
  split <;> simp
@[simp] theorem State.offerUnsent_base : (s.offerUnsent).base = s.base := by
  unfold State.offerUnsent
  split <;> simp
@[simp] theorem State.offerUnsent_tracks : (s.offerUnsent).tracks = s.tracks := by
  unfold State.offerUnsent
  split <;> simp
@[simp] theorem State.offerUnsent_palm : (s.offerUnsent).palm = s.palm := by
  unfold State.offerUnsent
  split <;> simp
@[simp] theorem State.offerUnsent_pen : (s.offerUnsent).pen = s.pen := by
  unfold State.offerUnsent
  split <;> simp
@[simp] theorem State.offerUnsent_posture : (s.offerUnsent).posture = s.posture := by
  unfold State.offerUnsent
  split <;> simp
@[simp] theorem State.offerUnsent_angle : (s.offerUnsent).angle = s.angle := by
  unfold State.offerUnsent
  split <;> simp
@[simp] theorem State.offerUnsent_gestures : (s.offerUnsent).gestures = s.gestures := by
  unfold State.offerUnsent
  split <;> simp
@[simp] theorem State.offerUnsent_tables : (s.offerUnsent).tables = s.tables := by
  unfold State.offerUnsent
  split <;> simp
@[simp] theorem State.offerUnsent_link : (s.offerUnsent).link = s.link := by
  unfold State.offerUnsent
  split <;> simp

/-! ## `State.offerClick` -/

@[simp] theorem State.offerClick_pending (t : Time) : (s.offerClick t).pending = s.pending :=
    by simp [State.offerClick]
@[simp] theorem State.offerClick_linkOut (t : Time) : (s.offerClick t).linkOut = s.linkOut :=
    by simp [State.offerClick]
@[simp] theorem State.offerClick_now (t : Time) : (s.offerClick t).now = s.now := by simp [State.offerClick]
@[simp] theorem State.offerClick_pinHeld (t : Time) : (s.offerClick t).pinHeld = s.pinHeld :=
    by simp [State.offerClick]
@[simp] theorem State.offerClick_intake (t : Time) : (s.offerClick t).intake = s.intake :=
    by simp [State.offerClick]
@[simp] theorem State.offerClick_blobOverflow (t : Time) : (s.offerClick t).blobOverflow = s.blobOverflow :=
    by simp [State.offerClick]
@[simp] theorem State.offerClick_engine (t : Time) : (s.offerClick t).engine = s.engine :=
    by simp [State.offerClick]
@[simp] theorem State.offerClick_base (t : Time) : (s.offerClick t).base = s.base :=
    by simp [State.offerClick]
@[simp] theorem State.offerClick_tracks (t : Time) : (s.offerClick t).tracks = s.tracks :=
    by simp [State.offerClick]
@[simp] theorem State.offerClick_palm (t : Time) : (s.offerClick t).palm = s.palm :=
    by simp [State.offerClick]
@[simp] theorem State.offerClick_pen (t : Time) : (s.offerClick t).pen = s.pen := by simp [State.offerClick]
@[simp] theorem State.offerClick_posture (t : Time) : (s.offerClick t).posture = s.posture :=
    by simp [State.offerClick]
@[simp] theorem State.offerClick_angle (t : Time) : (s.offerClick t).angle = s.angle :=
    by simp [State.offerClick]
@[simp] theorem State.offerClick_gestures (t : Time) : (s.offerClick t).gestures = s.gestures :=
    by simp [State.offerClick]
@[simp] theorem State.offerClick_tables (t : Time) : (s.offerClick t).tables = s.tables :=
    by simp [State.offerClick]
@[simp] theorem State.offerClick_link (t : Time) : (s.offerClick t).link = s.link :=
    by simp [State.offerClick]

/-! ## `State.releaseButtons` -/

@[simp] theorem State.releaseButtons_pending (t : Time) (c : ContextRef) : (s.releaseButtons t c).pending = s.pending :=
    by simp [State.releaseButtons, apply_ite State.pending]
@[simp] theorem State.releaseButtons_linkOut (t : Time) (c : ContextRef) : (s.releaseButtons t c).linkOut = s.linkOut :=
    by simp [State.releaseButtons, apply_ite State.linkOut]
@[simp] theorem State.releaseButtons_now (t : Time) (c : ContextRef) : (s.releaseButtons t c).now = s.now :=
    by simp [State.releaseButtons, apply_ite State.now]
@[simp] theorem State.releaseButtons_pinHeld (t : Time) (c : ContextRef) : (s.releaseButtons t c).pinHeld = s.pinHeld :=
    by simp [State.releaseButtons, apply_ite State.pinHeld]
@[simp] theorem State.releaseButtons_intake (t : Time) (c : ContextRef) : (s.releaseButtons t c).intake = s.intake :=
    by simp [State.releaseButtons, apply_ite State.intake]
@[simp] theorem State.releaseButtons_blobOverflow (t : Time) (c : ContextRef) : (s.releaseButtons t c).blobOverflow = s.blobOverflow :=
    by simp [State.releaseButtons, apply_ite State.blobOverflow]
@[simp] theorem State.releaseButtons_engine (t : Time) (c : ContextRef) : (s.releaseButtons t c).engine = s.engine :=
    by simp [State.releaseButtons, apply_ite State.engine]
@[simp] theorem State.releaseButtons_base (t : Time) (c : ContextRef) : (s.releaseButtons t c).base = s.base :=
    by simp [State.releaseButtons, apply_ite State.base]
@[simp] theorem State.releaseButtons_tracks (t : Time) (c : ContextRef) : (s.releaseButtons t c).tracks = s.tracks :=
    by simp [State.releaseButtons, apply_ite State.tracks]
@[simp] theorem State.releaseButtons_palm (t : Time) (c : ContextRef) : (s.releaseButtons t c).palm = s.palm :=
    by simp [State.releaseButtons, apply_ite State.palm]
@[simp] theorem State.releaseButtons_pen (t : Time) (c : ContextRef) : (s.releaseButtons t c).pen = s.pen :=
    by simp [State.releaseButtons, apply_ite State.pen]
@[simp] theorem State.releaseButtons_posture (t : Time) (c : ContextRef) : (s.releaseButtons t c).posture = s.posture :=
    by simp [State.releaseButtons, apply_ite State.posture]
@[simp] theorem State.releaseButtons_angle (t : Time) (c : ContextRef) : (s.releaseButtons t c).angle = s.angle :=
    by simp [State.releaseButtons, apply_ite State.angle]
@[simp] theorem State.releaseButtons_gestures (t : Time) (c : ContextRef) : (s.releaseButtons t c).gestures = s.gestures :=
    by simp [State.releaseButtons, apply_ite State.gestures]
@[simp] theorem State.releaseButtons_tables (t : Time) (c : ContextRef) : (s.releaseButtons t c).tables = s.tables :=
    by simp [State.releaseButtons, apply_ite State.tables]
@[simp] theorem State.releaseButtons_link (t : Time) (c : ContextRef) : (s.releaseButtons t c).link = s.link :=
    by simp [State.releaseButtons, apply_ite State.link]

/-! ## `State.offerPen` -/

@[simp] theorem State.offerPen_pending (r : PenReport) : (s.offerPen r).pending = s.pending := by
  simp only [State.offerPen]
  repeat' split
  all_goals simp
@[simp] theorem State.offerPen_linkOut (r : PenReport) : (s.offerPen r).linkOut = s.linkOut := by
  simp only [State.offerPen]
  repeat' split
  all_goals simp
@[simp] theorem State.offerPen_now (r : PenReport) : (s.offerPen r).now = s.now := by
  simp only [State.offerPen]
  repeat' split
  all_goals simp
@[simp] theorem State.offerPen_pinHeld (r : PenReport) : (s.offerPen r).pinHeld = s.pinHeld := by
  simp only [State.offerPen]
  repeat' split
  all_goals simp
@[simp] theorem State.offerPen_intake (r : PenReport) : (s.offerPen r).intake = s.intake := by
  simp only [State.offerPen]
  repeat' split
  all_goals simp
@[simp] theorem State.offerPen_blobOverflow (r : PenReport) : (s.offerPen r).blobOverflow = s.blobOverflow :=
    by
  simp only [State.offerPen]
  repeat' split
  all_goals simp
@[simp] theorem State.offerPen_engine (r : PenReport) : (s.offerPen r).engine = s.engine := by
  simp only [State.offerPen]
  repeat' split
  all_goals simp
@[simp] theorem State.offerPen_base (r : PenReport) : (s.offerPen r).base = s.base := by
  simp only [State.offerPen]
  repeat' split
  all_goals simp
@[simp] theorem State.offerPen_tracks (r : PenReport) : (s.offerPen r).tracks = s.tracks := by
  simp only [State.offerPen]
  repeat' split
  all_goals simp
@[simp] theorem State.offerPen_palm (r : PenReport) : (s.offerPen r).palm = s.palm := by
  simp only [State.offerPen]
  repeat' split
  all_goals simp
@[simp] theorem State.offerPen_pen (r : PenReport) : (s.offerPen r).pen = s.pen := by
  simp only [State.offerPen]
  repeat' split
  all_goals simp
@[simp] theorem State.offerPen_posture (r : PenReport) : (s.offerPen r).posture = s.posture := by
  simp only [State.offerPen]
  repeat' split
  all_goals simp
@[simp] theorem State.offerPen_angle (r : PenReport) : (s.offerPen r).angle = s.angle := by
  simp only [State.offerPen]
  repeat' split
  all_goals simp
@[simp] theorem State.offerPen_gestures (r : PenReport) : (s.offerPen r).gestures = s.gestures := by
  simp only [State.offerPen]
  repeat' split
  all_goals simp
@[simp] theorem State.offerPen_motion (r : PenReport) : (s.offerPen r).motion = s.motion := by
  simp only [State.offerPen]
  repeat' split
  all_goals simp
@[simp] theorem State.offerPen_tables (r : PenReport) : (s.offerPen r).tables = s.tables := by
  simp only [State.offerPen]
  repeat' split
  all_goals simp

/-! ## `State.reportPen` -/

@[simp] theorem State.reportPen_pending (p : PenShown) (a b : Bool) : (s.reportPen p a b).pending = s.pending :=
    by simp [State.reportPen]
@[simp] theorem State.reportPen_linkOut (p : PenShown) (a b : Bool) : (s.reportPen p a b).linkOut = s.linkOut :=
    by simp [State.reportPen]
@[simp] theorem State.reportPen_now (p : PenShown) (a b : Bool) : (s.reportPen p a b).now = s.now :=
    by simp [State.reportPen]
@[simp] theorem State.reportPen_pinHeld (p : PenShown) (a b : Bool) : (s.reportPen p a b).pinHeld = s.pinHeld :=
    by simp [State.reportPen]
@[simp] theorem State.reportPen_intake (p : PenShown) (a b : Bool) : (s.reportPen p a b).intake = s.intake :=
    by simp [State.reportPen]
@[simp] theorem State.reportPen_blobOverflow (p : PenShown) (a b : Bool) : (s.reportPen p a b).blobOverflow = s.blobOverflow :=
    by simp [State.reportPen]
@[simp] theorem State.reportPen_engine (p : PenShown) (a b : Bool) : (s.reportPen p a b).engine = s.engine :=
    by simp [State.reportPen]
@[simp] theorem State.reportPen_base (p : PenShown) (a b : Bool) : (s.reportPen p a b).base = s.base :=
    by simp [State.reportPen]
@[simp] theorem State.reportPen_tracks (p : PenShown) (a b : Bool) : (s.reportPen p a b).tracks = s.tracks :=
    by simp [State.reportPen]
@[simp] theorem State.reportPen_palm (p : PenShown) (a b : Bool) : (s.reportPen p a b).palm = s.palm :=
    by simp [State.reportPen]
@[simp] theorem State.reportPen_pen (p : PenShown) (a b : Bool) : (s.reportPen p a b).pen = s.pen :=
    by simp [State.reportPen]
@[simp] theorem State.reportPen_posture (p : PenShown) (a b : Bool) : (s.reportPen p a b).posture = s.posture :=
    by simp [State.reportPen]
@[simp] theorem State.reportPen_angle (p : PenShown) (a b : Bool) : (s.reportPen p a b).angle = s.angle :=
    by simp [State.reportPen]
@[simp] theorem State.reportPen_gestures (p : PenShown) (a b : Bool) : (s.reportPen p a b).gestures = s.gestures :=
    by simp [State.reportPen]
@[simp] theorem State.reportPen_motion (p : PenShown) (a b : Bool) : (s.reportPen p a b).motion = s.motion :=
    by simp [State.reportPen]
@[simp] theorem State.reportPen_tables (p : PenShown) (a b : Bool) : (s.reportPen p a b).tables = s.tables :=
    by simp [State.reportPen]

/-! ## `State.handPenInk` -/

@[simp] theorem State.handPenInk_pending : (s.handPenInk).pending = s.pending := rfl
@[simp] theorem State.handPenInk_linkOut : (s.handPenInk).linkOut = s.linkOut := rfl
@[simp] theorem State.handPenInk_now : (s.handPenInk).now = s.now := rfl
@[simp] theorem State.handPenInk_pinHeld : (s.handPenInk).pinHeld = s.pinHeld := rfl
@[simp] theorem State.handPenInk_intake : (s.handPenInk).intake = s.intake := rfl
@[simp] theorem State.handPenInk_blobOverflow : (s.handPenInk).blobOverflow = s.blobOverflow := rfl
@[simp] theorem State.handPenInk_engine : (s.handPenInk).engine = s.engine := rfl
@[simp] theorem State.handPenInk_base : (s.handPenInk).base = s.base := rfl
@[simp] theorem State.handPenInk_tracks : (s.handPenInk).tracks = s.tracks := rfl
@[simp] theorem State.handPenInk_palm : (s.handPenInk).palm = s.palm := rfl
@[simp] theorem State.handPenInk_pen : (s.handPenInk).pen = s.pen := rfl
@[simp] theorem State.handPenInk_posture : (s.handPenInk).posture = s.posture := rfl
@[simp] theorem State.handPenInk_angle : (s.handPenInk).angle = s.angle := rfl
@[simp] theorem State.handPenInk_motion : (s.handPenInk).motion = s.motion := rfl
@[simp] theorem State.handPenInk_tables : (s.handPenInk).tables = s.tables := rfl
@[simp] theorem State.handPenInk_queue : (s.handPenInk).queue = s.queue := rfl
@[simp] theorem State.handPenInk_link : (s.handPenInk).link = s.link := rfl

/-! ## `State.penForcedExit` -/

@[simp] theorem State.penForcedExit_pending : (s.penForcedExit).pending = s.pending :=
    by simp [State.penForcedExit, apply_ite State.pending]
@[simp] theorem State.penForcedExit_linkOut : (s.penForcedExit).linkOut = s.linkOut :=
    by simp [State.penForcedExit, apply_ite State.linkOut]
@[simp] theorem State.penForcedExit_now : (s.penForcedExit).now = s.now :=
    by simp [State.penForcedExit, apply_ite State.now]
@[simp] theorem State.penForcedExit_pinHeld : (s.penForcedExit).pinHeld = s.pinHeld :=
    by simp [State.penForcedExit, apply_ite State.pinHeld]
@[simp] theorem State.penForcedExit_intake : (s.penForcedExit).intake = s.intake :=
    by simp [State.penForcedExit, apply_ite State.intake]
@[simp] theorem State.penForcedExit_blobOverflow : (s.penForcedExit).blobOverflow = s.blobOverflow :=
    by simp [State.penForcedExit, apply_ite State.blobOverflow]
@[simp] theorem State.penForcedExit_engine : (s.penForcedExit).engine = s.engine :=
    by simp [State.penForcedExit, apply_ite State.engine]
@[simp] theorem State.penForcedExit_base : (s.penForcedExit).base = s.base :=
    by simp [State.penForcedExit, apply_ite State.base]
@[simp] theorem State.penForcedExit_tracks : (s.penForcedExit).tracks = s.tracks :=
    by simp [State.penForcedExit, apply_ite State.tracks]
@[simp] theorem State.penForcedExit_palm : (s.penForcedExit).palm = s.palm :=
    by simp [State.penForcedExit, apply_ite State.palm]
@[simp] theorem State.penForcedExit_posture : (s.penForcedExit).posture = s.posture :=
    by simp [State.penForcedExit, apply_ite State.posture]
@[simp] theorem State.penForcedExit_angle : (s.penForcedExit).angle = s.angle :=
    by simp [State.penForcedExit, apply_ite State.angle]
@[simp] theorem State.penForcedExit_gestures : (s.penForcedExit).gestures = s.gestures :=
    by simp [State.penForcedExit, apply_ite State.gestures]
@[simp] theorem State.penForcedExit_motion : (s.penForcedExit).motion = s.motion :=
    by simp [State.penForcedExit, apply_ite State.motion]
@[simp] theorem State.penForcedExit_tables : (s.penForcedExit).tables = s.tables :=
    by simp [State.penForcedExit, apply_ite State.tables]

/-! ## `State.autoCancel` -/

@[simp] theorem State.autoCancel_pending (t : Time) (k : Nat) (c : Context) : (s.autoCancel t k c).pending = s.pending :=
    by
  unfold State.autoCancel
  split <;> simp
@[simp] theorem State.autoCancel_linkOut (t : Time) (k : Nat) (c : Context) : (s.autoCancel t k c).linkOut = s.linkOut :=
    by
  unfold State.autoCancel
  split <;> simp
@[simp] theorem State.autoCancel_now (t : Time) (k : Nat) (c : Context) : (s.autoCancel t k c).now = s.now :=
    by
  unfold State.autoCancel
  split <;> simp
@[simp] theorem State.autoCancel_pinHeld (t : Time) (k : Nat) (c : Context) : (s.autoCancel t k c).pinHeld = s.pinHeld :=
    by
  unfold State.autoCancel
  split <;> simp
@[simp] theorem State.autoCancel_intake (t : Time) (k : Nat) (c : Context) : (s.autoCancel t k c).intake = s.intake :=
    by
  unfold State.autoCancel
  split <;> simp
@[simp] theorem State.autoCancel_blobOverflow (t : Time) (k : Nat) (c : Context) : (s.autoCancel t k c).blobOverflow = s.blobOverflow :=
    by
  unfold State.autoCancel
  split <;> simp
@[simp] theorem State.autoCancel_engine (t : Time) (k : Nat) (c : Context) : (s.autoCancel t k c).engine = s.engine :=
    by
  unfold State.autoCancel
  split <;> simp
@[simp] theorem State.autoCancel_base (t : Time) (k : Nat) (c : Context) : (s.autoCancel t k c).base = s.base :=
    by
  unfold State.autoCancel
  split <;> simp
@[simp] theorem State.autoCancel_tracks (t : Time) (k : Nat) (c : Context) : (s.autoCancel t k c).tracks = s.tracks :=
    by
  unfold State.autoCancel
  split <;> simp
@[simp] theorem State.autoCancel_palm (t : Time) (k : Nat) (c : Context) : (s.autoCancel t k c).palm = s.palm :=
    by
  unfold State.autoCancel
  split <;> simp
@[simp] theorem State.autoCancel_pen (t : Time) (k : Nat) (c : Context) : (s.autoCancel t k c).pen = s.pen :=
    by
  unfold State.autoCancel
  split <;> simp
@[simp] theorem State.autoCancel_posture (t : Time) (k : Nat) (c : Context) : (s.autoCancel t k c).posture = s.posture :=
    by
  unfold State.autoCancel
  split <;> simp
@[simp] theorem State.autoCancel_angle (t : Time) (k : Nat) (c : Context) : (s.autoCancel t k c).angle = s.angle :=
    by
  unfold State.autoCancel
  split <;> simp
@[simp] theorem State.autoCancel_gestures (t : Time) (k : Nat) (c : Context) : (s.autoCancel t k c).gestures = s.gestures :=
    by
  unfold State.autoCancel
  split <;> simp
@[simp] theorem State.autoCancel_motion (t : Time) (k : Nat) (c : Context) : (s.autoCancel t k c).motion = s.motion :=
    by
  unfold State.autoCancel
  split <;> simp
@[simp] theorem State.autoCancel_tables (t : Time) (k : Nat) (c : Context) : (s.autoCancel t k c).tables = s.tables :=
    by
  unfold State.autoCancel
  split <;> simp

/-! ## `State.enableSurface` -/

@[simp] theorem State.enableSurface_pending (u : Surface) : (s.enableSurface u).pending = s.pending :=
    by simp [State.enableSurface, apply_ite State.pending]
@[simp] theorem State.enableSurface_linkOut (u : Surface) : (s.enableSurface u).linkOut = s.linkOut :=
    by simp [State.enableSurface, apply_ite State.linkOut]
@[simp] theorem State.enableSurface_now (u : Surface) : (s.enableSurface u).now = s.now :=
    by simp [State.enableSurface, apply_ite State.now]
@[simp] theorem State.enableSurface_pinHeld (u : Surface) : (s.enableSurface u).pinHeld = s.pinHeld :=
    by simp [State.enableSurface, apply_ite State.pinHeld]
@[simp] theorem State.enableSurface_blobOverflow (u : Surface) : (s.enableSurface u).blobOverflow = s.blobOverflow :=
    by simp [State.enableSurface, apply_ite State.blobOverflow]
@[simp] theorem State.enableSurface_base (u : Surface) : (s.enableSurface u).base = s.base :=
    by simp [State.enableSurface, apply_ite State.base]
@[simp] theorem State.enableSurface_tracks (u : Surface) : (s.enableSurface u).tracks = s.tracks :=
    by simp [State.enableSurface, apply_ite State.tracks]
@[simp] theorem State.enableSurface_palm (u : Surface) : (s.enableSurface u).palm = s.palm :=
    by simp [State.enableSurface, apply_ite State.palm]
@[simp] theorem State.enableSurface_pen (u : Surface) : (s.enableSurface u).pen = s.pen :=
    by simp [State.enableSurface, apply_ite State.pen]
@[simp] theorem State.enableSurface_posture (u : Surface) : (s.enableSurface u).posture = s.posture :=
    by simp [State.enableSurface, apply_ite State.posture]
@[simp] theorem State.enableSurface_angle (u : Surface) : (s.enableSurface u).angle = s.angle :=
    by simp [State.enableSurface, apply_ite State.angle]
@[simp] theorem State.enableSurface_gestures (u : Surface) : (s.enableSurface u).gestures = s.gestures :=
    by simp [State.enableSurface, apply_ite State.gestures]
@[simp] theorem State.enableSurface_motion (u : Surface) : (s.enableSurface u).motion = s.motion :=
    by simp [State.enableSurface, apply_ite State.motion]
@[simp] theorem State.enableSurface_tables (u : Surface) : (s.enableSurface u).tables = s.tables :=
    by simp [State.enableSurface, apply_ite State.tables]

/-! ## `State.disableSurface` -/

@[simp] theorem State.disableSurface_pending (u : Surface) : (s.disableSurface u).pending = s.pending :=
    by simp [State.disableSurface, apply_ite State.pending]
@[simp] theorem State.disableSurface_linkOut (u : Surface) : (s.disableSurface u).linkOut = s.linkOut :=
    by simp [State.disableSurface, apply_ite State.linkOut]
@[simp] theorem State.disableSurface_now (u : Surface) : (s.disableSurface u).now = s.now :=
    by simp [State.disableSurface, apply_ite State.now]
@[simp] theorem State.disableSurface_pinHeld (u : Surface) : (s.disableSurface u).pinHeld = s.pinHeld :=
    by simp [State.disableSurface, apply_ite State.pinHeld]
@[simp] theorem State.disableSurface_blobOverflow (u : Surface) : (s.disableSurface u).blobOverflow = s.blobOverflow :=
    by simp [State.disableSurface, apply_ite State.blobOverflow]
@[simp] theorem State.disableSurface_base (u : Surface) : (s.disableSurface u).base = s.base :=
    by simp [State.disableSurface, apply_ite State.base]
@[simp] theorem State.disableSurface_tracks (u : Surface) : (s.disableSurface u).tracks = s.tracks :=
    by simp [State.disableSurface, apply_ite State.tracks]
@[simp] theorem State.disableSurface_palm (u : Surface) : (s.disableSurface u).palm = s.palm :=
    by simp [State.disableSurface, apply_ite State.palm]
@[simp] theorem State.disableSurface_pen (u : Surface) : (s.disableSurface u).pen = s.pen :=
    by simp [State.disableSurface, apply_ite State.pen]
@[simp] theorem State.disableSurface_posture (u : Surface) : (s.disableSurface u).posture = s.posture :=
    by simp [State.disableSurface, apply_ite State.posture]
@[simp] theorem State.disableSurface_angle (u : Surface) : (s.disableSurface u).angle = s.angle :=
    by simp [State.disableSurface, apply_ite State.angle]
@[simp] theorem State.disableSurface_gestures (u : Surface) : (s.disableSurface u).gestures = s.gestures :=
    by simp [State.disableSurface, apply_ite State.gestures]
@[simp] theorem State.disableSurface_motion (u : Surface) : (s.disableSurface u).motion = s.motion :=
    by simp [State.disableSurface, apply_ite State.motion]
@[simp] theorem State.disableSurface_tables (u : Surface) : (s.disableSurface u).tables = s.tables :=
    by simp [State.disableSurface, apply_ite State.tables]
@[simp] theorem State.disableSurface_queue (u : Surface) : (s.disableSurface u).queue = s.queue :=
    by simp [State.disableSurface, apply_ite State.queue]
@[simp] theorem State.disableSurface_link (u : Surface) : (s.disableSurface u).link = s.link :=
    by simp [State.disableSurface, apply_ite State.link]

/-! ## `State.applySurface` -/

@[simp] theorem State.applySurface_pending (e : PostureEntry) (u : Surface) : (s.applySurface e u).pending = s.pending :=
    by simp [State.applySurface, apply_ite State.pending]
@[simp] theorem State.applySurface_linkOut (e : PostureEntry) (u : Surface) : (s.applySurface e u).linkOut = s.linkOut :=
    by simp [State.applySurface, apply_ite State.linkOut]
@[simp] theorem State.applySurface_now (e : PostureEntry) (u : Surface) : (s.applySurface e u).now = s.now :=
    by simp [State.applySurface, apply_ite State.now]
@[simp] theorem State.applySurface_pinHeld (e : PostureEntry) (u : Surface) : (s.applySurface e u).pinHeld = s.pinHeld :=
    by simp [State.applySurface, apply_ite State.pinHeld]
@[simp] theorem State.applySurface_blobOverflow (e : PostureEntry) (u : Surface) : (s.applySurface e u).blobOverflow = s.blobOverflow :=
    by simp [State.applySurface, apply_ite State.blobOverflow]
@[simp] theorem State.applySurface_base (e : PostureEntry) (u : Surface) : (s.applySurface e u).base = s.base :=
    by simp [State.applySurface, apply_ite State.base]
@[simp] theorem State.applySurface_tracks (e : PostureEntry) (u : Surface) : (s.applySurface e u).tracks = s.tracks :=
    by simp [State.applySurface, apply_ite State.tracks]
@[simp] theorem State.applySurface_palm (e : PostureEntry) (u : Surface) : (s.applySurface e u).palm = s.palm :=
    by simp [State.applySurface, apply_ite State.palm]
@[simp] theorem State.applySurface_pen (e : PostureEntry) (u : Surface) : (s.applySurface e u).pen = s.pen :=
    by simp [State.applySurface, apply_ite State.pen]
@[simp] theorem State.applySurface_posture (e : PostureEntry) (u : Surface) : (s.applySurface e u).posture = s.posture :=
    by simp [State.applySurface, apply_ite State.posture]
@[simp] theorem State.applySurface_angle (e : PostureEntry) (u : Surface) : (s.applySurface e u).angle = s.angle :=
    by simp [State.applySurface, apply_ite State.angle]
@[simp] theorem State.applySurface_gestures (e : PostureEntry) (u : Surface) : (s.applySurface e u).gestures = s.gestures :=
    by simp [State.applySurface, apply_ite State.gestures]
@[simp] theorem State.applySurface_motion (e : PostureEntry) (u : Surface) : (s.applySurface e u).motion = s.motion :=
    by simp [State.applySurface, apply_ite State.motion]
@[simp] theorem State.applySurface_tables (e : PostureEntry) (u : Surface) : (s.applySurface e u).tables = s.tables :=
    by simp [State.applySurface, apply_ite State.tables]

/-! ## `State.applyEntry` -/

@[simp] theorem State.applyEntry_pending : (s.applyEntry).pending = s.pending :=
    by simp [State.applyEntry, apply_ite State.pending]
@[simp] theorem State.applyEntry_linkOut : (s.applyEntry).linkOut = s.linkOut :=
    by simp [State.applyEntry, apply_ite State.linkOut]
@[simp] theorem State.applyEntry_now : (s.applyEntry).now = s.now :=
    by simp [State.applyEntry, apply_ite State.now]
@[simp] theorem State.applyEntry_pinHeld : (s.applyEntry).pinHeld = s.pinHeld :=
    by simp [State.applyEntry, apply_ite State.pinHeld]
@[simp] theorem State.applyEntry_blobOverflow : (s.applyEntry).blobOverflow = s.blobOverflow :=
    by simp [State.applyEntry, apply_ite State.blobOverflow]
@[simp] theorem State.applyEntry_base : (s.applyEntry).base = s.base :=
    by simp [State.applyEntry, apply_ite State.base]
@[simp] theorem State.applyEntry_tracks : (s.applyEntry).tracks = s.tracks :=
    by simp [State.applyEntry, apply_ite State.tracks]
@[simp] theorem State.applyEntry_palm : (s.applyEntry).palm = s.palm :=
    by simp [State.applyEntry, apply_ite State.palm]
@[simp] theorem State.applyEntry_posture : (s.applyEntry).posture = s.posture :=
    by simp [State.applyEntry, apply_ite State.posture]
@[simp] theorem State.applyEntry_angle : (s.applyEntry).angle = s.angle :=
    by simp [State.applyEntry, apply_ite State.angle]
@[simp] theorem State.applyEntry_gestures : (s.applyEntry).gestures = s.gestures :=
    by simp [State.applyEntry, apply_ite State.gestures]
@[simp] theorem State.applyEntry_motion : (s.applyEntry).motion = s.motion :=
    by simp [State.applyEntry, apply_ite State.motion]
@[simp] theorem State.applyEntry_tables : (s.applyEntry).tables = s.tables :=
    by simp [State.applyEntry, apply_ite State.tables]

/-! ## `State.switchFrameSide` -/

@[simp] theorem State.switchFrameSide_pending : (s.switchFrameSide).pending = s.pending := by
  unfold State.switchFrameSide
  split <;> simp [apply_ite State.pending]
@[simp] theorem State.switchFrameSide_linkOut : (s.switchFrameSide).linkOut = s.linkOut := by
  unfold State.switchFrameSide
  split <;> simp [apply_ite State.linkOut]
@[simp] theorem State.switchFrameSide_now : (s.switchFrameSide).now = s.now := by
  unfold State.switchFrameSide
  split <;> simp [apply_ite State.now]
@[simp] theorem State.switchFrameSide_pinHeld : (s.switchFrameSide).pinHeld = s.pinHeld := by
  unfold State.switchFrameSide
  split <;> simp [apply_ite State.pinHeld]
@[simp] theorem State.switchFrameSide_blobOverflow : (s.switchFrameSide).blobOverflow = s.blobOverflow := by
  unfold State.switchFrameSide
  split <;> simp [apply_ite State.blobOverflow]
@[simp] theorem State.switchFrameSide_base : (s.switchFrameSide).base = s.base := by
  unfold State.switchFrameSide
  split <;> simp [apply_ite State.base]
@[simp] theorem State.switchFrameSide_tracks : (s.switchFrameSide).tracks = s.tracks := by
  unfold State.switchFrameSide
  split <;> simp [apply_ite State.tracks]
@[simp] theorem State.switchFrameSide_palm : (s.switchFrameSide).palm = s.palm := by
  unfold State.switchFrameSide
  split <;> simp [apply_ite State.palm]
@[simp] theorem State.switchFrameSide_posture : (s.switchFrameSide).posture = s.posture := by
  unfold State.switchFrameSide
  split <;> simp [apply_ite State.posture]
@[simp] theorem State.switchFrameSide_angle : (s.switchFrameSide).angle = s.angle := by
  unfold State.switchFrameSide
  split <;> simp [apply_ite State.angle]
@[simp] theorem State.switchFrameSide_gestures : (s.switchFrameSide).gestures = s.gestures := by
  unfold State.switchFrameSide
  split <;> simp [apply_ite State.gestures]
@[simp] theorem State.switchFrameSide_motion : (s.switchFrameSide).motion = s.motion := by
  unfold State.switchFrameSide
  split <;> simp [apply_ite State.motion]

/-! ## `State.switchProgram` -/

@[simp] theorem State.switchProgram_pending : (s.switchProgram).pending = s.pending :=
    by simp [State.switchProgram, State.installProgram, apply_ite State.pending]
@[simp] theorem State.switchProgram_linkOut : (s.switchProgram).linkOut = s.linkOut :=
    by simp [State.switchProgram, State.installProgram, apply_ite State.linkOut]
@[simp] theorem State.switchProgram_now : (s.switchProgram).now = s.now :=
    by simp [State.switchProgram, State.installProgram, apply_ite State.now]
@[simp] theorem State.switchProgram_pinHeld : (s.switchProgram).pinHeld = s.pinHeld :=
    by simp [State.switchProgram, State.installProgram, apply_ite State.pinHeld]
@[simp] theorem State.switchProgram_intake : (s.switchProgram).intake = s.intake :=
    by simp [State.switchProgram, State.installProgram, apply_ite State.intake]
@[simp] theorem State.switchProgram_blobOverflow : (s.switchProgram).blobOverflow = s.blobOverflow :=
    by simp [State.switchProgram, State.installProgram, apply_ite State.blobOverflow]
@[simp] theorem State.switchProgram_engine : (s.switchProgram).engine = s.engine :=
    by simp [State.switchProgram, State.installProgram, apply_ite State.engine]
@[simp] theorem State.switchProgram_base : (s.switchProgram).base = s.base :=
    by simp [State.switchProgram, State.installProgram, apply_ite State.base]
@[simp] theorem State.switchProgram_tracks : (s.switchProgram).tracks = s.tracks :=
    by simp [State.switchProgram, State.installProgram, apply_ite State.tracks]
@[simp] theorem State.switchProgram_palm : (s.switchProgram).palm = s.palm :=
    by simp [State.switchProgram, State.installProgram, apply_ite State.palm]
@[simp] theorem State.switchProgram_pen : (s.switchProgram).pen = s.pen :=
    by simp [State.switchProgram, State.installProgram, apply_ite State.pen]
@[simp] theorem State.switchProgram_posture : (s.switchProgram).posture = s.posture :=
    by simp [State.switchProgram, State.installProgram, apply_ite State.posture]
@[simp] theorem State.switchProgram_angle : (s.switchProgram).angle = s.angle :=
    by simp [State.switchProgram, State.installProgram, apply_ite State.angle]
@[simp] theorem State.switchProgram_motion : (s.switchProgram).motion = s.motion :=
    by simp [State.switchProgram, State.installProgram, apply_ite State.motion]
@[simp] theorem State.switchProgram_queue : (s.switchProgram).queue = s.queue :=
    by simp [State.switchProgram, State.installProgram, apply_ite State.queue]
@[simp] theorem State.switchProgram_link : (s.switchProgram).link = s.link :=
    by simp [State.switchProgram, State.installProgram, apply_ite State.link]

/-! ## `State.endCommit` -/

@[simp] theorem State.endCommit_pending : (s.endCommit).pending = s.pending := by
  unfold State.endCommit
  split
  · simp
  · split <;> simp
@[simp] theorem State.endCommit_linkOut : (s.endCommit).linkOut = s.linkOut := by
  unfold State.endCommit
  split
  · simp
  · split <;> simp
@[simp] theorem State.endCommit_now : (s.endCommit).now = s.now := by
  unfold State.endCommit
  split
  · simp
  · split <;> simp
@[simp] theorem State.endCommit_pinHeld : (s.endCommit).pinHeld = s.pinHeld := by
  unfold State.endCommit
  split
  · simp
  · split <;> simp
@[simp] theorem State.endCommit_intake : (s.endCommit).intake = s.intake := by
  unfold State.endCommit
  split
  · simp
  · split <;> simp
@[simp] theorem State.endCommit_blobOverflow : (s.endCommit).blobOverflow = s.blobOverflow := by
  unfold State.endCommit
  split
  · simp
  · split <;> simp
@[simp] theorem State.endCommit_engine : (s.endCommit).engine = s.engine := by
  unfold State.endCommit
  split
  · simp
  · split <;> simp
@[simp] theorem State.endCommit_base : (s.endCommit).base = s.base := by
  unfold State.endCommit
  split
  · simp
  · split <;> simp
@[simp] theorem State.endCommit_tracks : (s.endCommit).tracks = s.tracks := by
  unfold State.endCommit
  split
  · simp
  · split <;> simp
@[simp] theorem State.endCommit_palm : (s.endCommit).palm = s.palm := by
  unfold State.endCommit
  split
  · simp
  · split <;> simp
@[simp] theorem State.endCommit_pen : (s.endCommit).pen = s.pen := by
  unfold State.endCommit
  split
  · simp
  · split <;> simp
@[simp] theorem State.endCommit_posture : (s.endCommit).posture = s.posture := by
  unfold State.endCommit
  split
  · simp
  · split <;> simp
@[simp] theorem State.endCommit_angle : (s.endCommit).angle = s.angle := by
  unfold State.endCommit
  split
  · simp
  · split <;> simp
@[simp] theorem State.endCommit_gestures : (s.endCommit).gestures = s.gestures := by
  unfold State.endCommit
  split
  · simp
  · split <;> simp
@[simp] theorem State.endCommit_motion : (s.endCommit).motion = s.motion := by
  unfold State.endCommit
  split
  · simp
  · split <;> simp

/-! ## `State.failSurface` -/

@[simp] theorem State.failSurface_pending (u : Surface) : (s.failSurface u).pending = s.pending :=
    by simp [State.failSurface]
@[simp] theorem State.failSurface_linkOut (u : Surface) : (s.failSurface u).linkOut = s.linkOut :=
    by simp [State.failSurface]
@[simp] theorem State.failSurface_now (u : Surface) : (s.failSurface u).now = s.now :=
    by simp [State.failSurface]
@[simp] theorem State.failSurface_pinHeld (u : Surface) : (s.failSurface u).pinHeld = s.pinHeld :=
    by simp [State.failSurface]
@[simp] theorem State.failSurface_blobOverflow (u : Surface) : (s.failSurface u).blobOverflow = s.blobOverflow :=
    by simp [State.failSurface]
@[simp] theorem State.failSurface_base (u : Surface) : (s.failSurface u).base = s.base :=
    by simp [State.failSurface]
@[simp] theorem State.failSurface_tracks (u : Surface) : (s.failSurface u).tracks = s.tracks :=
    by simp [State.failSurface]
@[simp] theorem State.failSurface_palm (u : Surface) : (s.failSurface u).palm = s.palm :=
    by simp [State.failSurface]
@[simp] theorem State.failSurface_pen (u : Surface) : (s.failSurface u).pen = s.pen :=
    by simp [State.failSurface]
@[simp] theorem State.failSurface_posture (u : Surface) : (s.failSurface u).posture = s.posture :=
    by simp [State.failSurface]
@[simp] theorem State.failSurface_angle (u : Surface) : (s.failSurface u).angle = s.angle :=
    by simp [State.failSurface]
@[simp] theorem State.failSurface_gestures (u : Surface) : (s.failSurface u).gestures = s.gestures :=
    by simp [State.failSurface]
@[simp] theorem State.failSurface_motion (u : Surface) : (s.failSurface u).motion = s.motion :=
    by simp [State.failSurface]
@[simp] theorem State.failSurface_tables (u : Surface) : (s.failSurface u).tables = s.tables :=
    by simp [State.failSurface]

/-! ## `State.setReceiver` -/

@[simp] theorem State.setReceiver_pending (u : Surface) (r : Receiver) : (s.setReceiver u r).pending = s.pending :=
    rfl
@[simp] theorem State.setReceiver_linkOut (u : Surface) (r : Receiver) : (s.setReceiver u r).linkOut = s.linkOut :=
    rfl
@[simp] theorem State.setReceiver_now (u : Surface) (r : Receiver) : (s.setReceiver u r).now = s.now := rfl
@[simp] theorem State.setReceiver_pinHeld (u : Surface) (r : Receiver) : (s.setReceiver u r).pinHeld = s.pinHeld :=
    rfl
@[simp] theorem State.setReceiver_blobOverflow (u : Surface) (r : Receiver) : (s.setReceiver u r).blobOverflow = s.blobOverflow :=
    rfl
@[simp] theorem State.setReceiver_engine (u : Surface) (r : Receiver) : (s.setReceiver u r).engine = s.engine :=
    rfl
@[simp] theorem State.setReceiver_base (u : Surface) (r : Receiver) : (s.setReceiver u r).base = s.base := rfl
@[simp] theorem State.setReceiver_tracks (u : Surface) (r : Receiver) : (s.setReceiver u r).tracks = s.tracks :=
    rfl
@[simp] theorem State.setReceiver_palm (u : Surface) (r : Receiver) : (s.setReceiver u r).palm = s.palm := rfl
@[simp] theorem State.setReceiver_pen (u : Surface) (r : Receiver) : (s.setReceiver u r).pen = s.pen := rfl
@[simp] theorem State.setReceiver_posture (u : Surface) (r : Receiver) : (s.setReceiver u r).posture = s.posture :=
    rfl
@[simp] theorem State.setReceiver_angle (u : Surface) (r : Receiver) : (s.setReceiver u r).angle = s.angle :=
    rfl
@[simp] theorem State.setReceiver_gestures (u : Surface) (r : Receiver) : (s.setReceiver u r).gestures = s.gestures :=
    rfl
@[simp] theorem State.setReceiver_motion (u : Surface) (r : Receiver) : (s.setReceiver u r).motion = s.motion :=
    rfl
@[simp] theorem State.setReceiver_tables (u : Surface) (r : Receiver) : (s.setReceiver u r).tables = s.tables :=
    rfl
@[simp] theorem State.setReceiver_queue (u : Surface) (r : Receiver) : (s.setReceiver u r).queue = s.queue :=
    rfl
@[simp] theorem State.setReceiver_link (u : Surface) (r : Receiver) : (s.setReceiver u r).link = s.link := rfl

/-! ## `State.discardFrame` -/

@[simp] theorem State.discardFrame_pending (u : Surface) : (s.discardFrame u).pending = s.pending :=
    by simp [State.discardFrame, apply_ite State.pending]
@[simp] theorem State.discardFrame_linkOut (u : Surface) : (s.discardFrame u).linkOut = s.linkOut :=
    by simp [State.discardFrame, apply_ite State.linkOut]
@[simp] theorem State.discardFrame_now (u : Surface) : (s.discardFrame u).now = s.now :=
    by simp [State.discardFrame, apply_ite State.now]
@[simp] theorem State.discardFrame_pinHeld (u : Surface) : (s.discardFrame u).pinHeld = s.pinHeld :=
    by simp [State.discardFrame, apply_ite State.pinHeld]
@[simp] theorem State.discardFrame_blobOverflow (u : Surface) : (s.discardFrame u).blobOverflow = s.blobOverflow :=
    by simp [State.discardFrame, apply_ite State.blobOverflow]
@[simp] theorem State.discardFrame_base (u : Surface) : (s.discardFrame u).base = s.base :=
    by simp [State.discardFrame, apply_ite State.base]
@[simp] theorem State.discardFrame_tracks (u : Surface) : (s.discardFrame u).tracks = s.tracks :=
    by simp [State.discardFrame, apply_ite State.tracks]
@[simp] theorem State.discardFrame_palm (u : Surface) : (s.discardFrame u).palm = s.palm :=
    by simp [State.discardFrame, apply_ite State.palm]
@[simp] theorem State.discardFrame_pen (u : Surface) : (s.discardFrame u).pen = s.pen :=
    by simp [State.discardFrame, apply_ite State.pen]
@[simp] theorem State.discardFrame_posture (u : Surface) : (s.discardFrame u).posture = s.posture :=
    by simp [State.discardFrame, apply_ite State.posture]
@[simp] theorem State.discardFrame_angle (u : Surface) : (s.discardFrame u).angle = s.angle :=
    by simp [State.discardFrame, apply_ite State.angle]
@[simp] theorem State.discardFrame_gestures (u : Surface) : (s.discardFrame u).gestures = s.gestures :=
    by simp [State.discardFrame, apply_ite State.gestures]
@[simp] theorem State.discardFrame_motion (u : Surface) : (s.discardFrame u).motion = s.motion :=
    by simp [State.discardFrame, apply_ite State.motion]
@[simp] theorem State.discardFrame_tables (u : Surface) : (s.discardFrame u).tables = s.tables :=
    by simp [State.discardFrame, apply_ite State.tables]

/-! ## `State.makeReady` -/

@[simp] theorem State.makeReady_pending (u : Surface) (n : Half) (x : List (List Nat)) : (s.makeReady u n x).pending = s.pending :=
    rfl
@[simp] theorem State.makeReady_linkOut (u : Surface) (n : Half) (x : List (List Nat)) : (s.makeReady u n x).linkOut = s.linkOut :=
    rfl
@[simp] theorem State.makeReady_now (u : Surface) (n : Half) (x : List (List Nat)) : (s.makeReady u n x).now = s.now :=
    rfl
@[simp] theorem State.makeReady_pinHeld (u : Surface) (n : Half) (x : List (List Nat)) : (s.makeReady u n x).pinHeld = s.pinHeld :=
    rfl
@[simp] theorem State.makeReady_blobOverflow (u : Surface) (n : Half) (x : List (List Nat)) : (s.makeReady u n x).blobOverflow = s.blobOverflow :=
    rfl
@[simp] theorem State.makeReady_base (u : Surface) (n : Half) (x : List (List Nat)) : (s.makeReady u n x).base = s.base :=
    rfl
@[simp] theorem State.makeReady_tracks (u : Surface) (n : Half) (x : List (List Nat)) : (s.makeReady u n x).tracks = s.tracks :=
    rfl
@[simp] theorem State.makeReady_palm (u : Surface) (n : Half) (x : List (List Nat)) : (s.makeReady u n x).palm = s.palm :=
    rfl
@[simp] theorem State.makeReady_pen (u : Surface) (n : Half) (x : List (List Nat)) : (s.makeReady u n x).pen = s.pen :=
    rfl
@[simp] theorem State.makeReady_posture (u : Surface) (n : Half) (x : List (List Nat)) : (s.makeReady u n x).posture = s.posture :=
    rfl
@[simp] theorem State.makeReady_angle (u : Surface) (n : Half) (x : List (List Nat)) : (s.makeReady u n x).angle = s.angle :=
    rfl
@[simp] theorem State.makeReady_gestures (u : Surface) (n : Half) (x : List (List Nat)) : (s.makeReady u n x).gestures = s.gestures :=
    rfl
@[simp] theorem State.makeReady_motion (u : Surface) (n : Half) (x : List (List Nat)) : (s.makeReady u n x).motion = s.motion :=
    rfl
@[simp] theorem State.makeReady_tables (u : Surface) (n : Half) (x : List (List Nat)) : (s.makeReady u n x).tables = s.tables :=
    rfl
@[simp] theorem State.makeReady_queue (u : Surface) (n : Half) (x : List (List Nat)) : (s.makeReady u n x).queue = s.queue :=
    rfl
@[simp] theorem State.makeReady_link (u : Surface) (n : Half) (x : List (List Nat)) : (s.makeReady u n x).link = s.link :=
    rfl

/-! ## `State.disposeFrame` -/

@[simp] theorem State.disposeFrame_pending (u : Surface) (n : Half) (x : List (List Nat)) : (s.disposeFrame u n x).pending = s.pending :=
    by simp [State.disposeFrame, apply_ite State.pending]
@[simp] theorem State.disposeFrame_linkOut (u : Surface) (n : Half) (x : List (List Nat)) : (s.disposeFrame u n x).linkOut = s.linkOut :=
    by simp [State.disposeFrame, apply_ite State.linkOut]
@[simp] theorem State.disposeFrame_now (u : Surface) (n : Half) (x : List (List Nat)) : (s.disposeFrame u n x).now = s.now :=
    by simp [State.disposeFrame, apply_ite State.now]
@[simp] theorem State.disposeFrame_pinHeld (u : Surface) (n : Half) (x : List (List Nat)) : (s.disposeFrame u n x).pinHeld = s.pinHeld :=
    by simp [State.disposeFrame, apply_ite State.pinHeld]
@[simp] theorem State.disposeFrame_blobOverflow (u : Surface) (n : Half) (x : List (List Nat)) : (s.disposeFrame u n x).blobOverflow = s.blobOverflow :=
    by simp [State.disposeFrame, apply_ite State.blobOverflow]
@[simp] theorem State.disposeFrame_base (u : Surface) (n : Half) (x : List (List Nat)) : (s.disposeFrame u n x).base = s.base :=
    by simp [State.disposeFrame, apply_ite State.base]
@[simp] theorem State.disposeFrame_tracks (u : Surface) (n : Half) (x : List (List Nat)) : (s.disposeFrame u n x).tracks = s.tracks :=
    by simp [State.disposeFrame, apply_ite State.tracks]
@[simp] theorem State.disposeFrame_palm (u : Surface) (n : Half) (x : List (List Nat)) : (s.disposeFrame u n x).palm = s.palm :=
    by simp [State.disposeFrame, apply_ite State.palm]
@[simp] theorem State.disposeFrame_pen (u : Surface) (n : Half) (x : List (List Nat)) : (s.disposeFrame u n x).pen = s.pen :=
    by simp [State.disposeFrame, apply_ite State.pen]
@[simp] theorem State.disposeFrame_posture (u : Surface) (n : Half) (x : List (List Nat)) : (s.disposeFrame u n x).posture = s.posture :=
    by simp [State.disposeFrame, apply_ite State.posture]
@[simp] theorem State.disposeFrame_angle (u : Surface) (n : Half) (x : List (List Nat)) : (s.disposeFrame u n x).angle = s.angle :=
    by simp [State.disposeFrame, apply_ite State.angle]
@[simp] theorem State.disposeFrame_gestures (u : Surface) (n : Half) (x : List (List Nat)) : (s.disposeFrame u n x).gestures = s.gestures :=
    by simp [State.disposeFrame, apply_ite State.gestures]
@[simp] theorem State.disposeFrame_motion (u : Surface) (n : Half) (x : List (List Nat)) : (s.disposeFrame u n x).motion = s.motion :=
    by simp [State.disposeFrame, apply_ite State.motion]
@[simp] theorem State.disposeFrame_tables (u : Surface) (n : Half) (x : List (List Nat)) : (s.disposeFrame u n x).tables = s.tables :=
    by simp [State.disposeFrame, apply_ite State.tables]

/-! ## `State.admitWaiting` -/

@[simp] theorem State.admitWaiting_pending : (s.admitWaiting).pending = s.pending := rfl
@[simp] theorem State.admitWaiting_linkOut : (s.admitWaiting).linkOut = s.linkOut := rfl
@[simp] theorem State.admitWaiting_now : (s.admitWaiting).now = s.now := rfl
@[simp] theorem State.admitWaiting_pinHeld : (s.admitWaiting).pinHeld = s.pinHeld := rfl
@[simp] theorem State.admitWaiting_intake : (s.admitWaiting).intake = s.intake := rfl
@[simp] theorem State.admitWaiting_blobOverflow : (s.admitWaiting).blobOverflow = s.blobOverflow := rfl
@[simp] theorem State.admitWaiting_engine : (s.admitWaiting).engine = s.engine := rfl
@[simp] theorem State.admitWaiting_base : (s.admitWaiting).base = s.base := rfl
@[simp] theorem State.admitWaiting_tracks : (s.admitWaiting).tracks = s.tracks := rfl
@[simp] theorem State.admitWaiting_palm : (s.admitWaiting).palm = s.palm := rfl
@[simp] theorem State.admitWaiting_pen : (s.admitWaiting).pen = s.pen := rfl
@[simp] theorem State.admitWaiting_posture : (s.admitWaiting).posture = s.posture := rfl
@[simp] theorem State.admitWaiting_angle : (s.admitWaiting).angle = s.angle := rfl
@[simp] theorem State.admitWaiting_gestures : (s.admitWaiting).gestures = s.gestures := rfl
@[simp] theorem State.admitWaiting_motion : (s.admitWaiting).motion = s.motion := rfl
@[simp] theorem State.admitWaiting_tables : (s.admitWaiting).tables = s.tables := rfl

/-! ## `State.issueOwed` -/

@[simp] theorem State.issueOwed_pending : (s.issueOwed).pending = s.pending := by
  unfold State.issueOwed State.issueSurface State.issuePosture State.issueFault State.issueLoss
  split <;> simp [apply_ite State.pending]
@[simp] theorem State.issueOwed_linkOut : (s.issueOwed).linkOut = s.linkOut := by
  unfold State.issueOwed State.issueSurface State.issuePosture State.issueFault State.issueLoss
  split <;> simp [apply_ite State.linkOut]
@[simp] theorem State.issueOwed_now : (s.issueOwed).now = s.now := by
  unfold State.issueOwed State.issueSurface State.issuePosture State.issueFault State.issueLoss
  split <;> simp [apply_ite State.now]
@[simp] theorem State.issueOwed_pinHeld : (s.issueOwed).pinHeld = s.pinHeld := by
  unfold State.issueOwed State.issueSurface State.issuePosture State.issueFault State.issueLoss
  split <;> simp [apply_ite State.pinHeld]
@[simp] theorem State.issueOwed_intake : (s.issueOwed).intake = s.intake := by
  unfold State.issueOwed State.issueSurface State.issuePosture State.issueFault State.issueLoss
  split <;> simp [apply_ite State.intake]
@[simp] theorem State.issueOwed_blobOverflow : (s.issueOwed).blobOverflow = s.blobOverflow := by
  unfold State.issueOwed State.issueSurface State.issuePosture State.issueFault State.issueLoss
  split <;> simp [apply_ite State.blobOverflow]
@[simp] theorem State.issueOwed_engine : (s.issueOwed).engine = s.engine := by
  unfold State.issueOwed State.issueSurface State.issuePosture State.issueFault State.issueLoss
  split <;> simp [apply_ite State.engine]
@[simp] theorem State.issueOwed_base : (s.issueOwed).base = s.base := by
  unfold State.issueOwed State.issueSurface State.issuePosture State.issueFault State.issueLoss
  split <;> simp [apply_ite State.base]
@[simp] theorem State.issueOwed_tracks : (s.issueOwed).tracks = s.tracks := by
  unfold State.issueOwed State.issueSurface State.issuePosture State.issueFault State.issueLoss
  split <;> simp [apply_ite State.tracks]
@[simp] theorem State.issueOwed_palm : (s.issueOwed).palm = s.palm := by
  unfold State.issueOwed State.issueSurface State.issuePosture State.issueFault State.issueLoss
  split <;> simp [apply_ite State.palm]
@[simp] theorem State.issueOwed_pen : (s.issueOwed).pen = s.pen := by
  unfold State.issueOwed State.issueSurface State.issuePosture State.issueFault State.issueLoss
  split <;> simp [apply_ite State.pen]
@[simp] theorem State.issueOwed_posture : (s.issueOwed).posture = s.posture := by
  unfold State.issueOwed State.issueSurface State.issuePosture State.issueFault State.issueLoss
  split <;> simp [apply_ite State.posture]
@[simp] theorem State.issueOwed_angle : (s.issueOwed).angle = s.angle := by
  unfold State.issueOwed State.issueSurface State.issuePosture State.issueFault State.issueLoss
  split <;> simp [apply_ite State.angle]
@[simp] theorem State.issueOwed_gestures : (s.issueOwed).gestures = s.gestures := by
  unfold State.issueOwed State.issueSurface State.issuePosture State.issueFault State.issueLoss
  split <;> simp [apply_ite State.gestures]
@[simp] theorem State.issueOwed_motion : (s.issueOwed).motion = s.motion := by
  unfold State.issueOwed State.issueSurface State.issuePosture State.issueFault State.issueLoss
  split <;> simp [apply_ite State.motion]
@[simp] theorem State.issueOwed_tables : (s.issueOwed).tables = s.tables := by
  unfold State.issueOwed State.issueSurface State.issuePosture State.issueFault State.issueLoss
  split <;> simp [apply_ite State.tables]

/-! ## `State.departure` -/

@[simp] theorem State.departure_pending : (s.departure).pending = s.pending := by simp [State.departure]
@[simp] theorem State.departure_linkOut : (s.departure).linkOut = s.linkOut := by simp [State.departure]
@[simp] theorem State.departure_now : (s.departure).now = s.now := by simp [State.departure]
@[simp] theorem State.departure_pinHeld : (s.departure).pinHeld = s.pinHeld := by simp [State.departure]
@[simp] theorem State.departure_intake : (s.departure).intake = s.intake := by simp [State.departure]
@[simp] theorem State.departure_blobOverflow : (s.departure).blobOverflow = s.blobOverflow :=
    by simp [State.departure]
@[simp] theorem State.departure_engine : (s.departure).engine = s.engine := by simp [State.departure]
@[simp] theorem State.departure_base : (s.departure).base = s.base := by simp [State.departure]
@[simp] theorem State.departure_palm : (s.departure).palm = s.palm := by simp [State.departure]
@[simp] theorem State.departure_pen : (s.departure).pen = s.pen := by simp [State.departure]
@[simp] theorem State.departure_posture : (s.departure).posture = s.posture := by simp [State.departure]
@[simp] theorem State.departure_angle : (s.departure).angle = s.angle := by simp [State.departure]
@[simp] theorem State.departure_gestures : (s.departure).gestures = s.gestures := by simp [State.departure]
@[simp] theorem State.departure_tables : (s.departure).tables = s.tables := by simp [State.departure]

end Sys2Proof.Machine
end

