-- ==== Sys2Proof/Laws/Ops.lean ====
section
/-! SUPPORT. What each shared operation can do, said once: the offers to the report queue, the gates of
commands, the claims of the track table, and the list and number helpers. -/

namespace Sys2Proof.Machine

/-! ## Room in the report queue (R177) -/

theorem hasPlace_iff (q : List Record) : hasPlace q = true ↔ q.length < 32 := by
  simp only [hasPlace, Config.queueCapacity, decide_eq_true_eq]

theorem hasRoom_iff (q : List Record) : hasRoom q = true ↔ ordinaryCount q < 28 ∧ q.length < 32 := by
  simp only [hasRoom, hasPlace, Config.queueCapacity, Config.ordinaryCapacity, Bool.and_eq_true,
    decide_eq_true_eq]

@[simp] theorem ordinaryCount_append (p q : List Record) :
    ordinaryCount (p ++ q) = ordinaryCount p + ordinaryCount q := by
  simp [ordinaryCount]

theorem ordinaryCount_cons (r : Record) (q : List Record) :
    ordinaryCount (r :: q) = r.ordinary.toNat + ordinaryCount q := by
  simp only [ordinaryCount, List.countP_cons]
  cases r.ordinary <;> simp [Nat.add_comm]

/-- An evictable record is ordinary (R176, R178). -/
theorem Record.ordinary_of_evictable (r : Record) (h : r.evictable = true) : r.ordinary = true := by
  rcases r with ⟨t, p, b⟩
  cases p <;> simp_all [Record.evictable, Record.ordinary]

/-- An eviction takes one ordinary record out of the queue (R178). -/
theorem evictOldest_spec (q q' : List Record) (h : evictOldest q = some q') :
    q.length = q'.length + 1 ∧ ordinaryCount q = ordinaryCount q' + 1 ∧ ∀ r ∈ q', r ∈ q := by
  induction q generalizing q' with
  | nil => simp [evictOldest] at h
  | cons r rs ih =>
    unfold evictOldest at h
    split at h
    · rename_i he
      cases h
      simp [ordinaryCount_cons, r.ordinary_of_evictable he]
      exact ⟨by omega, fun x hx => Or.inr hx⟩
    · cases hr : evictOldest rs with
      | none => simp [hr] at h
      | some p =>
        simp only [hr, Option.map_some, Option.some.injEq] at h
        subst h
        obtain ⟨hl, ho, hm⟩ := ih p hr
        simp only [List.length_cons, ordinaryCount_cons, List.mem_cons]
        refine ⟨by omega, by omega, ?_⟩
        rintro x (rfl | hx)
        · exact Or.inl rfl
        · exact Or.inr (hm x hx)

/-! ## Offers (R177 to R180) -/

theorem State.offerReply_cases (s : State) (r : Reply) :
    (s.queue.length < 32 ∧ s.offerReply r = s.enqueue s.now (.reply r)) ∨
      (32 ≤ s.queue.length ∧ s.offerReply r = { s with link := { s.link with waiting :=
        s.link.waiting ++ [{ time := s.now, payload := .reply r, begun := false }] } }) := by
  by_cases h : s.queue.length < 32
  · exact Or.inl ⟨h, by simp [State.offerReply, (hasPlace_iff _).2 h]⟩
  · have hf : hasPlace s.queue = false := by rw [Bool.eq_false_iff, ne_eq, hasPlace_iff]; exact h
    exact Or.inr ⟨by omega, by simp [State.offerReply, hf]⟩

theorem State.offerNotice_cases (s : State) (n : Notice) :
    (s.queue.length < 32 ∧ s.offerNotice n = s.enqueue s.now (.notice n)) ∨
      (32 ≤ s.queue.length ∧
        s.offerNotice n = { s with link := { s.link with owed := s.link.owed.add n } }) := by
  by_cases h : s.queue.length < 32
  · exact Or.inl ⟨h, by simp [State.offerNotice, (hasPlace_iff _).2 h]⟩
  · have hf : hasPlace s.queue = false := by rw [Bool.eq_false_iff, ne_eq, hasPlace_iff]; exact h
    exact Or.inr ⟨by omega, by simp [State.offerNotice, hf]⟩

theorem State.offerGesture_cases (s : State) (t : Time) (g : GestureReport) :
    (hasRoom s.queue = true ∧ s.offerGesture t g = s.enqueue t (.gesture g)) ∨
      (hasRoom s.queue = false ∧ ∃ q, evictOldest s.queue = some q ∧
        s.offerGesture t g = { s with queue := q }.enqueue t (.gesture g)) ∨
      (hasRoom s.queue = false ∧ evictOldest s.queue = none ∧ s.offerGesture t g = s.lose) := by
  unfold State.offerGesture
  cases h : hasRoom s.queue
  · cases he : evictOldest s.queue <;> simp
  · simp

theorem State.offerSnapshot_cases (s : State) (t : Time) (r : SnapshotReport) :
    (hasRoom s.queue = true ∧ s.offerSnapshot t r = s.enqueue t (.snapshot r)) ∨
      (hasRoom s.queue = false ∧ s.offerSnapshot t r = s.lose) := by
  unfold State.offerSnapshot
  cases hasRoom s.queue <;> simp

theorem State.offerContact_cases (s : State) (t : Time) (r : ContactReport) :
    (hasRoom s.queue = true ∧ s.offerContact t r =
        { s.enqueue t (.contact r) with tracks := r.entries.foldl TrackTable.announce s.tracks }) ∨
      (hasRoom s.queue = false ∧ s.offerContact t r = s) := by
  unfold State.offerContact
  cases hasRoom s.queue <;> simp

theorem State.offerPen_cases (s : State) (r : PenReport) :
    (r.shown = .hover ∧ ∃ q, replaceHover s.queue s.now r = some q ∧ s.offerPen r = { s with queue := q }) ∨
      (hasRoom s.queue = true ∧ s.offerPen r = s.enqueue s.now (.pen r)) ∨
      (hasRoom s.queue = false ∧ r.shown = .hover ∧ s.offerPen r = s) ∨
      (hasRoom s.queue = false ∧ r.shown ≠ .hover ∧ s.offerPen r = s.lose) := by
  unfold State.offerPen
  cases hr : r.shown <;> cases hasRoom s.queue <;> simp
  all_goals cases replaceHover s.queue s.now r <;> simp

theorem State.offerPointer_cases (s : State) (t : Time) (m : Motion) :
    (∃ q, absorbPointer t (s.motion.takeIn m) s.queue = some q ∧
        s.offerPointer t m = { s.setUnsent none with queue := q }) ∨
      (absorbPointer t (s.motion.takeIn m) s.queue = none ∧ hasRoom s.queue = true ∧
        s.offerPointer t m = (s.setUnsent none).enqueue t (.pointer (s.motion.takeIn m))) ∨
      (absorbPointer t (s.motion.takeIn m) s.queue = none ∧ hasRoom s.queue = false ∧
        s.offerPointer t m = s.setUnsent (some (s.motion.takeIn m))) := by
  simp only [State.offerPointer, State.setUnsent_queue]
  split
  · rename_i q hq
    exact Or.inl ⟨q, hq, rfl⟩
  · rename_i hq
    by_cases hr : hasRoom s.queue = true
    · exact Or.inr (Or.inl ⟨hq, hr, if_pos hr⟩)
    · exact Or.inr (Or.inr ⟨hq, by simpa using hr, if_neg hr⟩)

/-- An absorption changes one record of the queue and its count not at all (R154, R176). -/
theorem absorbNewest_spec (t : Time) (m : Motion) (q q' : List Record) (h : absorbNewest t m q = some q') :
    q'.length = q.length ∧ ordinaryCount q' = ordinaryCount q := by
  induction q generalizing q' with
  | nil => simp [absorbNewest] at h
  | cons r rs ih =>
    unfold absorbNewest at h
    split at h
    · rename_i old ho
      split at h
      · cases h
      · cases h
        rcases r with ⟨_, p, b⟩
        cases b <;> cases p <;> simp_all [Record.openPointer, ordinaryCount_cons, Record.ordinary]
    · cases hr : absorbNewest t m rs with
      | none => simp [hr] at h
      | some p =>
        simp only [hr, Option.map_some, Option.some.injEq] at h
        subst h
        obtain ⟨hl, ho⟩ := ih p hr
        simp [ordinaryCount_cons, hl, ho]

/-! ## Gates (R174, R188) -/

theorem State.unlessHeld_cases (s : State) (f : State → State) :
    (s.pinHeld = true ∧ s.unlessHeld f = s) ∨ (s.pinHeld = false ∧ s.unlessHeld f = f s) := by
  unfold State.unlessHeld
  cases s.pinHeld <;> simp

theorem State.inWrite_cases (s : State) (f : State → State) :
    (s.pinHeld = true ∧ s.inWrite f = s) ∨
      (s.pinHeld = false ∧ s.inWrite f = f (s.setLinkOut .zeros)) := s.unlessHeld_cases _

theorem State.takeWrite_cases (s : State) (f : State → State) :
    (s.pinHeld = true ∧ s.takeWrite f = s) ∨
      (s.pinHeld = false ∧ s.queue.length < 32 ∧ s.takeWrite f = f (s.setLinkOut .zeros)) ∨
      (s.pinHeld = false ∧ 32 ≤ s.queue.length ∧
        s.takeWrite f = (s.setLinkOut .zeros).countDroppedWrite) := by
  unfold State.takeWrite
  rcases s.inWrite_cases (fun s => if hasPlace s.queue then f s else s.countDroppedWrite) with
    ⟨h, e⟩ | ⟨h, e⟩
  · exact Or.inl ⟨h, e⟩
  · by_cases hq : s.queue.length < 32
    · exact Or.inr (Or.inl ⟨h, hq, e.trans (if_pos ((hasPlace_iff _).2 hq))⟩)
    · exact Or.inr (Or.inr ⟨h, by omega, e.trans (if_neg fun c => hq ((hasPlace_iff _).1 c))⟩)

/-- A write that is taken runs its meaning (R174). -/
theorem State.takeWrite_of_takes (s : State) (f : State → State) (h : s.takes) :
    s.takeWrite f = f (s.setLinkOut .zeros) := by
  rcases s.takeWrite_cases f with ⟨hp, _⟩ | ⟨_, _, e⟩ | ⟨_, hq, _⟩
  · exact absurd hp (by simp [h.1])
  · exact e
  · exact absurd h.2 (by omega)

/-- A reply offered in a write while there is room stands at the tail (R177, R191). -/
theorem State.offerReply_of_room (s : State) (tag c : Byte) (code : ReplyCode) (b : List Byte)
    (h : s.queue.length < 32) :
    (s.setLinkOut .zeros).offerReply { tag := tag, command := c, code := code, body := b } =
      s.replied tag c code b := by
  rcases (s.setLinkOut .zeros).offerReply_cases { tag := tag, command := c, code := code, body := b } with
    ⟨_, e⟩ | ⟨hq, _⟩
  · exact e
  · exact absurd h (Nat.not_lt.2 hq)

/-- A payload of a bad length is refused, but for a short LOAD while a commit is pending (R162, R175; log 27). -/
theorem State.takeBadLength_cases (s : State) (tag code : Byte) :
    (code = 0x01 ∧ s.tables.commit ≠ none ∧ s.takeBadLength tag code = s.busy tag code) ∨
      ((code ≠ 0x01 ∨ s.tables.commit = none) ∧ s.takeBadLength tag code = s.refuse tag code .range) := by
  unfold State.takeBadLength
  split
  · rename_i h
    exact Or.inl ⟨h.1, by rw [← Option.isSome_iff_ne_none]; exact h.2, rfl⟩
  · rename_i h
    refine Or.inr ⟨?_, rfl⟩
    rw [not_and_or, Option.not_isSome_iff_eq_none] at h
    exact h

/-! ## Surfaces that a posture disables (R114) -/

/-- A disabled surface is left alone or gets its closing request (R13, R114; log 12). -/
theorem State.disableSurface_cases (s : State) (u : Surface) :
    ((s.intake.get u).state = .off ∧ s.closings u .acquire = false ∧ s.disableSurface u = s) ∨
      (((s.intake.get u).state ≠ .off ∨ s.closings u .acquire = true) ∧
        s.disableSurface u = s.postClosing u .off) := by
  unfold State.disableSurface
  by_cases h : (s.intake.get u).state = .off <;> cases hc : s.closings u .acquire <;> simp [h]

/-! ## Tracks that go through an operation (R58) -/

theorem goesOn_iff (b e : Option Track) : goesOn b e = true ↔ sameTrack b e = true ∧ openedHere e = false := by
  simp [goesOn]

/-- A track opened in an operation is none that stood in its slot before (R56, R58). -/
theorem goesOn_of_opened (b e : Option Track) (h : openedHere e = true) : goesOn b e = false := by
  simp [goesOn, h]

/-! ## Claims (R50) -/

/-- A claim is granted to an unowned ACTIVE or MISSING track that is not PALM, and sets its owner (R50). -/
theorem State.claimTrack_spec (s s' : State) (r : TrackRef) (k : Nat) (h : s.claimTrack r k = some s') :
    ∃ t, s.tracks.at r.slot = some t ∧ t.id = r.id ∧ t.claimable = true ∧
      s' = { s with tracks := s.tracks.put r.slot (some { t with owner := some k }) } := by
  unfold State.claimTrack at h
  split at h
  · rename_i t ht
    split at h
    · rename_i hc
      cases h
      simp only [Bool.and_eq_true, decide_eq_true_eq] at hc
      exact ⟨t, ht, hc.1, hc.2, rfl⟩
    · cases h
  · cases h

/-! ## Lists and numbers -/

/-- A fold keeps what each of its steps keeps. -/
theorem foldl_keeps {α β γ : Type} (f : β → α → β) (g : β → γ) (h : ∀ b a, g (f b a) = g b) (l : List α)
    (b : β) : g (l.foldl f b) = g b := by
  induction l generalizing b with
  | nil => rfl
  | cons a l ih => rw [List.foldl_cons, ih, h]

/-- A fold keeps an invariant that each of its steps keeps. -/
theorem foldl_invariant {α β : Type} (p : β → Prop) (f : β → α → β) (h : ∀ b a, p b → p (f b a)) (l : List α)
    (b : β) (hb : p b) : p (l.foldl f b) := by
  induction l generalizing b with
  | nil => exact hb
  | cons a l ih => exact ih _ (h b a hb)

@[simp] theorem updateAt_length {α : Type} (l : List α) (i : Nat) (f : α → α) :
    (updateAt l i f).length = l.length := by
  induction l generalizing i with
  | nil => rfl
  | cons a l ih => cases i <;> simp [updateAt, ih]

theorem updateAt_getElem? {α : Type} (l : List α) (i j : Nat) (f : α → α) :
    (updateAt l i f)[j]? = if i = j then l[j]?.map f else l[j]? := by
  induction l generalizing i j with
  | nil => simp [updateAt]
  | cons a l ih =>
    cases i <;> cases j <;> simp [updateAt, ih]

theorem placeIn_perm {α : Type} (before : α → α → Bool) (a : α) (l : List α) :
    (placeIn before a l).Perm (a :: l) := by
  induction l with
  | nil => exact List.Perm.refl _
  | cons b l ih =>
    unfold placeIn
    split
    · exact List.Perm.refl _
    · exact (ih.cons b).trans (List.Perm.swap a b l)

/-- Putting a list in order keeps its entries. -/
theorem arrange_perm {α : Type} (before : α → α → Bool) (l : List α) : (arrange before l).Perm l := by
  suffices h : ∀ acc, (l.foldl (fun acc a => placeIn before a acc) acc).Perm (acc ++ l) from h []
  induction l with
  | nil => intro acc; simp
  | cons a l ih =>
    intro acc
    refine (ih _).trans ?_
    refine ((placeIn_perm before a acc).append_right l).trans ?_
    simpa using (List.perm_middle (a := a) (l₁ := acc) (l₂ := l)).symm

theorem countUp_le (n : Nat) : countUp n ≤ 65535 := by unfold countUp; omega

theorem clampInt_within (lo hi i : Int) (h : lo ≤ hi) : lo ≤ clampInt lo hi i ∧ clampInt lo hi i ≤ hi := by
  unfold clampInt; omega

theorem clampNat_within (lo hi n : Nat) (h : lo ≤ hi) : lo ≤ clampNat lo hi n ∧ clampNat lo hi n ≤ hi := by
  unfold clampNat; omega

/-- The first entry that satisfies a test, taken out of a list. -/
theorem takeFirst_spec {α : Type} (p : α → Bool) (l : List α) (a : α) (rest : List α)
    (h : takeFirst p l = some (a, rest)) : p a = true ∧ l.Perm (a :: rest) := by
  induction l generalizing rest with
  | nil => simp [takeFirst] at h
  | cons b l ih =>
    unfold takeFirst at h
    split at h
    · rename_i hb
      cases h
      exact ⟨hb, List.Perm.refl _⟩
    · cases hr : takeFirst p l with
      | none => simp [hr] at h
      | some x =>
        obtain ⟨y, ys⟩ := x
        simp only [hr, Option.map_some, Option.some.injEq, Prod.mk.injEq] at h
        obtain ⟨rfl, rfl⟩ := h
        obtain ⟨hp, hl⟩ := ih ys hr
        exact ⟨hp, (hl.cons b).trans (List.Perm.swap y b ys)⟩

end Sys2Proof.Machine
end

