-- ==== Sys2Proof/Laws/Gesture.lean ====
section
/-! SUPPORT. What the gesture engine's operations leave alone: everything outside the engine and the motion
unit but the owner fields of the track table, the report queue and the report-loss flag. -/

namespace Sys2Proof.Machine

/-- The part of a state that no operation of the gesture engine or the motion unit changes. -/
def State.outside (s : State) : State :=
  { s with
    gestures := Gestures.reset, motion := MotionUnit.reset, tracks := TrackTable.reset, queue := []
    link := { s.link with loss := false } }

/-! ## Offers and the shared operations -/

@[simp] theorem State.enqueue_outside (s : State) (t : Time) (p : Payload) : (s.enqueue t p).outside = s.outside :=
  rfl

@[simp] theorem State.lose_outside (s : State) : s.lose.outside = s.outside := rfl

@[simp] theorem State.offerGesture_outside (s : State) (t : Time) (g : GestureReport) :
    (s.offerGesture t g).outside = s.outside := by
  rcases s.offerGesture_cases t g with ⟨_, e⟩ | ⟨_, q, _, e⟩ | ⟨_, _, e⟩ <;> rw [e] <;> rfl

@[simp] theorem State.offerSnapshot_outside (s : State) (t : Time) (r : SnapshotReport) :
    (s.offerSnapshot t r).outside = s.outside := by
  rcases s.offerSnapshot_cases t r with ⟨_, e⟩ | ⟨_, e⟩ <;> rw [e] <;> rfl

@[simp] theorem State.offerPointer_outside (s : State) (t : Time) (m : Motion) :
    (s.offerPointer t m).outside = s.outside := by
  rcases s.offerPointer_cases t m with ⟨q, _, e⟩ | ⟨_, _, e⟩ | ⟨_, _, e⟩ <;> rw [e] <;> rfl

@[simp] theorem State.setContext_outside (s : State) (k : Nat) (c : Option Context) :
    (s.setContext k c).outside = s.outside := rfl

@[simp] theorem State.onContext_outside (s : State) (k : Nat) (f : Context → Context) :
    (s.onContext k f).outside = s.outside := rfl

@[simp] theorem State.releasePointer_outside (s : State) : s.releasePointer.outside = s.outside := rfl

@[simp] theorem State.releaseTrack_outside (s : State) (r : TrackRef) (k : Nat) :
    (s.releaseTrack r k).outside = s.outside := rfl

@[simp] theorem State.dropClaim_outside (s : State) (k : Nat) (r : TrackRef) :
    (s.dropClaim k r).outside = s.outside := by
  simp only [State.dropClaim]
  repeat' split
  all_goals simp

theorem State.claimTrack_outside (s s' : State) (r : TrackRef) (k : Nat) (h : s.claimTrack r k = some s') :
    s'.outside = s.outside := by
  obtain ⟨t, _, _, _, rfl⟩ := s.claimTrack_spec s' r k h
  rfl

/-! ## The motion unit -/

@[simp] theorem State.setPointer_outside (s : State) (h : ContextRef) (r : TrackRef) :
    (s.setPointer h r).outside = s.outside := rfl

@[simp] theorem State.pointerOn_outside (s : State) (k : Nat) : (s.pointerOn k).outside = s.outside := by
  unfold State.pointerOn
  repeat' split
  all_goals simp

@[simp] theorem State.pointerOff_outside (s : State) (k : Nat) : (s.pointerOff k).outside = s.outside := by
  unfold State.pointerOff
  repeat' split
  all_goals simp

@[simp] theorem State.setButton_outside (s : State) (i : Nat) (p : Option ContextRef) :
    (s.setButton i p).outside = s.outside := rfl

@[simp] theorem State.offerClick_outside (s : State) (t : Time) : (s.offerClick t).outside = s.outside :=
  s.offerPointer_outside t _

@[simp] theorem State.button_outside (s : State) (t : Time) (k n : Nat) (press : Bool) :
    (s.button t k n press).outside = s.outside := by
  unfold State.button
  split
  · unfold State.actButton
    repeat' split
    all_goals simp
  · rfl

@[simp] theorem State.releaseButtons_outside (s : State) (t : Time) (c : ContextRef) :
    (s.releaseButtons t c).outside = s.outside := by
  unfold State.releaseButtons
  split
  · exact State.offerClick_outside _ t
  · rfl

@[simp] theorem State.moveBy_outside (s : State) (t : Time) (dx dy : Int) :
    (s.moveBy t dx dy).outside = s.outside := by
  simp only [State.moveBy]
  split
  · rfl
  · exact State.offerPointer_outside _ t _

@[simp] theorem State.pointerFrame_outside (s : State) (t : Time) (k : Nat) :
    (s.pointerFrame t k).outside = s.outside := by
  unfold State.pointerFrame
  repeat' split
  all_goals simp

@[simp] theorem State.autoUpdate_outside (s : State) (t : Time) (k : Nat) (c : Context) (x y : AxisSteps) :
    (s.autoUpdate t k c x y).outside = s.outside := by
  unfold State.autoUpdate
  repeat' split
  all_goals simp

@[simp] theorem State.accumulateFrame_outside (s : State) (t : Time) (k : Nat) :
    (s.accumulateFrame t k).outside = s.outside := by
  unfold State.accumulateFrame
  repeat' split
  all_goals simp

/-! ## Contexts -/

@[simp] theorem State.giveUp_outside (s : State) (k : Nat) (r : TrackRef) :
    (s.giveUp k r).outside = s.outside := by simp [State.giveUp]

@[simp] theorem State.giveUpAll_outside (s : State) (k : Nat) : (s.giveUpAll k).outside = s.outside := by
  unfold State.giveUpAll
  split
  · rfl
  · exact foldl_keeps _ State.outside (fun b (a : ClaimEntry) => b.giveUp_outside k a.track) _ _

@[simp] theorem State.claim_outside (s : State) (k : Nat) (e : Event) :
    (s.claim k e).outside = s.outside := by
  unfold State.claim
  repeat' split
  all_goals first
    | rfl
    | (rename_i h; rw [State.onContext_outside, State.claimTrack_outside _ _ _ _ h])

@[simp] theorem State.release_outside (s : State) (k : Nat) (e : Event) :
    (s.release k e).outside = s.outside := by
  unfold State.release
  repeat' split
  all_goals simp

@[simp] theorem State.autoCancel_outside (s : State) (t : Time) (k : Nat) (c : Context) :
    (s.autoCancel t k c).outside = s.outside := by
  unfold State.autoCancel
  split <;> simp

@[simp] theorem State.emit_outside (s : State) (t : Time) (k : Nat) (p : EmitPhase) (code : Nat) :
    (s.emit t k p code).outside = s.outside := by
  unfold State.emit
  repeat' split
  all_goals simp [State.onContext_outside]

@[simp] theorem State.act_outside (s : State) (k : Nat) (e : Event) (a : Action) :
    (s.act k e a).outside = s.outside := by
  cases a <;> simp [State.act]

@[simp] theorem State.endContext_outside (s : State) (t : Time) (k : Nat) :
    (s.endContext t k).outside = s.outside := by
  unfold State.endContext
  repeat' split
  all_goals simp
  all_goals split <;> simp

@[simp] theorem State.watchEntry_outside (s : State) (k : Nat) (e : Event) :
    (s.watchEntry k e).outside = s.outside := by
  unfold State.watchEntry
  repeat' split
  all_goals simp

/-! ## Rows and events -/

@[simp] theorem Handling.act_outside (trial : Bool) (k : Nat) (e : Event) (h : Handling) (a : Action) :
    (Handling.act trial k e h a).state.outside = h.state.outside := by
  unfold Handling.act
  split <;> simp

@[simp] theorem Handling.enter_outside (trial : Bool) (k : Nat) (e : Event) (f n : Nat) (h : Handling) :
    (Handling.enter trial k e f n h).state.outside = h.state.outside := by
  simp only [Handling.enter]
  repeat' split
  all_goals simp

@[simp] theorem Handling.fire_outside (trial : Bool) (k : Nat) (e : Event) (r : Row) (h : Handling) :
    (Handling.fire trial k e r h).state.outside = h.state.outside := by
  have hf := foldl_keeps (Handling.act trial k e) (fun x : Handling => x.state.outside)
    (fun b a => Handling.act_outside trial k e b a) r.actions h
  simp only [Handling.fire]
  split
  · rw [State.endContext_outside]; exact hf
  · rw [Handling.enter_outside]; exact hf

theorem Handling.handle_outside (trial : Bool) (k : Nat) (e : Event) (h h' : Handling)
    (hh : h.handle trial k e = some h') : h'.state.outside = h.state.outside := by
  unfold Handling.handle at hh
  cases hc : h.state.context k with
  | none => simp [hc] at hh
  | some c =>
    cases hr : h.state.firingRow c e with
    | none => simp [hc, hr] at hh
    | some r =>
      simp only [hc, hr, Option.bind_some, Option.map_some, Option.some.injEq] at hh
      rw [← hh, Handling.fire_outside]

theorem State.handle_outside (s s' : State) (k : Nat) (e : Event) (h : s.handle k e = some s') :
    s'.outside = s.outside := by
  unfold State.handle at h
  cases hh : (Handling.mk s [] false).handle false k e with
  | none => simp [hh] at h
  | some x =>
    simp only [hh, Option.map_some, Option.some.injEq] at h
    rw [← h, Handling.handle_outside _ _ _ _ _ hh]

@[simp] theorem State.deliver_outside (s : State) (k : Nat) (e : Event) :
    (s.deliver k e).outside = s.outside := by
  unfold State.deliver
  cases h : s.handle k e with
  | none => rfl
  | some s' => exact s.handle_outside s' k e h

@[simp] theorem State.deliverLift_outside (s : State) (t : Time) (r : TrackRef) :
    (s.deliverLift t r).outside = s.outside := by
  unfold State.deliverLift
  split <;> simp

@[simp] theorem State.deliverCancel_outside (s : State) (t : Time) (r : TrackRef) :
    (s.deliverCancel t r).outside = s.outside := by
  unfold State.deliverCancel
  split
  · rfl
  · rename_i k e _
    cases h : (s.giveUp k r).handle k (claimEvent .cancel t e) with
    | none => simp [h]
    | some s' => simpa [h] using State.handle_outside _ s' k _ h

@[simp] theorem State.deliverClaimed_outside (s : State) (kind : EventKind) (t : Time) (r : TrackRef) :
    (s.deliverClaimed kind t r).outside = s.outside := by
  unfold State.deliverClaimed
  split <;> simp

@[simp] theorem State.deliverReleased_outside (s : State) (t : Time) (r : TrackRef) (c : ContextRef) :
    (s.deliverReleased t r c).outside = s.outside := by
  unfold State.deliverReleased
  repeat' split
  all_goals simp

/-! ## The offer chain, digests and cancellations -/

@[simp] theorem State.doHeld_outside (k : Nat) (e : Event) (s : State) (h : Held) :
    (State.doHeld k e s h).outside = s.outside := by
  cases h <;> simp [State.doHeld]

@[simp] theorem State.startTrial_outside (s : State) (k t : Nat) (e : Event) :
    (s.startTrial k t e).state.outside = s.outside := rfl

@[simp] theorem State.discardTrial_outside (s : State) (k : Nat) :
    (s.discardTrial k).outside = s.outside := by simp [State.discardTrial]

@[simp] theorem State.runTrial_outside (s : State) (k t : Nat) (d : Touch) (e : Event) :
    (s.runTrial k t d e).1.outside = s.outside := by
  have hh : (((s.startTrial k t e).handle true k e).getD (s.startTrial k t e)).state.outside = s.outside := by
    cases h : (s.startTrial k t e).handle true k e with
    | none => rfl
    | some x => exact Handling.handle_outside _ _ _ _ _ h
  simp only [State.runTrial]
  split
  · exact (foldl_keeps _ State.outside (fun b a => State.doHeld_outside k e b a) _ _).trans hh
  · simpa using hh

@[simp] theorem State.tryTemplates_outside (d : Touch) (e : Event) (s : State) (ts : List Nat) :
    (State.tryTemplates d e s ts).outside = s.outside := by
  induction ts generalizing s with
  | nil => rfl
  | cons t ts ih =>
    simp only [State.tryTemplates]
    repeat' split
    · rfl
    · simp
    · rw [ih, State.runTrial_outside]

@[simp] theorem State.offerTo_outside (s : State) (k : Nat) (e : Event) :
    (s.offerTo k e).1.outside = s.outside := by
  unfold State.offerTo
  split
  · exact Handling.handle_outside _ _ _ _ _ ‹_›
  · rfl

@[simp] theorem State.offerRunning_outside (s : State) (t : Time) (d : Touch) (ks : List Nat) :
    (s.offerRunning t d ks).1.outside = s.outside :=
  foldl_keeps _ (fun x : State × Bool => x.1.outside) (fun b a => by split <;> simp) ks _

@[simp] theorem State.offerTouch_outside (s : State) (t : Time) (d : Touch) :
    (s.offerTouch t d).outside = s.outside := by
  simp only [State.offerTouch]
  repeat' split
  all_goals simp

@[simp] theorem State.placeClaims_outside (s : State) (d : Digest) : (s.placeClaims d).outside = s.outside :=
  rfl

@[simp] theorem State.trackEvent_outside (u : Surface) (t : Time) (s : State) (e : TrackEvent) :
    (State.trackEvent u t s e).outside = s.outside := by
  cases e with
  | reclass r c => cases c <;> simp [State.trackEvent]
  | _ => simp [State.trackEvent]

@[simp] theorem State.frameEvent_outside (t : Time) (s : State) (k : Nat) :
    (State.frameEvent t s k).outside = s.outside := by simp [State.frameEvent]

/-- Handling a digest reaches nothing outside the engine (R126). -/
@[simp] theorem State.handleDigest_outside (s : State) (d : Digest) :
    (s.handleDigest d).outside = s.outside := by
  have h := foldl_keeps (State.trackEvent d.surface d.time) State.outside
    (fun b a => State.trackEvent_outside _ _ b a) d.events (s.placeClaims d)
  simp only [State.handleDigest]
  split
  · exact (foldl_keeps _ State.outside (fun b a => State.frameEvent_outside _ b a) _ _).trans h
  · exact h

@[simp] theorem State.handlePenInk_outside (s : State) (p : PenInk) :
    (s.handlePenInk p).outside = s.outside :=
  foldl_keeps _ State.outside (fun b a => State.deliver_outside b a _) _ _

@[simp] theorem State.cancelContexts_outside (s : State) : s.cancelContexts.outside = s.outside := by
  have h := foldl_keeps (fun (acc : State) k => acc.endContext s.now k) State.outside
    (fun b a => State.endContext_outside b s.now a) (List.range Config.contextSlots) s
  simp only [State.cancelContexts]
  generalize (List.range Config.contextSlots).foldl (fun acc k => acc.endContext s.now k) s = s1 at h ⊢
  exact h

@[simp] theorem State.dropInHand_outside (s : State) : s.dropInHand.outside = s.outside := rfl

@[simp] theorem State.generalCancel_outside (s : State) : s.generalCancel.outside = s.outside := by
  simp only [State.generalCancel]
  split
  · rw [State.dropInHand_outside, State.cancelContexts_outside]
  · rw [State.cancelContexts_outside]

/-! ## The row that fires -/

/-- The row that fires is the first of its template that answers (R129). -/
theorem State.firingRow_eq_some (s : State) (c : Context) (e : Event) (row : Row) :
    s.firingRow c e = some row ↔ s.firesFirst c e row := by
  rw [State.firingRow, List.find?_eq_some_iff_append, State.firesFirst]
  constructor
  · rintro ⟨h, a, b, hl, ha⟩
    exact ⟨a, b, hl, h, fun x hx => by simpa using ha x hx⟩
  · rintro ⟨a, b, hl, h, ha⟩
    exact ⟨h, a, b, hl, fun x hx => by simpa using ha x hx⟩

/-- No row fires exactly when none answers (R129). -/
theorem State.firingRow_eq_none (s : State) (c : Context) (e : Event) :
    s.firingRow c e = none ↔ s.firesNone c e := by
  simp [State.firingRow, State.firesNone]

end Sys2Proof.Machine
end

