-- ==== Sys2Proof/Laws/PerInstr.lean ====
section
/-! SUPPORT. The families of laws that hold of every command as syntax, one lemma for each constructor. -/

namespace Sys2Proof.Laws

/-- No command is both a record of a scan port and a management record of the link (R190, R192). -/
def OnePort.Statement (i : Instr) : Prop := ∀ m : Mgmt, m.toInstr = some i → encodeScan i = none

/-- A command that is no scan record satisfies the law. -/
theorem onePort_of_none (i : Instr) (h : encodeScan i = none) : OnePort.Statement i := fun _ _ => h

/-- A command that no management record stands for satisfies the law. -/
theorem onePort_of_unspelled (i : Instr) (h : ∀ m : Mgmt, m.toInstr ≠ some i) : OnePort.Statement i :=
  fun m hm => absurd hm (h m)

theorem OnePort.frameStart (port : Surface) (frame : Half) (columns rows : Byte) :
    OnePort.Statement (.frameStart port frame columns rows) :=
  onePort_of_unspelled _ fun m => by cases m <;> simp [Mgmt.toInstr]

theorem OnePort.rowRecord (port : Surface) (body : List Byte) :
    OnePort.Statement (.rowRecord port body) :=
  onePort_of_unspelled _ fun m => by cases m <;> simp [Mgmt.toInstr]

theorem OnePort.frameEnd (port : Surface) (frame check : Half) :
    OnePort.Statement (.frameEnd port frame check) :=
  onePort_of_unspelled _ fun m => by cases m <;> simp [Mgmt.toInstr]

theorem OnePort.unknownScanRecord (port : Surface) (kind : Byte) (body : List Byte) :
    OnePort.Statement (.unknownScanRecord port kind body) :=
  onePort_of_unspelled _ fun m => by cases m <;> simp [Mgmt.toInstr]

theorem OnePort.penSample (flags : Byte) (x y pressure : Half) (tiltX tiltY quality : Byte) :
    OnePort.Statement (.penSample flags x y pressure tiltX tiltY quality) :=
  onePort_of_unspelled _ fun m => by cases m <;> simp [Mgmt.toInstr]

theorem OnePort.frameTimeout (surface : Surface) : OnePort.Statement (.frameTimeout surface) :=
  onePort_of_none _ rfl

theorem OnePort.frameOperationBegin : OnePort.Statement .frameOperationBegin :=
  onePort_of_none _ rfl

theorem OnePort.frameOperationComplete : OnePort.Statement .frameOperationComplete :=
  onePort_of_none _ rfl

theorem OnePort.heldOperationComplete : OnePort.Statement .heldOperationComplete :=
  onePort_of_none _ rfl

theorem OnePort.palmMemoryExpiry (entry : Nat) : OnePort.Statement (.palmMemoryExpiry entry) :=
  onePort_of_none _ rfl

theorem OnePort.penGuardExpiry : OnePort.Statement .penGuardExpiry :=
  onePort_of_none _ rfl

theorem OnePort.timerDeadlineReached (slot : Nat) :
    OnePort.Statement (.timerDeadlineReached slot) :=
  onePort_of_none _ rfl

theorem OnePort.timerExpiryTaken (slot : Nat) : OnePort.Statement (.timerExpiryTaken slot) :=
  onePort_of_none _ rfl

theorem OnePort.digestTaken : OnePort.Statement .digestTaken :=
  onePort_of_none _ rfl

theorem OnePort.penInkTaken : OnePort.Statement .penInkTaken :=
  onePort_of_none _ rfl

theorem OnePort.programSwitch : OnePort.Statement .programSwitch :=
  onePort_of_none _ rfl

theorem OnePort.stopComplete : OnePort.Statement .stopComplete :=
  onePort_of_none _ rfl

theorem OnePort.readTransfer (extra : Nat) : OnePort.Statement (.readTransfer extra) :=
  onePort_of_none _ rfl

theorem OnePort.readEndedEarly (sent : Nat) : OnePort.Statement (.readEndedEarly sent) :=
  onePort_of_none _ rfl

theorem OnePort.badTransferKind (kind : Byte) : OnePort.Statement (.badTransferKind kind) :=
  onePort_of_none _ rfl

theorem OnePort.writeTransfer (bytes : List Byte) : OnePort.Statement (.writeTransfer bytes) :=
  onePort_of_none _ rfl

theorem OnePort.load (tag kind part : Byte) (offset : Half) (entries : List Byte) :
    OnePort.Statement (.load tag kind part offset entries) :=
  onePort_of_none _ rfl

theorem OnePort.discard (tag : Byte) : OnePort.Statement (.discard tag) :=
  onePort_of_none _ rfl

theorem OnePort.check (tag : Byte) : OnePort.Statement (.check tag) :=
  onePort_of_none _ rfl

theorem OnePort.commit (tag : Byte) : OnePort.Statement (.commit tag) :=
  onePort_of_none _ rfl

theorem OnePort.run (tag : Byte) : OnePort.Statement (.run tag) :=
  onePort_of_none _ rfl

theorem OnePort.stop (tag : Byte) : OnePort.Statement (.stop tag) :=
  onePort_of_none _ rfl

theorem OnePort.abort (tag : Byte) : OnePort.Statement (.abort tag) :=
  onePort_of_none _ rfl

theorem OnePort.postureCode (tag : Byte) (value : Half) :
    OnePort.Statement (.postureCode tag value) :=
  onePort_of_none _ rfl

theorem OnePort.postureAngle (tag : Byte) (value : Half) :
    OnePort.Statement (.postureAngle tag value) :=
  onePort_of_none _ rfl

theorem OnePort.postureBadForm (tag form : Byte) (value : Half) :
    OnePort.Statement (.postureBadForm tag form value) :=
  onePort_of_none _ rfl

theorem OnePort.recal (tag surface : Byte) : OnePort.Statement (.recal tag surface) :=
  onePort_of_none _ rfl

theorem OnePort.queryCondition (tag : Byte) : OnePort.Statement (.queryCondition tag) :=
  onePort_of_none _ rfl

theorem OnePort.queryTrackTable (tag surface : Byte) :
    OnePort.Statement (.queryTrackTable tag surface) :=
  onePort_of_none _ rfl

theorem OnePort.queryContexts (tag : Byte) : OnePort.Statement (.queryContexts tag) :=
  onePort_of_none _ rfl

theorem OnePort.queryPen (tag : Byte) : OnePort.Statement (.queryPen tag) :=
  onePort_of_none _ rfl

theorem OnePort.queryPosture (tag : Byte) : OnePort.Statement (.queryPosture tag) :=
  onePort_of_none _ rfl

theorem OnePort.queryBaselineRow (tag surface row : Byte) :
    OnePort.Statement (.queryBaselineRow tag surface row) :=
  onePort_of_none _ rfl

theorem OnePort.queryTableRange (tag kind part : Byte) (first count : Half) :
    OnePort.Statement (.queryTableRange tag kind part first count) :=
  onePort_of_none _ rfl

theorem OnePort.queryBadSelector (tag selector : Byte) :
    OnePort.Statement (.queryBadSelector tag selector) :=
  onePort_of_none _ rfl

theorem OnePort.watch (tag template state : Byte) : OnePort.Statement (.watch tag template state) :=
  onePort_of_none _ rfl

theorem OnePort.unwatch (tag template state : Byte) :
    OnePort.Statement (.unwatch tag template state) :=
  onePort_of_none _ rfl

theorem OnePort.clear (tag : Byte) : OnePort.Statement (.clear tag) :=
  onePort_of_none _ rfl

theorem OnePort.reset (tag : Byte) : OnePort.Statement (.reset tag) :=
  onePort_of_none _ rfl

theorem OnePort.unknownCommand (tag code : Byte) : OnePort.Statement (.unknownCommand tag code) :=
  onePort_of_none _ rfl

theorem OnePort.powerOn : OnePort.Statement .powerOn :=
  onePort_of_none _ rfl

theorem OnePort.resetPinAssert : OnePort.Statement .resetPinAssert :=
  onePort_of_none _ rfl

theorem OnePort.resetPinRelease : OnePort.Statement .resetPinRelease :=
  onePort_of_none _ rfl

theorem OnePort.digestHandlingEnd : OnePort.Statement .digestHandlingEnd :=
  onePort_of_none _ rfl

end Sys2Proof.Laws
end

