-- ==== Sys2Proof/Tests/Slice0.lean ====
section
/-! SUPPORT. Our own tests: ill-formed terms refused, records read from their bytes, the chapters' worked
examples, one small step for the rows that have no worked example, and for each obligation with hypotheses a
state and operands that meet them. -/

namespace Sys2Proof.Tests

-- One theorem after another: a kernel evaluation waits for all before it, and many that wait at once take memory.
set_option Elab.async false

open Sys2Proof.Machine

/-! ## States the tests start from -/

/-- In RUN with both surfaces LIVE and an empty report queue. -/
def live : State :=
  { State.reset with
    queue := []
    link := { State.reset.link with part := .run }
    intake := ⟨{ Intake.reset with state := .live }, { Intake.reset with state := .live }⟩ }

/-- In RUN with both surfaces OFF. -/
def dark : State := { live with intake := ⟨Intake.reset, Intake.reset⟩ }

/-- The state with this many NOTICE records in its queue. -/
def queued (s : State) (n : Nat) : State :=
  { s with queue := List.replicate n ⟨0, .notice (.posture .laptop 0), false⟩ }

/-- The state with a surface in this state. -/
def inState (s : State) (u : Surface) (st : SurfaceState) : State := s.onIntake u fun i => { i with state := st }

/-- The state with a surface's receiver in ASSEMBLING, expecting this row of frame 7. -/
def assembling (s : State) (u : Surface) (row : Nat) : State :=
  s.onIntake u fun i => { i with recv := ⟨.assembling, 7, row, [], 0xFFFF⟩ }

/-- Features of a small blob in the middle of the pad. -/
def feat : Features := ⟨9, 400, 1360, 96, 16, ⟨10, 12, 5, 7⟩, false, 0⟩

/-- An ACTIVE FINGER track with this ID at a position. -/
def track (id : Nat) (p : Pos) : Track :=
  { id := id, state := .active, cls := .finger, candidate := .finger, votes := 0, latched := false,
    forced := false, suppressed := false, owner := none, pos := p, prev := none, anchor := p, zone := 0,
    downTime := 0, seen := 2, misses := 0, feat := feat, startPending := false, endPending := false }

/-- The state with a track in the pad's slot 0. -/
def withTrack (s : State) (t : Track) : State := { s with tracks := s.tracks.put 0 (some t) }

/-- The state with an operation in flight on a surface, its snapshot taken now. -/
def flying (s : State) (u : Surface) (w : OpWork) : State := s.setOp (some ⟨u, w, s.snapshot u, false⟩)

/-- A frame of 1-by-1 samples: enough for an operation that looks at no cell. -/
def tinyFrame : ReadyFrame := ⟨7, 0, [[1830]]⟩

/-- A digest with no events. -/
def emptyDigest (joined : Time) : Digest := ⟨joined, .pad, .frame, 0, [], []⟩

/-- The state with this many digests in its queue. -/
def digests (s : State) (n : Nat) : State :=
  { s with gestures := { s.gestures with digests := List.replicate n (emptyDigest 0) } }

/-- The state with a context in slot 0. -/
def withContext (s : State) (c : Context) : State := s.setContext 0 (some c)

/-- A CLOSED entry that disables both surfaces and the pen. -/
def closing : State :=
  { live with tables := { live.tables with active := { resetTables with
      posture := resetTables.posture.take 4 ++ [⟨false, false, false, false, 0, 0, 0⟩] } } }

/-- The state with this action's answer. -/
def after (o : Host.Outcome State Fault Refusal) : State :=
  match o with
  | .next s => s
  | .fault _ => State.reset
  | .refused _ => State.reset

/-! ## Ill-formed terms (WellFormed) -/

theorem test_row_body_too_long :
    Instr.wellFormed (.rowRecord .pad (List.replicate 256 0)) = false := by decide +kernel
theorem test_unknown_body_too_long :
    Instr.wellFormed (.unknownScanRecord .pad 9 (List.replicate 256 0)) = false := by decide +kernel
theorem test_known_kind_is_not_unknown :
    Instr.wellFormed (.unknownScanRecord .pad 2 []) = false := by decide
theorem test_pen_sample_on_pad_is_unknown :
    Instr.wellFormed (.unknownScanRecord .pad 4 (List.replicate 10 0)) = true := by decide
theorem test_palm_entry_beyond_memory : Instr.wellFormed (.palmMemoryExpiry 8) = false := by decide
theorem test_timer_slot_beyond_contexts : Instr.wellFormed (.timerDeadlineReached 6) = false := by decide
theorem test_expiry_slot_beyond_contexts : Instr.wellFormed (.timerExpiryTaken 6) = false := by decide
theorem test_read_kind_is_not_bad : Instr.wellFormed (.badTransferKind 0x0A) = false := by decide
theorem test_write_kind_is_not_bad : Instr.wellFormed (.badTransferKind 0x0B) = false := by decide
theorem test_load_longer_than_a_write :
    Instr.wellFormed (.load 0 0 0 0 (List.replicate 515 0)) = false := by decide +kernel
theorem test_code_form_is_not_bad : Instr.wellFormed (.postureBadForm 0 0 0) = false := by decide
theorem test_angle_form_is_not_bad : Instr.wellFormed (.postureBadForm 0 1 0) = false := by decide
theorem test_known_selector_is_not_bad : Instr.wellFormed (.queryBadSelector 0 6) = false := by decide
theorem test_reset_code_is_known : Instr.wellFormed (.unknownCommand 0 0x0E) = false := by decide

/-! ## Records from their bytes (12.1 to 12.3) -/

theorem test_decode_frame_start :
    decodeScan .panel 1 [0x12, 0x34, 48, 30] = .frameStart .panel 0x1234 48 30 := by decide
theorem test_decode_frame_end :
    decodeScan .pad 3 [0x12, 0x34, 0xAB, 0xCD] = .frameEnd .pad 0x1234 0xABCD := by decide
theorem test_decode_pen_sample :
    decodeScan .panel 4 [3, 6, 0x40, 3, 0x84, 2, 0, 0xFB, 7, 180]
      = .penSample 3 1600 900 512 0xFB 7 180 := by decide
/-- A whole frame start, a pen sample of the wrong length, and a row of which one byte is missing. -/
theorem test_scan_port_bytes :
    scanArrivals .panel [0x01, 4, 0x12, 0x34, 48, 30, 0x04, 1, 7, 0x02, 3, 0, 0x0F]
      = ([.frameStart .panel 0x1234 48 30, .unknownScanRecord .panel 4 [7]], [0x02, 3, 0, 0x0F]) := by decide
/-- A row record of length 0 is whole with its length byte. -/
theorem test_scan_empty_row : readScan .pad [0x02, 0, 0x03] = some (.rowRecord .pad [], [0x03]) := by decide
theorem test_scan_record_bytes :
    encodeScanRecord (.penSample 3 1600 900 512 0xFB 7 180)
      = some (.panel, [0x04, 10, 3, 6, 0x40, 3, 0x84, 2, 0, 0xFB, 7, 180]) := by decide
theorem test_decode_load :
    decodeMgmt [5, 1, 5, 1, 0, 40, 9] = some (.load 5 5 1 40 [9]) := by decide
theorem test_decode_posture_angle : decodeMgmt [5, 8, 1, 0, 199] = some (.postureAngle 5 199) := by decide
theorem test_decode_recal : decodeMgmt [5, 9, 1] = some (.recal 5 1) := by decide
theorem test_decode_query_range :
    decodeMgmt [5, 0x0A, 6, 2, 0, 0, 1, 0, 4] = some (.queryTableRange 5 2 0 1 4) := by decide
theorem test_decode_watch : decodeMgmt [5, 0x0B, 5, 6] = some (.watch 5 5 6) := by decide
theorem test_decode_reset : decodeMgmt [5, 0x0E] = some (.reset 5) := by decide
theorem test_decode_stop_with_payload : decodeMgmt [5, 6, 0] = some (.badLength 5 6) := by decide
theorem test_decode_unknown : decodeMgmt [5, 0x0F, 1] = some (.unknownCommand 5 0x0F) := by decide
/-- The reference value of R6. -/
theorem test_check_reference :
    checkBytes checkStart [0x31, 0x32, 0x33, 0x34, 0x35, 0x36, 0x37, 0x38, 0x39] = 0x29B1 := by decide +kernel

/-! ## The worked examples of chapters 02 to 05 -/

/-- 2.2, one cell's four acquisitions. -/
theorem test_acquire_one_cell :
    acquireValues 0 [[0]] [[1830]] = [[1830]] ∧ acquireValues 1 [[1830]] [[1846]] = [[1838]] ∧
      acquireValues 2 [[1838]] [[1839]] = [[1839]] ∧ acquireValues 3 [[1839]] [[1851]] = [[1845]] := by decide
/-- 2.4, cells outside the widened box. -/
theorem test_drift_cells :
    driftCell 40 1845 1860 = 1846 ∧ driftCell 40 1845 1900 = 1845 ∧ driftCell 40 1845 1845 = 1845 ∧
      driftCell 40 1845 1806 = 1844 := by decide
/-- 2.4, the widened box covers cells (9, 8) and (11, 6), and not (6, 2). -/
theorem test_drift_cover :
    let w := (Box.mk 10 12 5 7).widen 1 .pad
    w.holdsCell 9 8 = true ∧ w.holdsCell 11 6 = true ∧ w.holdsCell 6 2 = false := by decide
/-- 2.4, the modulo brings a count of 100 into a range of 16. -/
theorem test_drift_count : nextDrift 4 15 = 0 ∧ nextDrift 4 100 = 5 ∧ nextDrift 0 0 = 0 := by decide

/-- 3.1's picture: 1 in a row stands for a set cell. -/
def picture : List (List Nat) :=
  [[], [], [0, 0, 0, 0, 100, 0, 0, 0, 100, 0], [0, 0, 0, 0, 100, 0, 0, 0, 100, 0],
    [0, 0, 0, 0, 100, 100, 100, 100, 100, 0], [0, 0, 0, 0, 0, 0, 0, 0, 0, 100],
    [0, 0, 0, 100, 0, 0, 100, 0, 0, 100]]

/-- 3.1, four blobs in formation order with their boxes. -/
theorem test_form_blobs :
    (frameBlobs 80 picture).map blobBox = [⟨4, 8, 2, 4⟩, ⟨9, 9, 5, 6⟩, ⟨3, 3, 6, 6⟩, ⟨6, 6, 6, 6⟩] := by decide
/-- 3.2, twelve blobs on the panel. -/
theorem test_ten_blob_limit :
    (keptBlobs ([310, 95, 640, 95, 220, 180, 95, 500, 410, 130, 95, 260].map
      fun p => [(⟨0, 0, p⟩ : SetCell)])).map blobPeak = [310, 95, 640, 95, 220, 180, 500, 410, 130, 260] := by
  decide
/-- 3.3, the features of one pad blob. -/
theorem test_features :
    measure resetTables .pad [⟨10, 5, 90⟩, ⟨11, 5, 150⟩, ⟨12, 5, 100⟩, ⟨10, 6, 120⟩, ⟨11, 6, 400⟩,
      ⟨12, 6, 200⟩, ⟨10, 7, 80⟩, ⟨11, 7, 130⟩, ⟨12, 7, 90⟩] = ⟨⟨714, 380⟩, feat⟩ := by decide
/-- 3.4, the nib at (1600, 900). -/
theorem test_nib :
    [⟨820, 240⟩, ⟨1650, 960⟩, ⟨1680, 970⟩].map
      (fun p => underNib resetTables.tune ⟨1600, 900⟩ ⟨p, feat⟩) = [false, true, false] := by decide
/-- 4.2, greedy pairing. -/
theorem test_pairing :
    (associate 320 .pad
        [none, none, none, some (track 1 ⟨600, 400⟩), some (track 2 ⟨800, 400⟩)]
        [⟨⟨750, 400⟩, feat⟩, ⟨⟨950, 400⟩, feat⟩]).map (fun c => (c.dist, c.slot, c.blob))
      = [(2500, 4, 0)] := by decide

/-- 5.1's shape table. -/
def shapes : List ShapeRule :=
  [⟨3, 0xFF, 0x1F, 40, 255, 0, 2047, 1, 256, 16, 768, 0, 2⟩,
    ⟨3, 0xFF, 0x1F, 12, 39, 0, 2047, 140, 256, 16, 768, 0, 2⟩,
    ⟨1, 0xC0, 1, 1, 39, 0, 2047, 1, 256, 32, 768, 1, 3⟩,
    ⟨1, 0xFF, 0x1F, 1, 11, 0, 2047, 1, 256, 16, 47, 0, 0⟩]

/-- 5.1, three blobs against one table, and the graze in TABLET. -/
theorem test_raw_classes :
    rawClass shapes .pad .laptop feat = .finger ∧
      rawClass shapes .pad .laptop ⟨8, 210, 0, 60, 48, ⟨0, 2, 15, 15⟩, true, 6⟩ = .edge ∧
      rawClass shapes .pad .laptop ⟨18, 300, 0, 170, 24, ⟨3, 5, 3, 5⟩, false, 0⟩ = .palm ∧
      rawClass shapes .pad .tablet ⟨8, 210, 0, 60, 48, ⟨0, 2, 15, 15⟩, true, 6⟩ = .unknown := by decide
/-- 5.2, a vote over six matches. -/
theorem test_vote :
    let v := fun (t : Track) (c : TrackClass) => t.vote 3 c
    let seen := fun (t : Track) => (t.cls, t.candidate, t.votes)
    let t2 := v (v (track 1 ⟨0, 0⟩) .thumb) .thumb
    let t3 := v t2 .finger
    let t6 := v (v (v t3 .thumb) .thumb) .thumb
    seen t2 = (.finger, .thumb, 2) ∧ seen t3 = (.finger, .thumb, 0) ∧ seen t6 = (.thumb, .thumb, 0) := by decide
/-- 6.12, the handedness vote of operations A and C. -/
theorem test_handedness :
    voteFor 1600 0 1260 = -1 ∧ voteFor 1580 (voteFor 1580 (-1) 1200) 1700 = -1 ∧
      voteFor 1600 (-8) 1260 = -8 := by decide

/-- R58: a TENTATIVE track freed and a track opened with the same ID in its slot are two tracks. -/
theorem test_reopened_slot_is_a_new_track :
    let before := { track 5 ⟨0, 0⟩ with state := .tentative, cls := .palm, latched := true, prev := some ⟨0, 0⟩ }
    let opened := { before with prev := none }
    becamePalm (some before) (some opened) = true ∧ unboundHere (some before) (some opened) = true ∧
      becamePalm (some before) (some before) = false ∧ unboundHere (some before) (some before) = false := by decide

/-! ## The pen (6.11) -/

/-- 6.11's part: LAPTOP with pad quiet on ink. -/
def inking : State :=
  { live with
    now := 100834
    tables := { live.tables with active := { resetTables with
      posture := { resetPostureEntry 0 190 with padQuietOnInk := true } :: resetTables.posture.tail } }
    pen := { live.pen with mode := .ink, held := { live.pen.held with pos := ⟨1604, 903⟩ } } }

/-- At 100834 a sample of quality 20 coasts the pen, and pad quiet falls. -/
theorem test_pen_coasts :
    let t := after (exec (.penSample 3 1604 903 0 0 0 20) inking)
    t.pen.mode = .coast .ink ∧ t.pen.coast = 1 ∧ t.padQuiet = false ∧ inking.padQuiet = true := by decide
/-- At 102085 a tip-up sample enters HOVER with the guard at 132085 and pad quiet on. -/
theorem test_pen_lifts :
    let t := after (exec (.penSample 1 1618 880 0 0 0 160) { inking with now := 102085 })
    t.pen.mode = .hover ∧ t.pen.guard = some 132085 ∧ t.padQuiet = true := by decide
/-- The shadow at (1604, 903), for the right and the left hand. -/
theorem test_shadow :
    inking.shadow = some ⟨1412, 2884, 583, 1856⟩ ∧
      { inking with pen := { inking.pen with vote := -1 } }.shadow = some ⟨324, 1796, 583, 1856⟩ := by decide
/-- 102502's hover record replaces 102085's in place. -/
theorem test_hover_replaces :
    let a := after (exec (.penSample 1 1618 880 0 0 0 160) inking)
    a.queue.length = 1 ∧ (after (exec (.penSample 1 1630 860 0 0 0 160) a)).queue.length = 1 := by decide
theorem test_guard_expires :
    (after (exec .penGuardExpiry { live with now := 132085, pen := { live.pen with guard := some 132085 } })).pen.guard
      = none := by decide

/-! ## The posture (7.3) -/

/-- 7.3, the angles of the laptop and tent boundary. -/
theorem test_hysteresis :
    let p := fun (before : Posture) (angle : Nat) => State.postureFor { live with posture := before } angle
    p .laptop 150 = .laptop ∧ p .laptop 195 = .laptop ∧ p .laptop 199 = .tent ∧ p .tent 186 = .tent ∧
      p .tent 182 = .laptop ∧ p .laptop 360 = .tablet := by decide
theorem test_angle_clamped :
    let t := after (exec (.postureAngle 1 400) live)
    t.angle = 360 ∧ t.posture = .tablet := by decide
theorem test_posture_code :
    (after (exec (.postureCode 1 4) live)).posture = .closed := by decide
/-- R13: a second disabling before completion turns the waiting request back. -/
theorem test_second_disabling :
    let s := { dark.setWaitList [⟨0, .pad, .closing .acquire⟩] with tables := closing.tables }
    (after (exec (.postureCode 1 4) s)).engine.waitList = [⟨0, .pad, .closing .off⟩] := by decide
theorem test_posture_bad_form :
    (after (exec (.postureBadForm 1 2 0) live)).queue
      = [⟨0, .reply ⟨1, 8, .refused .range, []⟩, false⟩] := by decide

/-! ## Gestures and motion (8.11, 9.3 to 9.5) -/

/-- 8.11's template 5 with its rows 40 to 52; what stands before them is not used. -/
def tapTables : Tables :=
  let a (k o : Nat) : ActionWord := ⟨k, o⟩
  let e : ActionWord := ⟨0, 0⟩
  { resetTables with
    templates := List.replicate 5 ⟨1, 0, 0, 1, 0, 1, 0, 0⟩ ++ [⟨0, 0xFF, 1, 1, 2, 6, 40, 13⟩]
    rows := List.replicate 40 ⟨1, 6, 0, 0, 1, e, e, e⟩ ++
      [⟨1, 1, 0, 0, 2, a 1 0, a 4 0, a 5 180⟩, ⟨2, 2, 0, 0, 3, a 7 0, a 5 200, e⟩,
        ⟨2, 3, 6, 96, 5, a 6 0, a 12 0, e⟩, ⟨2, 7, 0, 0, 5, a 12 0, e, e⟩, ⟨2, 5, 0, 0, 0, e, e, e⟩,
        ⟨3, 1, 0, 0, 4, a 1 0, a 4 0, a 5 180⟩, ⟨3, 7, 0, 0, 0, a 9 513, e, e⟩,
        ⟨4, 2, 0, 0, 0, a 7 0, a 9 514, e⟩, ⟨4, 3, 6, 96, 6, a 14 1, a 12 0, a 9 3⟩,
        ⟨4, 7, 0, 0, 6, a 14 1, a 12 0, a 9 3⟩, ⟨4, 5, 0, 0, 0, e, e, e⟩, ⟨5, 2, 0, 0, 0, e, e, e⟩,
        ⟨6, 2, 0, 0, 0, a 14 257, a 9 515, e⟩] }

/-- The program is valid, as 8.11 supposes. -/
theorem test_tap_program_valid : validateKind tapTables .program = none := by decide +kernel

/-- 8.11's part with a track on the pad's slot 0, these events in the oldest digest, at their time. -/
def tapping (id : Nat) (p : Pos) (events : List TrackEvent) (time : Time) : State :=
  { withTrack live (track id p) with
    now := time
    tables := { live.tables with active := tapTables }
    gestures := { live.gestures with serial := 31, watch := [⟨5, 6⟩], digests :=
      [⟨time, .pad, .frame, time, events, [⟨⟨0, id⟩, p, 60, 3⟩]⟩] } }

/-- The context in slot 0 after the first press: state 2, ID 60 claimed at (640, 512). -/
def pressed : Context :=
  { Context.start 5 31 400000 with
    state := 2, claims := [⟨⟨0, 60⟩, ⟨640, 512⟩, ⟨640, 512⟩, 0, 0, 0⟩], timer := some ⟨418000, none⟩ }

/-- The context in slot 0 before the MOVE of frame 8016: state 4, ID 61 claimed at (652, 500). -/
def secondPress : Context :=
  { Context.start 5 31 400000 with
    state := 4, taps := 1, anchorTime := 410000, timer := some ⟨428000, none⟩
    claims := [⟨⟨0, 61⟩, ⟨700, 505⟩, ⟨652, 500⟩, 0, 0, 0⟩] }

/-- Frame 8000: the TOUCHDOWN starts context 0 by row 40. -/
theorem test_tap_starts :
    (after (exec .digestTaken (tapping 60 ⟨640, 512⟩ [.touchdown ⟨0, 60⟩ .finger ⟨640, 512⟩ 0] 400000))).context 0
      = some pressed := by decide +kernel
/-- R135, R123: a row that claims the track and releases it stops the chain; no context is started for it. -/
theorem test_claim_and_release_stop_the_chain :
    let a (k : Nat) : ActionWord := ⟨k, 0⟩
    let tables := { resetTables with
      templates := [⟨0, 0xFF, 0xF, 1, 7, 1, 0, 1⟩, ⟨0, 0xFF, 0xF, 1, 1, 1, 1, 1⟩]
      rows := [⟨1, 1, 0, 0, 1, a 1, a 2, a 0⟩, ⟨1, 1, 0, 0, 1, a 1, a 0, a 0⟩] }
    let s := withContext { tapping 60 ⟨640, 512⟩ [] 0 with tables := { live.tables with active := tables } }
      (Context.start 0 31 0)
    let t := s.offerTouch 0 ⟨.pad, ⟨0, 60⟩, .finger, ⟨640, 512⟩, 0⟩
    t.context 0 = some (Context.start 0 31 0) ∧ t.context 1 = none ∧
      (t.tracks.at 0).map Track.owner = some none := by decide +kernel
/-- Frame 8004: the LIFT takes the claim away and row 41 sets the tap window. -/
theorem test_tap_lifts :
    let t := after (exec .digestTaken
      (withContext (tapping 60 ⟨640, 512⟩ [.lift ⟨0, 60⟩] 403332) pressed))
    (t.context 0).map (fun c => (c.state, c.taps, c.claims, c.timer)) = some (3, 1, [], some ⟨423332, none⟩) := by
  decide +kernel
/-- Frame 8016: the MOVE fires row 48: button 1, the pointer, code 3 BEGIN, a SNAPSHOT; then a POINTER. -/
theorem test_drag_begins :
    let t := after (exec .digestTaken
      (withContext (tapping 61 ⟨760, 508⟩ [.move ⟨0, 61⟩ ⟨760, 508⟩] 413333) secondPress))
    (t.context 0).map Context.state = some 6 ∧ t.buttonsNow = [true, false, false] ∧
      t.motion.pointer = some ⟨⟨0, 31⟩, ⟨0, 61⟩⟩ ∧
      t.queue.map (fun r => match r.payload with
        | .pointer m => (1, m.x, m.click) | .gesture g => (2, g.code, false) | .snapshot n => (3, n.slot, false)
        | _ => (0, 0, false)) = [(1, 15, true), (2, 3, false), (3, 0, false)] := by decide +kernel
/-- Deadline 423332 in state 3: row 46 emits code 1 END and the context ends. -/
theorem test_single_tap :
    let s := withContext { tapping 60 ⟨640, 512⟩ [] 423332 with gestures :=
        { live.gestures with digests := [] } } { pressed with
          state := 3, claims := [], timer := some ⟨423332, some 423332⟩ }
    let t := after (exec (.timerExpiryTaken 0) s)
    t.context 0 = none ∧ t.queue.map (fun r => r.payload) =
      [.gesture ⟨1, .end_, 0, 5, [], AxisSteps.zero, AxisSteps.zero⟩] := by decide +kernel
/-- The race at the tap window: an expiry that waits since 423332 goes before a digest that joined at 423400. -/
theorem test_tap_race :
    let s := withContext (tapping 62 ⟨640, 512⟩ [] 423400) { pressed with
        state := 3, claims := [], timer := some ⟨423332, some 423332⟩ }
    s.mayTakeItem 423400 = false ∧ s.mayTakeItem 423332 = true := by decide +kernel
theorem test_deadline_reached :
    (after (exec (.timerDeadlineReached 0) (withContext { live with now := 418000 } pressed))).context 0
      = some { pressed with timer := some ⟨418000, some 418000⟩ } := by decide
theorem test_handling_ends :
    (after (exec .digestHandlingEnd
      { digests live 2 with gestures := { (digests live 2).gestures with inHand := true } })).gestures.digests
      = [emptyDigest 0] := by decide
theorem test_pen_ink_taken :
    (after (exec .penInkTaken { live with gestures := { live.gestures with
      penInk := some ⟨⟨0, 0⟩, 0, 0, 0⟩ } })).gestures.penInk = none := by decide

/-- 9.3's curve. -/
def curve : List Knot :=
  [⟨0, 128⟩, ⟨8, 192⟩, ⟨24, 256⟩, ⟨48, 384⟩, ⟨96, 512⟩, ⟨160, 640⟩, ⟨256, 768⟩, ⟨512, 768⟩]

/-- 9.3, one frame through the curve, and the next with its residues. -/
theorem test_curve :
    gainOf (speedOf 37 (-12)) curve = 357 ∧ movePointer curve 0 0 37 (-12) = ((12, 921), (-4, -188)) ∧
      movePointer curve 921 (-188) 37 (-12) = ((13, 818), (-4, -376)) := by decide
/-- 9.5, detents and a reversal: frames 3, 4 and 5. -/
theorem test_detents :
    (AxisAcc.mk 220 .none).accumulate 256 16 90 = (⟨54, .positive⟩, ⟨1, false, false⟩) ∧
      (AxisAcc.mk 54 .positive).accumulate 256 16 (-30) = (⟨-30, .negative⟩, ⟨0, true, false⟩) ∧
      (AxisAcc.mk (-30) .negative).accumulate 256 16 (-240) = (⟨-14, .negative⟩, ⟨-1, false, false⟩) ∧
      (AxisAcc.mk 54 .positive).accumulate 256 16 (-10) = (⟨44, .positive⟩, ⟨0, false, false⟩) := by decide
/-- 9.4, the drag under queue pressure: a motion joins a queued press, and a release does not. -/
theorem test_absorption :
    let press : Record := ⟨0, .pointer ⟨23, 5, [true, false, false], true⟩, false⟩
    absorbPointer 9 ⟨11, 0, [true, false, false], false⟩ [press]
        = some [⟨9, .pointer ⟨34, 5, [true, false, false], true⟩, false⟩] ∧
      absorbPointer 9 ⟨0, 0, [false, false, false], true⟩ [press] = none := by decide

/-! ## Scan intake and the frame engine (01) -/

theorem test_frame_start_begins :
    let r := ((after (exec (.frameStart .pad 7 24 16) live)).intake.pad).recv
    r.cond = .assembling ∧ r.frame = 7 := by decide
theorem test_wrong_grid_is_discarded :
    let i := (after (exec (.frameStart .pad 7 48 30) live)).intake.pad
    i.recv.cond = .discarding ∧ i.discarded = 1 ∧ i.errorRun = 1 := by decide
theorem test_row_fields_are_clamped :
    let r := ((after (exec (.rowRecord .pad (rowBody 0 (List.replicate 24 0xFFFF))) (assembling live .pad 0))).intake.pad).recv
    r.expected = 1 ∧ r.samples = [List.replicate 24 4095] := by decide +kernel
theorem test_frame_end_makes_ready :
    let t := after (exec (.frameEnd .pad 7 0xFFFF) (assembling { live with now := 5 } .pad 16))
    t.intake.pad.ready = some ⟨7, 5, []⟩ ∧ t.engine.waitList = [⟨5, .pad, .frame⟩] ∧
      t.intake.pad.timeout = some 10005 := by decide
theorem test_eighth_discard_fails :
    let t := after (exec (.frameEnd .pad 8 0) ((assembling live .pad 16).onIntake .pad fun i => { i with errorRun := 7 }))
    t.intake.pad.state = .failed ∧ t.engine.waitList = [⟨0, .pad, .closing .none⟩] ∧ t.fault = true := by decide
theorem test_frame_timeout_fails :
    let t := after (exec (.frameTimeout .panel) ({ live with now := 20 }.onIntake .panel fun i => { i with timeout := some 20 }))
    t.intake.panel.state = .failed ∧ t.queue.length = 2 := by decide
theorem test_operation_begins_with_the_pad :
    let s := live.setWaitList [⟨3, .panel, .closing .off⟩, ⟨3, .pad, .closing .none⟩]
    (after (exec .frameOperationBegin s)).engine.op.map Operation.surface = some .pad := by decide
theorem test_closing_completes :
    let t := after (exec .frameOperationComplete (flying (withTrack live (track 20 ⟨0, 0⟩)) .pad (.closing 4 .off)))
    t.intake.pad.state = .off ∧ (t.tracks.at 0).map Track.state = none ∧
      t.gestures.digests.map Digest.events = [[.cancel ⟨0, 20⟩]] := by decide +kernel
theorem test_held_operation_completes :
    let s := digests (flying live .pad (.closing 4 .off)) 3
    (after (exec .heldOperationComplete (s.setOp (s.engine.op.map fun o => { o with held := true })))).intake.pad.state
      = .off := by decide
theorem test_palm_entry_expires :
    (after (exec (.palmMemoryExpiry 0) { live with now := 9, palm := [⟨.pad, ⟨0, 1, 0, 1⟩, [], some 9⟩] })).palm = [] := by
  decide

/-! ## Tables (10) -/

theorem test_load_tune :
    let t := after (exec (.load 1 0 0 0 [0, 90, 0, 3]) live)
    t.tables.staging.tune.take 3 = [90, 3, 2] ∧ t.tables.dirty.tune = true ∧ t.tables.active = resetTables := by
  decide +kernel
theorem test_load_beyond_part_is_refused :
    (after (exec (.load 1 0 0 26 [0, 90, 0, 3]) live)).queue.map Record.payload
      = [.reply ⟨1, 1, .refused .range, []⟩] := by decide
theorem test_commit_clamps :
    let s := { State.reset with queue := [], tables :=
      { State.reset.tables with
        staging := { resetTables with tune := 0 :: resetTables.tune.tail }, dirty := ⟨true, false, false, false, false, false⟩ } }
    let t := after (exec (.commit 1) s)
    t.tables.active.tune.take 2 = [1, 2] ∧ t.tables.dirty = KindSet.empty ∧
      t.queue.map Record.payload = [.reply ⟨1, 4, .done, [1, 1]⟩] := by decide +kernel
theorem test_check_finds_the_first_failure :
    let s := { live with tables :=
      { live.tables with
        staging := { resetTables with curve := [⟨0, 256⟩, ⟨0, 256⟩] }, dirty := ⟨false, false, false, false, true, false⟩ } }
    (after (exec (.check 1) s)).queue.map Record.payload
      = [.reply ⟨1, 3, .done, [16, 1, 4, 0, 0, 1, 0, 7, 0]⟩] := by decide +kernel
theorem test_discard_restores :
    let s := { live with tables := { live.tables with staging := { resetTables with tune := [] }, dirty := ⟨true, false, false, false, false, false⟩ } }
    (after (exec (.discard 1) s)).tables.staging.tune = resetTables.tune := by decide
theorem test_program_switches :
    let s := { live with
      gestures := { live.gestures with switchWaiting := true }
      tables := { live.tables with staging := tapTables, commit := some ⟨1, KindSet.empty, true, 0⟩ } }
    (after (exec .programSwitch s)).tables.active.templates.length = 6 := by decide +kernel

/-- R164: a template with no rows passes ROW_RANGE wherever its first row is. -/
theorem test_no_rows_in_range :
    validateKind { resetTables with templates := [⟨0, 0xFF, 1, 1, 2, 6, 500, 0⟩] } .program = none := by
  decide +kernel
/-- R162, step 1: a LOAD too short for its kind, part and offset (log 27). -/
theorem test_short_load :
    let w := frameWrite [1, 1, 0]
    (after (exec (.writeTransfer w) live)).queue.map Record.payload = [.reply ⟨1, 1, .refused .range, []⟩] ∧
      (after (exec (.writeTransfer w) { live with tables :=
        { live.tables with commit := some ⟨1, KindSet.empty, true, 0⟩ } })).queue.map Record.payload
        = [.reply ⟨1, 1, .busy, []⟩] := by decide +kernel

/-! ## The link (11) -/

theorem test_run_enters_acquire :
    let t := after (exec (.run 1) { State.reset with queue := [] })
    t.link.part = .run ∧ t.intake.pad.state = .acquire ∧ t.intake.panel.state = .acquire ∧ t.queue.length = 3 := by decide
/-- 11.7: STOP into a queue of 30 records, 28 of them ordinary: the pen's record is lost, both NOTICEs fit. -/
theorem test_stop_into_a_full_queue :
    let s := { live with
      queue := List.replicate 2 ⟨0, .reply ⟨0, 2, .done, []⟩, false⟩
        ++ List.replicate 28 ⟨0, .pointer ⟨0, 0, [], false⟩, false⟩
      pen := { live.pen with mode := .hover } }
    let t := after (exec (.stop 1) s)
    t.link.part = .stopping ∧ t.link.loss = true ∧
      (t.queue.drop 30).map Record.payload = [.notice .faultRising, .notice .lossRising] := by decide +kernel
theorem test_stop_completes :
    let t := after (exec .stopComplete { live with link := { live.link with part := .stopping, stopTag := some 1 } })
    t.link.part = .hold ∧ t.queue.map Record.payload = [.reply ⟨1, 6, .done, []⟩] := by decide
theorem test_abort_ends_tracks :
    let t := after (exec (.abort 1) (withTrack live (track 20 ⟨0, 0⟩)))
    t.link.part = .hold ∧ t.intake.pad.state = .off ∧ t.tracks.at 0 = none := by decide
/-- 2.5: RECAL while a panel frame is in flight. -/
theorem test_recal :
    let t := after (exec (.recal 1 1) (flying live .panel (.frame tinyFrame)))
    t.intake.panel.state = .acquire ∧ t.engine.waitList = [⟨0, .panel, .closing .none⟩] := by decide
theorem test_clear :
    let t := after (exec (.clear 1) State.reset)
    t.link.resetSeen = false ∧ t.link.cause = .power := by decide
theorem test_reset : (after (exec (.reset 1) live)).queue.map Record.payload = [.notice (.reset .command)] := by decide
theorem test_power_on : (after (exec .powerOn live)).link.part = .hold := by decide
theorem test_pin_holds :
    let t := after (exec .resetPinAssert live)
    t.pinHeld = true ∧ t.queue = [] ∧
      (after (exec .resetPinRelease t)).queue.map Record.payload = [.notice (.reset .pin)] := by decide
theorem test_unknown_command :
    (after (exec (.unknownCommand 1 0x0F) live)).queue.map Record.payload = [.reply ⟨1, 0x0F, .refused .unknown, []⟩] := by
  decide
theorem test_watch_fifth_pair :
    let s := { live with gestures := { live.gestures with watch := [⟨0, 1⟩, ⟨1, 1⟩, ⟨2, 1⟩, ⟨3, 1⟩] } }
    (after (exec (.watch 1 4 1) s)).queue.map Record.payload = [.reply ⟨1, 0x0B, .refused .full, []⟩] ∧
      (after (exec (.unwatch 1 2 1) s)).gestures.watch = [⟨0, 1⟩, ⟨1, 1⟩, ⟨3, 1⟩] := by decide
theorem test_read_of_nothing : (after (exec (.readTransfer 1) live)).linkOut = .bytes [0, 0, 0] := by decide
theorem test_read_sends_the_reset_notice :
    let t := after (exec (.readTransfer 0) State.reset)
    t.queue = [] ∧ (match t.linkOut with | .bytes b => b.take 3 | .zeros => []) = [0, 8, 5] := by decide
theorem test_write_sends_zeros :
    (after (exec (.clear 1) { live with linkOut := .bytes [0, 0] })).linkOut = .zeros ∧
      (after (exec (.writeTransfer []) { live with linkOut := .bytes [0, 0] })).linkOut = .zeros := by decide
/-- R191's kind bytes: 0Ah a read, 0Bh a write. -/
theorem test_transfer_kinds :
    live.transfer [0x0A, 0] = some (.readEndedEarly 1) ∧ live.transfer [0x0A, 0, 0, 0] = some (.readTransfer 1) ∧
      live.transfer [0x0B, 9] = some (.writeTransfer [9]) ∧
      live.transfer [0x0C, 0] = some (.badTransferKind 0x0C) := by decide
theorem test_read_ended_early_marks_begun :
    (after (exec (.readEndedEarly 3) State.reset)).queue.map Record.begun = [true] ∧
      (after (exec (.readEndedEarly 2) State.reset)).queue.map Record.begun = [false] := by decide
theorem test_bad_kind_counts :
    let t := after (exec (.badTransferKind 0x0C) live)
    t.link.badWrites = 1 ∧ t.queue.map Record.payload = [.notice .faultRising] := by decide
theorem test_write_takes_its_command :
    (after (exec (.writeTransfer (frameWrite [1, 0x0D])) State.reset)).link.resetSeen = false := by
  decide +kernel
theorem test_write_to_a_full_queue_is_dropped :
    (after (exec (.discard 1) (queued live 32))).link.droppedWrites = 1 := by
  decide +kernel
theorem test_query_posture :
    (after (exec (.queryPosture 9) live)).queue.map Record.payload
      = [.reply ⟨9, 0x0A, .done, [4, 0, 0, 0, 7, 0xFF, 0xFF, 0, 0, 0, 190, 0, 0xFF, 0xF8, 0, 198]⟩] := by decide
theorem test_query_baseline_beyond :
    (after (exec (.queryBaselineRow 9 0 16) live)).queue.map Record.payload = [.reply ⟨9, 0x0A, .refused .range, []⟩] := by
  decide
theorem test_query_tune :
    (after (exec (.queryTableRange 9 0 0 0 2) live)).queue.map Record.payload
      = [.reply ⟨9, 0x0A, .done, [6, 0, 0, 0, 0, 2, 0, 80, 0, 2]⟩] := by decide

/-! ## Witnesses: a state and operands that meet each statement's hypotheses, clause by clause -/

/-- The whole pinHeld hypothesis, met by `live` in every witness below. -/
theorem witness_pin_released : live.pinHeld = false ∧ State.reset.pinHeld = false := by decide
theorem witness_taken : live.takes ∧ (queued live 31).takes := by decide +kernel
theorem witness_step_queue :
    ({ State.reset with pending := [.powerOn, .powerOn] } : State).pending = .powerOn :: [.powerOn] ∧
      (State.reset.pending = [] ∧ State.reset.pinHeld = false) ∧
      ((State.atReset .pin true []).pending = [] ∧ (State.atReset .pin true []).pinHeld = true) := by decide
theorem witness_held_pin :
    let s := State.atReset .pin true [.run 0]
    s.heldAtReset ∧ s.pinHeld = true ∧ step s = .next (State.atReset .pin true []) ∧
      (.run 0 : Instr) ≠ .powerOn ∧ (.run 0 : Instr) ≠ .resetPinRelease :=
  ⟨fun _ => ⟨.pin, rfl⟩, rfl, rfl, by decide, by decide⟩
theorem witness_spells : spells (.discard 3) (.discard 3) := ⟨rfl, rfl⟩
theorem witness_spells_longest :
    spells (.load 1 0 0 0 (List.replicate 514 0)) (.load 1 0 0 0 (List.replicate 514 0)) :=
  ⟨rfl, by decide +kernel⟩
theorem witness_scan_record :
    Instr.wellFormed (.rowRecord .pad (List.replicate 255 0)) = true ∧
      encodeScan (.rowRecord .pad (List.replicate 255 0)) = some (.pad, 2, List.replicate 255 0) := by
  decide +kernel
theorem witness_scan_record_bytes :
    encodeScanRecord (.rowRecord .pad (List.replicate 255 0)) = some (.pad, 2 :: 255 :: List.replicate 255 0) ∧
      readScan .pad (2 :: 255 :: List.replicate 255 0) = some (.rowRecord .pad (List.replicate 255 0), []) ∧
      readScan .pad (2 :: 255 :: List.replicate 254 0) = none := by decide +kernel
theorem witness_scan_records :
    let records : List (Instr × List Byte) :=
      [(.rowRecord .pad [], [2, 0]), (.unknownScanRecord .pad 9 [1], [9, 1, 1])]
    (∀ r ∈ records, r.1.wellFormed = true ∧ encodeScanRecord r.1 = some (.pad, r.2)) ∧
      readScan .pad [1] = none := by decide
theorem witness_bad_write :
    live.pinHeld = false ∧ ∀ record extra, 2 ≤ record.length → record.length ≤ 520 →
      ([] : List Byte) ≠ frameWrite record ++ extra :=
  ⟨rfl, fun record extra _ _ => by simp [frameWrite, natBytes2, halfBytes]⟩
theorem witness_dropped_write :
    (queued live 32).pinHeld = false ∧ 32 ≤ (queued live 32).queue.length ∧ 2 ≤ ([1, 2] : List Byte).length ∧
      (List.replicate 520 (0 : Byte)).length ≤ 520 := by decide +kernel
theorem witness_unknown_records :
    (List.replicate 518 (0 : Byte)).length + 2 ≤ 520 ∧ (0 : Byte).toNat = 0 ∧ 14 < (15 : Byte).toNat ∧
      (List.replicate 517 (0 : Byte)).length + 3 ≤ 520 ∧ 6 < (7 : Byte).toNat := by decide +kernel
theorem witness_transfers :
    live.queue = [] ∧ ([0] : List Byte).length < 2 ∧ 2 ≤ ([0, 0] : List Byte).length ∧
      State.reset.queue = ⟨0, .notice (.reset .power), false⟩ :: [] ∧ (0x0C : Byte) ≠ 0x0A ∧ (0x0C : Byte) ≠ 0x0B := by
  decide
theorem witness_bad_lengths :
    ([0, 0, 0] : List Byte).length < 4 ∧ ([0] : List Byte) ≠ [] ∧ ([0, 0] : List Byte).length ≠ 3 ∧
      ([] : List Byte).length ≠ 1 ∧ ([0] : List Byte).length ≠ 2 := by decide
theorem witness_bad_query_length :
    ∃ sel args, ([1] : List Byte) = sel :: args ∧ sel.toNat ≤ 6 ∧
      [0, 1, 0, 0, 0, 2, 6].getD sel.toNat 0 ≠ args.length := ⟨1, [], by decide⟩
theorem witness_read :
    (State.reset.queue = ⟨0, .notice (.reset .power), false⟩ :: []) ∧ live.queue = [] := by decide
theorem witness_departure :
    (queued live 32).queue.length ≤ 32 ∧ (queued live 32).motion.unsent = none := by decide +kernel
/-- With one place free and three causes owed, the NOTICE of the first is issued. -/
theorem test_owed_notices :
    let s := queued { live with link := { live.link with owed := ⟨some ⟨true, false⟩, true, true, false⟩ } } 31
    (s.departure.queue.drop 31).map Record.payload = [.notice (.surface .live .live true false)] ∧
      s.departure.owedNotices = [.posture .laptop 0, .faultRising] := by decide +kernel
theorem witness_fault_rises :
    let s := { live with link := { live.link with badWrites := 1 } }
    live.fault = false ∧ s.fault = true ∧ s.link.loss = false ∧ s.queue.length < 32 ∧
      32 ≤ (queued s 32).queue.length ∧ (queued s 32).fault = true := by decide +kernel
theorem witness_loss_rises :
    let before := { live with link := { live.link with badWrites := 1 } }
    let s := { before with link := { before.link with loss := true } }
    before.fault = true ∧ before.link.loss = false ∧ s.link.loss = true ∧ s.queue.length < 32 ∧
      32 ≤ (queued s 32).queue.length := by decide +kernel
theorem witness_both_rise :
    let s (n : Nat) := queued { live with link := { live.link with loss := true } } n
    live.fault = false ∧ (∀ n ∈ [30, 31, 32], (s n).link.loss = true) ∧ live.link.loss = false ∧
      (s 30).queue.length < 31 ∧ (s 31).queue.length = 31 ∧ 32 ≤ (s 32).queue.length := by decide +kernel
theorem witness_frame_start :
    (24 : Byte).toNat = Surface.pad.columns ∧ (16 : Byte).toNat = Surface.pad.rows ∧
      (live.intake.get .pad).recv.cond ≠ .assembling := by decide
theorem witness_frame_start_over_another :
    let s := (assembling live .pad 3).onIntake .pad fun i => { i with errorRun := 7 }
    (s.intake.get .pad).recv.cond = .assembling ∧ s.shut .pad = false ∧ (s.intake.get .pad).state = .live := by
  decide
theorem witness_wrong_grid_over_another :
    let s := (assembling live .pad 3).onIntake .pad fun i => { i with errorRun := 6 }
    ¬ ((24 : Byte).toNat = Surface.pad.columns ∧ (17 : Byte).toNat = Surface.pad.rows) ∧
      (s.intake.get .pad).recv.cond = .assembling ∧ s.shut .pad = false ∧ (s.intake.get .pad).state = .live ∧
      (s.intake.get .pad).errorRun < 8 ∧ 8 ≤ (s.intake.get .pad).errorRun + 2 ∧
      (assembling dark .pad 3).shut .pad = true := by
  decide
theorem witness_row :
    let s := assembling live .panel 29
    (s.intake.get .panel).recv.cond = .assembling ∧ (s.intake.get .panel).recv.expected < Surface.panel.rows ∧
      (List.replicate 48 (0xFFFF : Half)).length = Surface.panel.columns := by decide
theorem witness_ignored :
    (live.intake.get .pad).recv.cond ≠ .assembling ∧ State.reset.link.part ≠ .run ∧
      (inState live .panel .off).intake.panel.state = .off := by decide
theorem witness_rejected_start :
    live.rejects .pad (.frameStart .pad 7 24 17) ∧ live.shut .pad = false ∧ dark.shut .pad = true :=
  ⟨⟨rfl, by decide, by decide⟩, by decide, by decide⟩
theorem witness_rejected_row : (assembling live .pad 0).rejects .pad (.rowRecord .pad []) :=
  ⟨rfl, rfl, fun h => by obtain ⟨_, _, _, hb⟩ := h; simp [rowBody] at hb⟩
theorem witness_rejected_end :
    let s := (assembling live .pad 16).onIntake .pad fun i => { i with errorRun := 7 }
    s.rejects .pad (.frameEnd .pad 7 0) ∧ s.shut .pad = false ∧ (s.intake.get .pad).state = .live ∧
      (s.intake.get .pad).errorRun = 7 :=
  ⟨⟨rfl, rfl, by decide⟩, by decide, rfl, rfl⟩
theorem witness_valid_frame :
    let s := assembling live .panel 30
    (s.intake.get .panel).recv.expected = Surface.panel.rows ∧ (s.intake.get .panel).recv.frame = 7 ∧
      (s.intake.get .panel).recv.check = 0xFFFF ∧ s.shut .panel = false ∧
      (inState s .panel .failed).shut .panel = false ∧ (inState s .panel .off).shut .panel = true := by decide
/-- The rows of a pad frame of full-scale samples. -/
def fullRows : List (List Half) := List.replicate 16 (List.replicate 24 0xFFFF)
theorem witness_whole_frame :
    let s := { live with pending := frameCommands .pad 7 fullRows ++ [] }
    s.pinHeld = false ∧ fieldsShaped .pad fullRows ∧ (s.intake.get .pad).recv.cond ≠ .assembling ∧
      s.shut .pad = false ∧ (s.intake.get .pad).state = .live ∧
      s.pending = frameCommands .pad 7 fullRows ++ [] :=
  ⟨rfl, ⟨rfl, fun row h => by rw [List.eq_of_mem_replicate h]; rfl⟩, by decide, by decide, rfl, rfl⟩
theorem witness_next_item :
    let wait : List WaitItem := [⟨3, .panel, .frame⟩, ⟨3, .pad, .frame⟩]
    nextItem .run wait = some ⟨3, .pad, .frame⟩ ∧
      wait.find? (fun x => x.surface != .pad && mayTake .run x) = some ⟨3, .panel, .frame⟩ ∧
      nextItem .hold wait = none := by decide
theorem witness_begins :
    let s := live.setWaitList [⟨3, .pad, .closing .off⟩]
    let f := (live.setWaitList [⟨3, .pad, .frame⟩]).onIntake .pad fun i => { i with ready := some tinyFrame }
    (s.engine.op = none ∧ nextItem s.link.part s.engine.waitList = some ⟨3, .pad, .closing .off⟩) ∧
      (f.engine.op = none ∧ nextItem f.link.part f.engine.waitList = some ⟨3, .pad, .frame⟩ ∧
        (f.intake.get .pad).ready = some tinyFrame) ∧
      (flying live .pad (.frame tinyFrame)).engine.op ≠ none ∧
      ∀ w ∈ live.engine.waitList, mayTake live.link.part w = false := by decide +kernel
theorem witness_snapshot_stays :
    let s := flying live .pad (.closing 4 .off)
    (∃ o, s.engine.op = some o) ∧ ∃ t, exec (.clear 1) s = .next t :=
  ⟨⟨_, rfl⟩, ⟨_, rfl⟩⟩
theorem witness_held_operation :
    let s := flying live .pad (.frame tinyFrame)
    s.engine.op.map Operation.held = some false ∧ s.engine.op.map Operation.makesDigest = some true ∧
      4 ≤ (digests s 4).gestures.digests.length ∧ (digests s 3).gestures.digests.length < 4 ∧
      (s.setOp (s.engine.op.map fun o => { o with held := true })).engine.op.map Operation.held = some true := by
  decide +kernel
theorem witness_no_digest :
    let s := digests (flying live .pad (.closing 4 .off)) 4
    s.engine.op.map (fun o => (o.held, o.makesDigest, o.work)) = some (false, false, .closing 4 .off) ∧
      4 ≤ s.gestures.digests.length := by decide +kernel
theorem witness_acquisition :
    let s := flying ((inState live .pad .acquire).setBase .pad ⟨[[1839]], 3, 5⟩) .pad (.frame tinyFrame)
    s.engine.op.map (fun o => (o.held, o.snap.state, o.work)) = some (false, .acquire, .frame tinyFrame) ∧
      s.tables.commit = none ∧ acquireFrames s.tune ≤ 4 ∧ (s.intake.get .pad).state = .acquire ∧
      s.engine.waitList = [] ∧ ¬ acquireFrames s.tune ≤ 3 := by decide +kernel
theorem witness_live_operation :
    let s := digests (flying live .pad (.frame tinyFrame)) 3
    s.engine.op.map (fun o => (o.held, o.snap.state, o.work)) = some (false, .live, .frame tinyFrame) ∧
      s.gestures.digests.length < 4 ∧ s.tables.commit = none ∧ s.tracks.shaped ∧
      ∀ o, s.engine.op = some o → o.snap.tracks.shaped :=
  ⟨by decide +kernel, by decide, rfl, by decide, fun o h => by cases h; decide⟩
/-- A row of which this many cells read more than *recap_threshold* under the baseline. -/
theorem witness_recapture :
    let f : ReadyFrame := ⟨7, 0, [List.replicate 24 1000]⟩
    let base (n : Nat) := [List.replicate n 1121 ++ List.replicate (24 - n) 1120]
    let s := flying (live.setBase .pad ⟨base 24, 4, 0⟩) .pad (.frame f)
    recapCells s.tune ≤ antiTouchCells (recapThreshold s.tune) (base 24) f.samples ∧
      ¬ recapCells s.tune ≤ antiTouchCells (recapThreshold s.tune) (base 23) f.samples ∧
      (s.intake.get .pad).state = .live ∧ s.shut .pad = false := by decide +kernel
/-- The third vote for PALM on ID 20, which the context in slot 0 owns and which drives the pointer. -/
theorem witness_forced_release :
    let palms := { live.tables with active := { resetTables with shape := [{ resetShapeRule with cls := 2 }] } }
    let held := { track 20 ⟨0, 0⟩ with candidate := .palm, votes := 2, owner := some 0 }
    let s := { (withContext (withTrack { live with tables := palms } held) { pressed with serial := 31 }) with
      motion := { live.motion with pointer := some ⟨⟨0, 31⟩, ⟨0, 20⟩⟩ } }.setBase .pad ⟨[[1000]], 4, 0⟩
    let r := liveWork (s.snapshot .pad) .pad ⟨7, 0, [[1100]]⟩
    (r.after.getD 0 none).map Track.id = some 20 ∧ votedPalm (r.before.getD 0 none) (r.after.getD 0 none) = true ∧
      (s.tracks.slots.get .pad).getD 0 none = some held ∧ (s.context 0).map Context.serial = some 31 ∧
      s.motion.pointer = some ⟨⟨0, 31⟩, ⟨0, 20⟩⟩ := by decide +kernel
theorem witness_closing :
    let s := flying (withTrack live (track 20 ⟨0, 0⟩)) .pad (.closing 4 .off)
    s.tables.commit = none ∧ s.gestures.digests.length < 4 ∧ s.tracks.shaped ∧
      (∀ o, s.engine.op = some o → o.held = false ∧ o.work = .closing 4 .off ∧ o.snap.tracks.shaped) ∧
      s.surfaceSound .pad ∧ ¬ s.tracks.closed .pad := by
  refine ⟨rfl, by decide, by decide, fun o h => by cases h; decide, ⟨fun _ => rfl, fun h => ?_, fun h => ?_, ?_⟩, ?_⟩
  · exact absurd h (by decide)
  · exact absurd h (by decide)
  · intro o h _
    cases h
    rfl
  · intro h
    exact absurd (h (some (track 20 ⟨0, 0⟩)) (by decide) _ rfl) (by decide)
theorem witness_closing_of_nothing (u : Surface) : live.tracks.closed u := by
  intro r hr x hx
  subst hx
  cases u <;> simp [live, State.reset, State.afterReset, State.atReset, TrackTable.reset, PerSurface.get] at hr
theorem witness_empty_closing :
    let s := digests (flying live .pad (.closing 4 .acquire)) 4
    s.tracks.closed .pad ∧ ¬ s.gestures.digests.length < 4 ∧ s.tables.commit = none ∧ s.tracks.shaped ∧
      (∀ o, s.engine.op = some o → o.held = false ∧ o.work = .closing 4 .acquire ∧ o.snap.tracks.shaped) ∧
      s.surfaceSound .pad := by
  refine ⟨witness_closing_of_nothing .pad, by decide +kernel, rfl, by decide +kernel,
    fun o h => by cases h; decide, fun _ => rfl, fun h => ?_, fun h => ?_, fun o h _ => by cases h; rfl⟩
  · exact absurd h (by decide)
  · exact absurd h (by decide)
theorem witness_closing_report :
    let s (n : Nat) := queued (flying (withTrack live (track 20 ⟨0, 0⟩)) .pad (.closing 4 .off)) n
    (∀ o, (s 0).engine.op = some o → (o.snap.tracks.slots.get .pad)[0]? = some (some (track 20 ⟨0, 0⟩)) ∧
      contactMode o.snap.tables.tune ≠ 0 ∧
      (s 0).tracks.shaped) ∧
      (track 20 ⟨0, 0⟩).state = .active ∧ ordinaryCount (s 31).queue < 28 ∧ (s 31).queue.length < 32 ∧
      ¬ (ordinaryCount (s 32).queue < 28 ∧ (s 32).queue.length < 32) :=
  ⟨fun o h => by cases h; decide +kernel, rfl, by decide +kernel, by decide +kernel, by decide +kernel⟩
/-- A panel's grid with one value in every cell. -/
def evenGrid (u : Surface) (v : Nat) : List (List Nat) := List.replicate u.rows (List.replicate u.columns v)
theorem even_grid_shaped (u : Surface) (v : Nat) : gridShaped u (evenGrid u v) :=
  ⟨by simp [evenGrid], fun row h => by rw [List.eq_of_mem_replicate h]; simp⟩
theorem witness_drift :
    let sn := { live.snapshot .pad with base := ⟨evenGrid .pad 1845, 4, 15⟩ }
    gridShaped .pad sn.base.values ∧ gridShaped .pad (evenGrid .pad 1885) ∧ 15 < Surface.pad.rows ∧
      23 < Surface.pad.columns ∧ (sn.base.drift + 1) % 2 ^ driftShift sn.tables.tune = 0 ∧
      max (cellAt sn.base.values 15 23) (cellAt (evenGrid .pad 1885) 15 23)
        - min (cellAt sn.base.values 15 23) (cellAt (evenGrid .pad 1885) 15 23) ≤ driftWindow sn.tables.tune ∧
      antiTouchCells (recapThreshold sn.tables.tune) sn.base.values (evenGrid .pad 1885) < recapCells sn.tables.tune :=
  ⟨even_grid_shaped .pad 1845, even_grid_shaped .pad 1885, by decide, by decide, by decide, by decide,
    by decide +kernel⟩
theorem witness_set_cell :
    (⟨4, 2, 100⟩ : SetCell) ∈ setCells 80 picture ∧ 80 ≤ 100 ∧ (frameBlobs 80 picture).length = 4 := by decide
/-- A pad grid with one cell of the greatest sample in its last corner. -/
def cornerGrid : List (List Nat) := List.replicate 15 (List.replicate 24 0) ++ [List.replicate 23 0 ++ [4095]]
theorem witness_blob_measures :
    gridShaped .pad (evenGrid .pad 0) ∧ gridShaped .pad cornerGrid ∧ 1 ≤ touchThreshold resetTables.tune ∧
      [⟨23, 15, 2047⟩] ∈ frameBlobs (touchThreshold resetTables.tune) (deltaGrid (evenGrid .pad 0) cornerGrid) := by
  refine ⟨even_grid_shaped .pad 0, ⟨by decide, ?_⟩, by decide, by decide +kernel⟩
  intro row h
  simp only [cornerGrid, List.mem_append, List.mem_singleton] at h
  rcases h with h | rfl
  · rw [List.eq_of_mem_replicate h]; rfl
  · rfl
theorem witness_zones_within (col row : Nat) : resetTables.zoneAt .pad col row ≤ 7 := by
  have h : ∀ n m : Nat, ((List.replicate n (List.replicate m 0)).getD row []).getD col 0 = 0 := by
    intro n m
    rcases Nat.lt_or_ge row n with hr | hr
    · rcases Nat.lt_or_ge col m with hc | hc
      · simp [List.getD, hr, hc]
      · simp [List.getD, hr, hc]
    · simp [List.getD, hr]
  have := h 16 24
  simp only [resetTables, Tables.zoneAt, Surface.rows, Surface.columns] at *
  omega
theorem witness_passed_over :
    let slots := [some (track 1 ⟨600, 400⟩), some (track 2 ⟨800, 400⟩)]
    let blobs : List Blob := [⟨⟨750, 400⟩, feat⟩]
    ⟨22500, 0, 0⟩ ∈ candidates 320 .pad slots blobs ∧ ⟨22500, 0, 0⟩ ∉ associate 320 .pad slots blobs := by decide
theorem witness_new_id :
    let t := { (TrackTable.reset.put 0 (some (track 255 ⟨0, 0⟩))) with nextId := 255 }
    t.shaped ∧ 1 ≤ t.nextId ∧ t.nextId ≤ 255 ∧ (t.slots.get .pad)[1]? = some none ∧
      ∀ j, j < 1 → (t.slots.get .pad)[j]? ≠ some none := by
  refine ⟨by decide, by decide, by decide, by decide, fun j hj => ?_⟩
  have : j = 0 := by omega
  subst this
  decide
/-- A latched track of class PALM. -/
def palmTrack : Track := { track 30 ⟨0, 0⟩ with cls := .palm, candidate := .palm, latched := true }
theorem witness_latched :
    palmTrack.latched = true ∧ palmTrack.cls = .palm ∧ (withTrack live palmTrack).latchSound ∧
      ∃ t, step (withTrack live palmTrack) = .next t := by
  refine ⟨rfl, rfl, ⟨?_, fun o h => by cases h⟩, ⟨_, rfl⟩⟩
  intro u r hr x hx
  subst hx
  cases u <;>
    simp [withTrack, live, State.reset, State.afterReset, State.atReset, TrackTable.reset, TrackTable.put,
      slotSurface, PerSurface.get, PerSurface.set, Surface.firstSlot, List.replicate] at hr
  subst hr
  decide
theorem witness_full_palm_memory :
    (List.replicate 8 (⟨.pad, ⟨0, 0, 0, 0⟩, [], none⟩ : PalmEntry)).length ≤ 8 := by decide
theorem witness_palm_apart :
    let s := { live with palm := [⟨.pad, ⟨0, 1, 0, 1⟩, [⟨0, 30⟩], none⟩, ⟨.pad, ⟨2, 3, 0, 1⟩, [], some 9⟩] }
    s.palmApart ∧ ∃ t, step s = .next t := by
  refine ⟨⟨by simp [Box.meets], fun e h => ?_⟩, ⟨_, rfl⟩⟩
  simp only [List.mem_cons, List.not_mem_nil, or_false] at h
  rcases h with rfl | rfl <;> decide
/-- 28 ordinary records, none of which may go. -/
def crowded (s : State) : State :=
  { s with queue := List.replicate 28 ⟨0, .pen ⟨.out, live.pen.held, true, false⟩, false⟩ }
theorem witness_contact_report :
    live.tracks.shaped ∧ ordinaryCount live.queue < 28 ∧ live.queue.length < 32 ∧
      28 ≤ ordinaryCount (crowded live).queue ∧ 32 ≤ (queued live 32).queue.length := by decide +kernel
theorem witness_catch_up :
    let s := withTrack live { track 20 ⟨0, 0⟩ with startPending := true }
    let x : Track := { track 20 ⟨0, 0⟩ with startPending := true }
    (some x ∈ s.tracks.slots.get .pad ∧ x.state = .active ∧ x.startPending = true) ∧
      s.engine.waitList = [] ∧ s.engine.op = none := by decide
/-- A start announced by the catch-up report of a departure. -/
theorem test_catch_up_announces :
    let s := withTrack live { track 20 ⟨0, 0⟩ with startPending := true }
    let e := { withTrack live { track 20 ⟨0, 0⟩ with state := .ended .lift, endPending := true } with queue := [] }
    (s.departure.tracks.at 0).map Track.startPending = some false ∧ s.departure.queue.length = 1 ∧
      e.departure.tracks.at 0 = none ∧ (crowded e).departure.tracks = e.tracks := by decide +kernel
theorem witness_valid_sample :
    live.link.part = .run ∧ live.entry.penEnable = true ∧ live.intake.panel.state ≠ .off ∧
      (3 : Byte).getLsbD 0 = true ∧ penQualityMin live.tune ≤ (40 : Byte).toNat ∧ (3 : Byte).getLsbD 1 = true ∧
      (1 : Byte).getLsbD 1 = false := by decide
theorem witness_invalid_sample :
    let c := fun n => { live with pen := { live.pen with mode := .coast .ink, coast := n } }
    (39 : Byte).toNat < penQualityMin live.tune ∧ (2 : Byte).getLsbD 0 = false ∧ live.pen.mode = .out ∧
      (c 4).pen.mode = .coast .ink ∧ (c 4).pen.coast + 1 < penCoastLimit (c 4).tune ∧
      penCoastLimit (c 5).tune ≤ (c 5).pen.coast + 1 ∧ hasRoom (c 5).queue = true ∧
      hasRoom (List.replicate 28 ⟨0, .pen ⟨.out, live.pen.held, true, false⟩, false⟩) = false := by decide
theorem witness_guard_reached :
    let s := { live with now := 0x7FFFFFFF, pen := { live.pen with guard := some 0 } }
    s.pen.guard = some 0 ∧ (s.now - 0).toNat < 2 ^ 31 ∧ s.guardSound ∧ ∃ t, step s = .next t :=
  ⟨rfl, by decide, fun _ => by decide, ⟨_, rfl⟩⟩
theorem witness_shadow :
    let s := { live with pen := { live.pen with mode := .hover, held := { live.pen.held with pos := ⟨3008, 1856⟩ } } }
    s.pen.held.pos.x ≤ 3008 ∧ s.pen.held.pos.y ≤ 1856 ∧ s.shadow ≠ none ∧
      handedness s.tune = 2 ∧ 0 ≤ s.pen.vote := by decide
theorem witness_posture_code :
    5 ≤ (5 : Half).toNat ∧ (0 : Half).toNat = live.posture.code ∧ (4 : Half).toNat = Posture.closed.code ∧
      Posture.closed ≠ live.posture := by decide
/-- 7.3's bands with a gap from 181 to 199. -/
def gapped : State :=
  { live with tables := { live.tables with active := { resetTables with
      posture := resetPostureEntry 0 180 :: resetPostureEntry 200 260 :: resetTables.posture.drop 2 } } }
theorem witness_angle_stays :
    ¬ (live.entry.bandMin = 0 ∧ live.entry.bandMax = 0) ∧ live.entry.bandMin ≤ 198 + angleHysteresis live.tune ∧
      198 ≤ live.entry.bandMax + angleHysteresis live.tune := by decide
theorem witness_angle_held :
    ∀ p : Posture, ¬ (¬ ((gapped.tables.active.postureEntry p).bandMin = 0 ∧
          (gapped.tables.active.postureEntry p).bandMax = 0) ∧
        (gapped.tables.active.postureEntry p).bandMin ≤ 190 ∧
        190 ≤ (gapped.tables.active.postureEntry p).bandMax) := by
  intro p
  cases p <;> decide
theorem witness_angle_moves :
    let t := live.tables.active.postureEntry
    ¬ 199 ≤ live.entry.bandMax + angleHysteresis live.tune ∧ (t .tent).bandMin ≤ 199 ∧
      199 ≤ (t .tent).bandMax ∧ Posture.tent ≠ live.posture ∧
      ∀ q : Posture, ¬ ((t q).bandMin = 0 ∧ (t q).bandMax = 0) ∧ (t q).bandMin ≤ 199 ∧ 199 ≤ (t q).bandMax →
        q = .tent := by
  refine ⟨by decide, by decide, by decide, by decide, fun q => ?_⟩
  cases q <;> decide
theorem witness_posture_disables :
    (closing.tables.active.postureEntry .closed).enablesSurface .pad = false ∧
      (closing.intake.get .pad).state ≠ .off ∧ ((inState closing .pad .off).intake.get .pad).state = .off ∧
      (closing.tables.active.postureEntry .closed).penEnable = false ∧ closing.takes ∧
      ∃ t, exec (.postureCode 1 4) closing = .next t :=
  ⟨rfl, by decide, rfl, rfl, by decide, ⟨_, rfl⟩⟩
theorem witness_posture_enables :
    let s := dark.setWaitList [⟨0, .pad, .closing .off⟩]
    (s.tables.active.postureEntry .tent).enablesSurface .pad = true ∧ s.link.part = .run ∧
      s.offClosings .pad = true ∧ (dark.setWaitList [⟨0, .pad, .closing .acquire⟩]).closings .pad .acquire = true ∧
      dark.closings .pad .acquire = false ∧ dark.offClosings .pad = false ∧ (dark.intake.get .pad).state = .off ∧
      State.reset.link.part ≠ .run := by decide
theorem witness_watch :
    let s := { live with gestures := { live.gestures with watch := [⟨15, 32⟩, ⟨1, 1⟩, ⟨2, 1⟩] } }
    let f := { live with gestures := { live.gestures with watch := [⟨15, 32⟩, ⟨1, 1⟩, ⟨2, 1⟩, ⟨3, 1⟩] } }
    s.takes ∧ f.takes ∧ (⟨15, 32⟩ : Watch) ∈ s.gestures.watch ∧ (⟨15, 31⟩ : Watch) ∉ s.gestures.watch ∧
      s.gestures.watch.length < 4 ∧ 4 ≤ f.gestures.watch.length ∧
      ¬ ((16 : Byte).toNat ≤ 15) ∧ ¬ (1 ≤ (0 : Byte).toNat) ∧ ¬ ((33 : Byte).toNat ≤ 32) ∧
      s.gestures.watch = [] ++ ⟨15, 32⟩ :: [⟨1, 1⟩, ⟨2, 1⟩] := by decide
theorem witness_digest_taken :
    let s := digests live 1
    s.gestures.digests = emptyDigest 0 :: [] ∧ s.mayTakeItem (emptyDigest 0).joined = true ∧
      live.gestures.inHand = false ∧ ∀ d ∈ live.gestures.digests.head?, live.mayTakeItem d.joined = false :=
  ⟨rfl, by decide, rfl, fun d h => by cases h⟩
theorem witness_digest_waits :
    let s := { digests live 1 with gestures := { (digests live 1).gestures with inHand := true } }
    s.gestures.inHand = true ∧ ∀ d ∈ s.gestures.digests.head?, s.mayTakeItem d.joined = false :=
  ⟨rfl, fun d h => by cases h; decide⟩
theorem witness_pen_ink :
    let s := { live with gestures := { live.gestures with penInk := some ⟨⟨0, 0⟩, 0, 0, 0⟩ } }
    s.gestures.penInk = some ⟨⟨0, 0⟩, 0, 0, 0⟩ ∧ s.mayTakeItem 0 = true ∧
      ∀ p ∈ live.gestures.penInk, live.mayTakeItem p.handed = false :=
  ⟨rfl, by decide, fun p h => by cases h⟩
theorem witness_expiry_taken :
    let c := { pressed with timer := some ⟨418000, some 418000⟩ }
    let s := withContext live c
    s.context 0 = some c ∧ s.mayTakeItem 418000 = true ∧
      s.firesNone { c with timer := none } (plainEvent .timer 418000) :=
  ⟨by decide +kernel, by decide +kernel, (State.firingRow_eq_none _ _ _).1 (by decide +kernel)⟩
theorem witness_expiry_waits :
    let c := { pressed with timer := some ⟨418000, some 418000⟩ }
    let s := { withContext live c with gestures := { (withContext live c).gestures with inHand := true } }
    s.context 0 = some c ∧ s.mayTakeItem 418000 = false ∧ live.context 5 = none ∧ live.context 6 = none := by
  decide +kernel
theorem witness_timeout :
    let s := { live with now := 0x7FFFFFFF }.onIntake .pad fun i => { i with timeout := some 0 }
    let e := { live with now := 0x80000000 }.onIntake .pad fun i => { i with timeout := some 0 }
    (s.intake.get .pad).timeout = some 0 ∧ (s.now - 0).toNat < 2 ^ 31 ∧ (s.intake.get .pad).state = .live ∧
      (e.intake.get .pad).timeout = some 0 ∧ 2 ^ 31 ≤ (e.now - 0).toNat := by decide
theorem witness_palm_expiry :
    let e : PalmEntry := ⟨.pad, ⟨0, 0, 0, 0⟩, [], some 0⟩
    let s := { live with now := 0x7FFFFFFF, palm := List.replicate 8 e }
    s.palm[7]? = some e ∧ e.deadline = some 0 ∧ (s.now - 0).toNat < 2 ^ 31 := by decide
theorem witness_timer_due :
    let s := withContext { live with now := 418000 } pressed
    s.context 0 = some pressed ∧ pressed.timer = some ⟨418000, none⟩ ∧ (s.now - 418000).toNat < 2 ^ 31 ∧
      2 ^ 31 ≤ ((417999 : Time) - 418000).toNat := by decide
theorem witness_program_switch :
    let s := { live with
      gestures := { live.gestures with switchWaiting := true }
      tables := { live.tables with commit := some ⟨1, KindSet.empty, true, 0⟩ } }
    s.gestures.switchWaiting = true ∧ s.gestures.inHand = false ∧ s.gestures.digests = [] ∧
      s.tables.commit = some ⟨1, KindSet.empty, true, 0⟩ ∧ s.gestures.contexts.length = 6 ∧
      live.gestures.switchWaiting = false := by decide
theorem witness_claim :
    let s := withContext (tapping 60 ⟨640, 512⟩ [] 0) (Context.start 5 31 0)
    s.context 0 = some (Context.start 5 31 0) ∧ (Context.start 5 31 0).claimsTrack ⟨0, 60⟩ = false ∧
      (Context.start 5 31 0).claims.length < (s.tables.active.template 5).maxTracks ∧
      s.tracks.at 0 = some (track 60 ⟨640, 512⟩) ∧ (track 60 ⟨640, 512⟩).owner = none ∧
      ¬ pressed.claims.length < (s.tables.active.template 5).maxTracks ∧ live.tracks.at 0 = none := by decide +kernel
theorem witness_context_ends :
    let s := withContext live pressed
    s.gestures.contexts.length = 6 ∧ s.context 0 = some pressed := by decide
theorem witness_scaling :
    (2048 * 1024 : Int) ≤ 1024 * 2047 + 1024 ∧ ((1024 : Int) * 2047 + 1023).natAbs < 2048 * 1024 ∧
      (1024 : Int) * (-2047) - 1024 ≤ -(2048 * 1024) := by decide
theorem witness_curve :
    curve.Pairwise (fun a b => a.speed < b.speed) ∧ curve = ⟨0, 128⟩ :: curve.tail ∧
      curve = curve.dropLast ++ [⟨512, 768⟩] ∧ curve = curve.take 2 ++ ⟨24, 256⟩ :: ⟨48, 384⟩ :: curve.drop 4 := by
  decide
theorem witness_accumulation :
    let r := (AxisAcc.mk 0 .none).accumulate 1 0 127
    r.2.clamped = true ∧ ((AxisAcc.mk 0 .none).accumulate 1 0 126).2.clamped = false ∧ 0 < r.2.steps ∧
      ((AxisAcc.mk 0 .none).accumulate 1 0 (-1)).2.steps < 0 := by decide
theorem witness_eviction :
    let r : Record := ⟨0, .pointer ⟨0, 0, [], true⟩, false⟩
    let s := { crowded live with queue := (crowded live).queue ++ r :: [⟨0, .reply ⟨0, 2, .done, []⟩, false⟩] }
    ¬ ordinaryCount s.queue < 28 ∧ r.mayGo ∧ (∀ x ∈ (crowded live).queue, ¬ x.mayGo) ∧
      (∀ x ∈ [(⟨0, .reply ⟨0, 2, .done, []⟩, false⟩ : Record)], ¬ x.maySoak) := by
  refine ⟨by decide +kernel, ⟨rfl, Or.inl ⟨_, rfl⟩⟩, fun x hx => ?_, fun x hx => ?_⟩
  · rw [List.eq_of_mem_replicate hx]
    simp [Record.mayGo]
  · rw [List.mem_singleton.1 hx]
    simp [Record.maySoak]
/-- R178, R154: a GESTURE takes the place of a motion; a press after a press is held. -/
theorem test_eviction_and_holding :
    let r : Record := ⟨0, .pointer ⟨3, 0, [], true⟩, false⟩
    let s := { crowded live with queue := (crowded live).queue ++ [r] }
    let g := s.offerGesture 5 ⟨1, .update, 0, 0, [], AxisSteps.zero, AxisSteps.zero⟩
    (g.queue.drop 28).map Record.payload = [.gesture ⟨1, .update, 0, 0, [], AxisSteps.zero, AxisSteps.zero⟩] ∧
      (s.offerPointer 5 ⟨1, 1, [], true⟩).motion.unsent = some ⟨1, 1, [], true⟩ ∧
      ((s.offerPointer 5 ⟨1, 1, [], false⟩).queue.drop 28).map Record.payload = [.pointer ⟨4, 1, [], true⟩] := by
  decide +kernel
theorem witness_hover_replaces :
    let old : PenReport := ⟨.hover, live.pen.held, false, true⟩
    let s := { live with queue := [⟨0, .pen old, false⟩] }
    s.queue = [] ++ [⟨0, .pen old, false⟩] ∧ old.shown = .hover ∧ ({ old with shown := .ink } : PenReport).shown ≠ .hover ∧
      live.queue = [] := by decide
theorem witness_load :
    let es : List (List Byte) := [[0, 90]]
    live.takes ∧ live.tables.commit = none ∧ partOf 0 0 = some .tune ∧ ([0, 90] : List Byte) = es.flatten ∧
      (∀ e ∈ es, e.length = Part.tune.entryBytes) ∧ live.tables.staging.rangeFits .tune 26 es.length ∧
      ¬ live.tables.staging.rangeFits .tune 27 es.length ∧ partOf 0 1 = none ∧ ¬ 2 ∣ ([0] : List Byte).length := by
  refine ⟨by decide, rfl, rfl, rfl, by decide, ?_, ?_, rfl, by decide⟩
  · show 26 + 1 ≤ 27
    decide
  · show ¬ 27 + 1 ≤ 27
    decide
/-- A commit pending, nothing of it left to switch but the program. -/
def committing : State := { live with tables := { live.tables with commit := some ⟨1, KindSet.empty, true, 0⟩ } }
theorem witness_commit_pending : committing.takes ∧ committing.tables.commit ≠ none := by decide
theorem witness_clean :
    live.takes ∧ live.tables.commit = none ∧ live.tables.dirty = ⟨false, false, false, false, false, false⟩ ∧
      live.cleanSound ∧ ∃ t, step live = .next t :=
  ⟨by decide, rfl, rfl, fun k _ => by cases k <;> rfl, ⟨_, rfl⟩⟩
/-- TUNE dirty with a value out of its range. -/
def dirtyTune (s : State) : State :=
  { s with tables := { s.tables with
      staging := { resetTables with tune := 0 :: resetTables.tune.tail }, dirty := ⟨true, false, false, false, false, false⟩ } }
theorem witness_commit :
    let s := dirtyTune live
    let h := dirtyTune { State.reset with queue := [] }
    let o := flying (dirtyTune live) .pad (.closing 4 .off)
    (s.takes ∧ s.tables.commit = none ∧ s.tables.dirty.has .tune = true ∧ s.link.part ≠ .hold ∧ s.engine.op = none) ∧
      (∀ k, s.tables.dirty.has k = true → validateKind s.tables.staging k = none) ∧
      (h.takes ∧ h.link.part = .hold) ∧ o.takes ∧ o.engine.op ≠ none := by
  refine ⟨by decide, fun k h => ?_, by decide, by decide⟩
  cases k <;> rfl
theorem witness_commit_invalid :
    let t := { resetTables with curve := [⟨0, 256⟩, ⟨0, 256⟩] }
    validateKind t .curve = some ⟨.curve, 0, 1, 0, .ascent⟩ := by decide
theorem witness_tables_sound : live.tablesSound ∧ ∃ t, step live = .next t := by
  refine ⟨⟨⟨⟨rfl, by decide⟩, fun k => ?_⟩, rfl, fun h => ?_, fun c h => ?_⟩, ⟨_, rfl⟩⟩
  · cases k <;> decide +kernel
  · exact absurd h (by decide)
  · exact absurd h (by simp [live, State.reset, State.afterReset, State.atReset, TableStore.reset])
theorem witness_run_and_stop :
    let st := { live with link := { live.link with part := .stopping, stopTag := some 1 } }
    live.link.part = .run ∧ st.link.part = .stopping ∧ st.takes ∧ State.reset.takes ∧
      State.reset.link.part = .hold ∧ live.pen.mode = .out ∧ st.engine.op = none ∧ st.link.stopTag = some 1 ∧
      st.gestures.contexts.length = 6 ∧
      ({ st with engine := ⟨[⟨0, .pad, .closing .off⟩], none⟩ } : State).engine.waitList ≠ [] := by decide
theorem witness_run_in_hold :
    (∀ u, (State.reset.intake.get u).state = .off) ∧ (queued State.reset 31).takes ∧ (queued State.reset 30).takes ∧
      (queued State.reset 31).runNotices.length = 2 ∧ (queued State.reset 31).link.part = .hold ∧
      State.reset.entry.enablesSurface .pad = true :=
  ⟨fun u => by cases u <;> rfl, by decide +kernel, by decide +kernel, by decide +kernel, rfl, by decide⟩
theorem witness_no_closing_waits : ¬ ∃ w ∈ live.engine.waitList, ∃ o, w.work = .closing o := by
  rintro ⟨w, h, _⟩
  cases h
/-- Context 0 holds the pointer and has pressed button 1. -/
def dragging : State :=
  { withContext live pressed with
    motion := { live.motion with pointer := some ⟨⟨0, 31⟩, ⟨0, 60⟩⟩, buttons := [some ⟨0, 31⟩, none, none] } }
theorem witness_pointer_held :
    dragging.queueWithin ∧ dragging.motionWithin ∧ dragging.motionHeld ∧ dragging.gestures.contexts.length = 6 ∧
      dragging.takes ∧ dragging.link.part ≠ .hold ∧ ∃ t, step dragging = .next t := by
  refine ⟨⟨by decide, by decide, fun r h => by cases h⟩,
    ⟨by decide, by decide, fun m h => (by cases h), fun r h => by cases h⟩, ⟨?_, ?_⟩, rfl, by decide, by decide, ⟨_, rfl⟩⟩
  · intro p h
    cases h
    exact ⟨pressed, rfl, rfl, rfl⟩
  · intro b hb c hc
    subst hc
    simp [dragging] at hb
    subst hb
    exact ⟨pressed, rfl, rfl⟩
theorem witness_recal :
    2 ≤ (2 : Byte).toNat ∧ (live.intake.get .pad).state = .live ∧ live.shut .pad = false ∧
      (dark.intake.get .pad).state = .off ∧ ((inState live .pad .acquire).intake.get .pad).state = .acquire ∧
      (live.setWaitList [⟨0, .pad, .closing .off⟩]).shut .pad = true := by decide
theorem witness_queries :
    (15 : Byte).toNat < Surface.pad.rows ∧ Surface.pad.rows ≤ (16 : Byte).toNat ∧ partOf 6 0 = none ∧
      partOf 5 1 = some .rows ∧ live.tables.active.partLength .rows = 0 ∧
      (26 : Half).toNat < live.tables.active.partLength .tune ∧
      (27 : Half).toNat ≥ live.tables.active.partLength .tune ∧ live.tables.active.partLength .tune ≠ 0 := by decide
theorem witness_queue_within :
    (queued live 32).queueWithin ∧ (queued live 32).repliesWithin ∧ ∃ t, step (queued live 32) = .next t := by
  refine ⟨⟨by decide +kernel, by decide +kernel, fun r h => by cases h⟩, ⟨fun _ => rfl, by decide⟩, ⟨_, rfl⟩⟩
theorem live_lists_within : live.listsWithin :=
  ⟨fun u => (by cases u <;> exact ⟨by decide, by decide⟩), by decide, by decide, fun o h => (by cases h), by decide, by decide, by decide, by decide⟩
theorem witness_lists_within : live.listsWithin ∧ ∃ t, step live = .next t := ⟨live_lists_within, ⟨_, rfl⟩⟩
theorem live_winding_sound : live.windingSound := by
  refine ⟨fun h => (by cases h), fun h => absurd rfl h, fun h => (by cases h), fun u => ?_⟩
  refine ⟨fun _ => rfl, fun h => ?_, fun h => ?_, fun o h => by cases h⟩
  · exact absurd h (by cases u <;> decide)
  · exact absurd h (by cases u <;> decide)
theorem witness_winding_sound : live.listsWithin ∧ live.windingSound ∧ ∃ t, step live = .next t :=
  ⟨live_lists_within, live_winding_sound, ⟨_, rfl⟩⟩

/-- Context 0 of the tap program claims the pad's track 60, which it owns. -/
def claiming : State :=
  withContext { withTrack live { track 60 ⟨640, 512⟩ with owner := some 0 } with
    tables := ⟨tapTables, tapTables, KindSet.empty, none⟩ } pressed
theorem claiming_contexts (k : Nat) (c : Context) (h : claiming.context k = some c) : k = 0 ∧ c = pressed := by
  match k, h with
  | 0, h => exact ⟨rfl, by cases h; rfl⟩
  | 1, h | 2, h | 3, h | 4, h | 5, h => cases h
  | n + 6, h => simp [State.context, claiming, withContext, State.setContext, withTrack, live, State.reset,
      State.afterReset, State.atReset, Gestures.reset] at h
theorem claiming_tracks (n : Nat) (x : Track) (h : claiming.tracks.at n = some x) :
    n = 0 ∧ x = { track 60 ⟨640, 512⟩ with owner := some 0 } := by
  by_cases hn : n < 20
  · interval_cases n
    · exact ⟨rfl, by cases h; rfl⟩
    all_goals cases h
  · have hp : ¬ n < 10 := by omega
    have hs : ¬ n - 10 < 10 := by omega
    simp [TrackTable.at, slotSurface, hp, claiming, withContext, State.setContext, withTrack, live, State.reset,
      State.afterReset, State.atReset, TrackTable.reset, TrackTable.put, PerSurface.get, PerSurface.set,
      Surface.firstSlot, List.getD, hs] at h
theorem claiming_lists : claiming.listsWithin :=
  ⟨fun u => (by cases u <;> exact ⟨by decide, by decide⟩), by decide, by decide, fun o h => (by cases h),
    by decide, by decide, by decide, by decide⟩
theorem witness_claims_within :
    claiming.listsWithin ∧ claiming.windingSound ∧ claiming.tablesSound ∧ claiming.claimsWithin ∧
      ∃ t, step claiming = .next t := by
  refine ⟨claiming_lists, ⟨fun h => (by cases h), fun h => absurd rfl h, fun h => (by cases h), fun u =>
    ⟨fun _ => rfl, fun h => ?_, fun h => ?_, fun o h => by cases h⟩⟩,
    ⟨⟨⟨rfl, by decide⟩, fun k => ?_⟩, rfl, fun h => ?_, fun c h => by cases h⟩, fun k c h => ?_, ⟨_, rfl⟩⟩
  · exact absurd h (by cases u <;> decide)
  · exact absurd h (by cases u <;> decide)
  · cases k <;> decide +kernel
  · exact absurd h (by decide)
  · obtain ⟨rfl, rfl⟩ := claiming_contexts k c h
    decide
theorem claiming_ids : claiming.idsSound :=
  ⟨⟨by decide, by decide, by decide, by decide⟩, fun o h => (by cases h), fun o h => by cases h⟩
theorem witness_claims_agree :
    claiming.listsWithin ∧ claiming.idsSound ∧ claiming.claimsAgree ∧
      ∃ t, step claiming = .next t ∧ claiming.namesFresh t := by
  refine ⟨claiming_lists, claiming_ids, ⟨fun n x k hx hk => ?_, fun k c r x hc hr hx hi => ?_,
    fun j k c d r hc hd _ _ => ?_, fun k c hc => ?_⟩, _, rfl, fun n x hx h => absurd rfl (h x hx)⟩
  · obtain ⟨rfl, rfl⟩ := claiming_tracks n x hx
    cases hk
    exact ⟨by decide, by decide, pressed, rfl, by decide⟩
  · obtain ⟨rfl, rfl⟩ := claiming_contexts k c hc
    obtain ⟨_, rfl⟩ := claiming_tracks r.slot x hx
    rfl
  · rw [(claiming_contexts j c hc).1, (claiming_contexts k d hd).1]
  · obtain ⟨rfl, rfl⟩ := claiming_contexts k c hc
    decide
theorem witness_bound_within :
    let s := { withTrack live palmTrack with palm := [⟨.pad, ⟨10, 12, 5, 7⟩, [⟨0, 30⟩], none⟩] }
    s.idsSound ∧ s.boundWithin ∧ ∃ t, step s = .next t := by
  refine ⟨⟨⟨by decide, by decide, by decide, by decide⟩, fun o h => (by cases h), fun o h => by cases h⟩,
    ⟨fun e h => ?_, by decide⟩, ⟨_, rfl⟩⟩
  rw [List.mem_singleton.1 h]
  refine ⟨by decide, fun r hr => ?_⟩
  rw [List.mem_singleton.1 hr]
  exact ⟨rfl, palmTrack, rfl, rfl, by decide, rfl⟩

/-! ## Completions with a commit, tracks of a frame, rows and the offer chain -/

/-- A commit pending with these kinds left to switch. -/
def switching (s : State) (frameSide : KindSet) (program : Bool) : State :=
  { s with tables := { s.tables with commit := some ⟨1, frameSide, program, 0⟩ } }
theorem witness_completion_with_commit :
    let s (posture : Bool) := switching (flying live .pad (.closing 4 .off)) ⟨true, false, false, posture, false, false⟩ false
    (∀ b, (s b).tables.commit = some ⟨1, ⟨true, false, false, b, false, false⟩, false, 0⟩) ∧
      (s true).engine.op.map (fun o => (o.held, o.makesDigest)) = some (false, false) ∧
      (s true).gestures.digests.length < 4 ∧ { s true with link := { live.link with loss := true } }.link.loss = true ∧
      ((s true).setOp ((s true).engine.op.map fun o => { o with held := true })).engine.op.map Operation.held
        = some true := by decide +kernel
/-- R118, R168: a completion switches the POSTURE table that disables the pad: a closing request follows, and the DONE. -/
theorem test_completion_switches :
    let s := switching (flying { live with tables := { live.tables with staging := closing.tables.active } } .pad
      (.closing 4 .none)) ⟨false, false, false, true, false, false⟩ false
    let t := after (exec .frameOperationComplete { s with posture := .closed })
    t.tables.active = closing.tables.active ∧ t.tables.commit = none ∧ t.shut .pad = true ∧
      t.queue = [⟨0, .reply ⟨1, 4, .done, [0, 0]⟩, false⟩] := by decide +kernel
theorem witness_snapshot_offer :
    ordinaryCount (queued live 31).queue < 28 ∧ (queued live 31).queue.length < 32 ∧
      32 ≤ (queued live 32).queue.length ∧ 28 ≤ ordinaryCount (crowded live).queue := by decide +kernel
/-- Full slots, and a palm entry whose catch area a blob at (714, 380) lies in, behind one whose area it misses. -/
theorem witness_openings :
    let full : List (Option Track) := List.replicate 10 (some (track 1 ⟨0, 0⟩))
    let near : PalmEntry := ⟨.pad, ⟨10, 12, 5, 7⟩, [], some 9⟩
    let sn := { live.snapshot .pad with palm := [⟨.panel, near.box, [], some 9⟩, near], padQuiet := true }
    (∀ r ∈ full, r ≠ none) ∧ palmHit sn .pad ⟨714, 380⟩ = some near ∧ palmHit sn .pad ⟨714, 960⟩ = none ∧
      (inking.snapshot .panel).shadow = some ⟨1412, 2884, 583, 1856⟩ ∧
      (⟨1412, 2884, 583, 1856⟩ : Rect).holds ⟨1604, 903⟩ = true ∧ 1 < confirmFrames sn.tables.tune ∧
      confirmFrames (resetTables.tune.set 1 1) ≤ 1 := by decide +kernel
/-- One blob on a pad without tracks, with a TENTATIVE track far from it, and with a track where it is. -/
theorem witness_frame_tracks :
    let f : ReadyFrame := ⟨7, 0, [[1100]]⟩
    let work (s : State) := liveWork ((s.setBase .pad ⟨[[1000]], 4, 0⟩).snapshot .pad) .pad f
    let pairs (s : State) := (associate (gateRadius s.tune) .pad (work s).before (work s).extraction.blobs).map
      fun p => (p.slot, p.blob)
    let tentative := withTrack live { track 20 ⟨900, 900⟩ with state := .tentative }
    let missed := withTrack live (track 20 ⟨900, 900⟩)
    let met := withTrack live (track 20 ⟨0, 0⟩)
    let ended := withTrack live { track 20 ⟨0, 0⟩ with state := .ended .lift }
    live.tracks.shaped ∧ (work live).extraction.blobs.length = 1 ∧ pairs live = [] ∧ pairs tentative = [] ∧
      ((work tentative).after.getD 0 none).map Track.id = some 1 ∧ pairs missed = [] ∧ pairs met = [(0, 0)] ∧
      ((missed.tracks.slots.get .pad).getD 0 none).map Track.takesPart = some true ∧
      ((ended.tracks.slots.get .pad).getD 0 none).map Track.takesPart = some false := by decide +kernel
/-- R54, R57, R74: matches of a TENTATIVE, an ACTIVE and a MISSING track; votes that count and that carry. -/
theorem witness_matches :
    let sn := live.snapshot .pad
    let b : Blob := ⟨⟨10, 20⟩, feat⟩
    let young := { track 1 ⟨0, 0⟩ with state := .tentative, seen := 0 }
    let thumb (votes : Nat) := { track 1 ⟨0, 0⟩ with cls := .thumb, votes := votes }
    let raw := rawClass sn.tables.shape .pad sn.posture b.feat
    confirmFrames sn.tables.tune = 2 ∧ (young.matched sn .pad b).seen = 1 ∧
      ((track 1 ⟨0, 0⟩).matched sn .pad b).seen = 3 ∧ (young.matched sn .pad b).state = .tentative ∧
      ({ young with seen := 1 }.matched sn .pad b).state = .active ∧
      ({ track 1 ⟨0, 0⟩ with state := .missing }.matched sn .pad b).state = .active ∧
      raw = (track 1 ⟨0, 0⟩).cls ∧ voteFrames sn.tables.tune = 3 ∧ raw ≠ (thumb 1).cls ∧
      ((thumb 1).matched sn .pad b).votes = 2 ∧ ((thumb 2).matched sn .pad b).cls = raw := by decide +kernel
/-- 5.1's fourth rule is the first that the small blob fits; nothing fits a graze in TABLET. -/
theorem witness_shape_rule :
    shapes = shapes.take 3 ++ ⟨1, 0xFF, 0x1F, 1, 11, 0, 2047, 1, 256, 16, 47, 0, 0⟩ :: [] ∧
      (∀ r ∈ shapes.take 3, r.matchesBlob .pad .laptop feat = false) ∧ classOf 0 = some .finger ∧
      ∀ r ∈ shapes, r.matchesBlob .pad .tablet ⟨8, 210, 0, 60, 48, ⟨0, 2, 15, 15⟩, true, 6⟩ = false := by decide +kernel
theorem witness_unmatched :
    let t := track 1 ⟨0, 0⟩
    t.unmatched 2 = some { t with state := .missing, misses := 1 } ∧
      { t with state := .missing, misses := 1 }.unmatched 2
        = some { t with state := .ended .lift, endPending := true, misses := 2 } ∧
      t.unmatched 1 = some { t with state := .ended .lift, endPending := true } ∧
      { t with state := .tentative }.unmatched 1 = none := by decide
/-- 8.11's context 0 in RUN, its track ID 60 in slot 0. -/
def tapContext (state : Nat) : State := withContext (tapping 60 ⟨640, 512⟩ [] 403332) { pressed with state := state }
theorem witness_claimed_events :
    let r : TrackRef := ⟨0, 60⟩
    let e (k : EventKind) : Event := ⟨k, 403332, some r, ⟨640, 512⟩, some 0⟩
    let left (st : Nat) : Context := { pressed with state := st, claims := [] }
    pressed.claims = [] ++ ⟨r, ⟨640, 512⟩, ⟨640, 512⟩, 0, 0, 0⟩ :: [] ∧
      (∀ c, live.context 0 = some c → c.claimsTrack r = false) ∧
      (tapContext 3).firesNone (left 3) (e .cancel) ∧
      (tapContext 2).firesFirst (left 2) (e .cancel) ⟨2, 5, 0, 0, 0, ⟨0, 0⟩, ⟨0, 0⟩, ⟨0, 0⟩⟩ ∧
      (tapContext 2).runs ⟨0, 31⟩ ∧ ¬ (tapContext 2).runs ⟨0, 32⟩ := by
  refine ⟨rfl, fun c h => (by cases h), (State.firingRow_eq_none _ _ _).1 (by decide +kernel),
    (State.firingRow_eq_some _ _ _ _).1 (by decide +kernel), ⟨_, rfl, rfl⟩, ?_⟩
  rintro ⟨x, h, hs⟩
  cases h
  exact absurd hs (by decide)
/-- R129, R138: a row that fires and stays, moves on, or ends its context. -/
theorem witness_rows_fire :
    let s (next : Nat) : State := withContext { live with tables := { live.tables with active := { resetTables with
      templates := [⟨0, 0xFF, 1, 1, 2, 6, 0, 1⟩], rows := [⟨1, 6, 0, 0, next, ⟨7, 0⟩, ⟨0, 0⟩, ⟨0, 0⟩⟩] } } }
      (Context.start 0 31 0)
    let e := plainEvent .frame 0
    (∀ next, (s next).context 0 = some (Context.start 0 31 0) ∧
      (s next).firesFirst (Context.start 0 31 0) e ⟨1, 6, 0, 0, next, ⟨7, 0⟩, ⟨0, 0⟩, ⟨0, 0⟩⟩) ∧
      ((s 1).deliver 0 e).context 0 = some { Context.start 0 31 0 with taps := 1 } ∧
      ((s 2).deliver 0 e).context 0 = some { Context.start 0 31 0 with taps := 1, state := 2 } ∧
      ((s 0).deliver 0 e).context 0 = none ∧ (s 1).firesNone (Context.start 0 31 0) (plainEvent .timer 0) :=
  ⟨fun next => ⟨rfl, (State.firingRow_eq_some _ _ _ _).1 rfl⟩, by decide +kernel, by decide +kernel, by decide +kernel,
    (State.firingRow_eq_none _ _ _).1 (by decide +kernel)⟩
/-- R135 to R137: a touchdown met by no candidate, claimed by a template, by none, with no slot free, and refused. -/
theorem witness_touchdowns :
    let d : Touch := ⟨.pad, ⟨0, 60⟩, .finger, ⟨640, 512⟩, 0⟩
    let e := d.event 400000
    let s := tapping 60 ⟨640, 512⟩ [] 400000
    let full := { s with gestures := { s.gestures with contexts := List.replicate 6 (some (Context.start 5 31 0)) } }
    let palm := withTrack s { track 60 ⟨640, 512⟩ with cls := .palm }
    (s.gestures.contexts.length = 6 ∧ s.link.part = .run ∧ s.claimed d.track = false ∧ s.offerOrder d = [] ∧
      s.qualifying d = [] ++ 5 :: []) ∧
      s.firesFirst (Context.start 5 0 400000) e ⟨1, 1, 0, 0, 2, ⟨1, 0⟩, ⟨4, 0⟩, ⟨5, 180⟩⟩ ∧
      ((⟨1, 1, 0, 0, 2, ⟨1, 0⟩, ⟨4, 0⟩, ⟨5, 180⟩⟩ : Row).actions = .claim :: [.anchor, .timerSet 180] ∧
        s.context 0 = none ∧ s.tracks.at 0 = some (track 60 ⟨640, 512⟩) ∧ 1 ≤ (s.tables.active.template 5).maxTracks) ∧
      (live.qualifying d = [] ∧ live.offerOrder d = [] ∧ live.gestures.contexts.length = 6) ∧
      ((∀ r ∈ full.gestures.contexts, r ≠ none) ∧ palm.claimed d.track = false ∧
        (palm.tracks.at 0).map Track.cls = some .palm) :=
  ⟨by decide +kernel, (State.firingRow_eq_some _ _ _ _).1 (by decide +kernel), by decide +kernel, by decide +kernel,
    by decide +kernel⟩
/-- R135: the running context of a double tap claims the second touchdown. -/
theorem witness_second_touchdown :
    let d : Touch := ⟨.pad, ⟨0, 61⟩, .finger, ⟨652, 500⟩, 0⟩
    let s := withContext (tapping 61 ⟨652, 500⟩ [] 410000) { pressed with state := 3, claims := [] }
    s.offerOrder d = [] ++ 0 :: [] ∧ s.claimed d.track = false ∧ s.link.part = .run ∧
      (s.deliver 0 (d.event 410000)).claimed d.track = true ∧ s.gestures.contexts.length = 6 := by decide +kernel

/-! ## Postures, extraction, palm decisions, the vote and the actions -/

theorem witness_posture_leaves :
    live.takes ∧ (BitVec.ofNat 16 Posture.tablet.code).toNat = Posture.tablet.code ∧ Posture.tablet ≠ live.posture ∧
      (live.tables.active.postureEntry .tablet).enablesSurface .pad = true ∧ live.link.part = .run ∧
      live.offClosings .pad = false ∧ (live.intake.get .pad).state ≠ .off ∧
      ∃ t, exec (.postureCode 1 (BitVec.ofNat 16 Posture.tablet.code)) live = .next t := by
  refine ⟨by decide, by decide, by decide, by decide, by decide, by decide, by decide, ⟨_, rfl⟩⟩
/-- R45, R46: the blob under the inking nib is dropped, and its box is handed on. -/
theorem test_nib_blob_is_dropped :
    let s := (inking.setBase .panel ⟨[[1000]], 4, 0⟩)
    let near : Snapshot := { s.snapshot .panel with penPos := ⟨20, 0⟩ }
    near.pen = .ink ∧ (extract near .panel [[1100]]).blobs = [] ∧
      (extract near .panel [[1100]]).boxes = [⟨0, 0, 0, 0⟩] ∧
      (extract (s.snapshot .panel) .panel [[1100]]).blobs.length = 1 := by decide +kernel
/-- R80 to R83: unbinding with others left and with none, hits, each case of a new palm, a merge. -/
theorem witness_palm_steps :
    let r : TrackRef := ⟨0, 30⟩
    let e (c : Nat) (bound : List TrackRef) : PalmEntry := ⟨.pad, ⟨c, c + 1, 0, 1⟩, bound, none⟩
    let full (bound : List TrackRef) := e 3 [] :: List.replicate 7 (e 6 bound)
    r ∈ (e 0 [r, ⟨1, 31⟩]).bound ∧ (⟨1, 31⟩ : TrackRef) ∈ (e 0 [r, ⟨1, 31⟩]).bound ∧ (⟨1, 31⟩ : TrackRef) ≠ r ∧
      (∀ x ∈ (e 0 [r]).bound, x = r) ∧ r ∉ (e 0 []).bound ∧
      (hitStep [] [e 3 [], e 0 []]).1 = [e 3 []] ++ e 0 [] :: [] ∧ (∀ x ∈ [e 3 []], x.box ≠ (e 0 []).box) ∧
      ((e 0 []).box.c0 ≤ 1 ∧ 1 ≤ (e 0 []).box.c1) ∧ (∀ x ∈ full [r], x.box.c0 ≤ 9 → ¬ 9 ≤ x.box.c1) ∧
      8 ≤ (full [r]).length ∧ full [r] = [] ++ e 3 [] :: List.replicate 7 (e 6 [r]) ∧
      (∀ x ∈ List.replicate 7 (e 6 [r]), x.bound ≠ []) ∧ (∀ x ∈ List.replicate 8 (e 6 [r]), x.bound ≠ []) ∧
      (followTracks .pad [some (track 30 ⟨0, 0⟩)] (e 0 [r])).box = feat.box ∧
      mergeAll .pad 1 [e 0 [r], e 3 [], e 1 [⟨1, 31⟩]] = [⟨.pad, ⟨0, 2, 0, 1⟩, [r, ⟨1, 31⟩], none⟩, e 3 []] := by
  decide +kernel
theorem witness_box_overlap : (⟨0, 1, 0, 1⟩ : Box).meets ⟨1, 2, 0, 1⟩ := by simp [Box.meets]
theorem witness_vote :
    let s := { inking with pen := { inking.pen with vote := 8 } }
    let after : List (Option Track) := some { palmTrack with pos := ⟨1700, 0⟩ } :: List.replicate 9 none
    (List.replicate 10 (none : Option Track)).length = 10 ∧ after.length = 10 ∧
      (s.snapshot .panel).shadow.isSome = true ∧ voteAfter (s.snapshot .panel) .panel 7 (List.replicate 10 none) after = 8 ∧
      voteAfter (s.snapshot .panel) .panel 8 (List.replicate 10 none) after = 8 := by decide +kernel
/-- Context 0, of this template, holds the pointer, button 1 and an open gesture; context 1 claims another track. -/
def rivals (template : Nat) : State :=
  let s := dragging.setContext 0 (some { pressed with template := template, openCode := some 3 })
  let rival := { pressed with serial := 32, claims := [⟨⟨1, 61⟩, ⟨3, 4⟩, ⟨0, 0⟩, 0, 0, 0⟩] }
  { s with tables := { s.tables with active := tapTables } }.setContext 1 (some rival)
theorem witness_actions :
    let s := rivals 0
    let e := plainEvent .frame 0
    let other : Pointer := ⟨⟨1, 32⟩, ⟨1, 61⟩⟩
    (s.context 0).map Context.openCode = some (some 3) ∧ (s.context 1).map Context.openCode = some none ∧
      pressed.claimsTrack ⟨0, 60⟩ = true ∧ pressed.claimsTrack ⟨1, 61⟩ = false ∧
      s.motion.pointer = some ⟨⟨0, 31⟩, ⟨0, 60⟩⟩ ∧ live.motion.pointer = none ∧
      (s.context 0).map Context.serial = some 31 ∧
      (s.tables.active.template 0).priority < (s.tables.active.template 5).priority ∧
      s.motion.buttons[0]? = some (some ⟨0, 31⟩) ∧ s.motion.buttons[1]? = some none ∧
      (s.act 1 e .pointerOn).motion.pointer = some other ∧
      ((rivals 5).act 1 e .pointerOn).motion.pointer = s.motion.pointer := by decide +kernel
/-- R132, R138, R139: a BEGIN over an open gesture, and an end with one, make its CANCEL. -/
theorem test_automatic_cancel :
    let phases (s : State) := s.queue.map fun r => match r.payload with
      | .gesture g => (g.code, some g.phase) | .pointer _ => (0, none) | _ => (99, none)
    phases ((rivals 5).act 0 (plainEvent .frame 0) (.emit .begin 4)) = [(3, some .cancel), (4, some .begin)] ∧
      phases ((rivals 5).endContext 0 0) = [(0, none), (3, some .cancel)] := by decide +kernel

end Sys2Proof.Tests
end

/-! Association (R51 to R53): the candidates, their order, and the greedy walk along it. -/

namespace Sys2Proof.Machine

/-! ## The order of the candidates (R53) -/

theorem Candidate.before_iff (a b : Candidate) : a.before b = true ↔
    a.dist < b.dist ∨ a.dist = b.dist ∧ (a.slot < b.slot ∨ a.slot = b.slot ∧ a.blob < b.blob) := by
  simp [Candidate.before]

@[simp] theorem Candidate.before_self (a : Candidate) : a.before a = false := by simp [Candidate.before]

theorem Candidate.before_trans {a b c : Candidate} (hab : a.before b = true) (hbc : b.before c = true) :
    a.before c = true := by
  rw [Candidate.before_iff] at *
  omega

/-- Two candidates are never level: the list index decides last. -/
theorem Candidate.before_of_ne {a b : Candidate} (hne : a ≠ b) (hba : b.before a = false) :
    a.before b = true := by
  by_contra hab
  rw [← Bool.not_eq_true] at hba
  rw [Candidate.before_iff] at hab hba
  refine hne (Candidate.mk.injEq .. |>.mpr ⟨?_, ?_, ?_⟩) <;> omega

/-! ## A list put in order -/

section
variable {α : Type} {before : α → α → Bool} (irrefl : ∀ a, before a a = false)
  (trans : ∀ {a b c}, before a b = true → before b c = true → before a c = true)
include irrefl trans

/-- No entry goes before one that stands ahead of it, once an entry has been put in its place. -/
theorem placeIn_pairwise (a : α) {l : List α} (hl : l.Pairwise fun p q => before q p = false) :
    (placeIn before a l).Pairwise fun p q => before q p = false := by
  induction l with
  | nil => exact List.pairwise_singleton _ _
  | cons b l ih =>
    obtain ⟨hb, hrest⟩ := List.pairwise_cons.mp hl
    unfold placeIn
    split
    next hab =>
      have not_before_a : ∀ q, before q b = false → before q a = false := fun q hqb => by
        by_contra hqa
        simp [trans (by simpa using hqa) hab] at hqb
      refine List.pairwise_cons.mpr ⟨fun q hq => not_before_a q ?_, hl⟩
      obtain rfl | hq := List.mem_cons.mp hq
      · exact irrefl q
      · exact hb q hq
    next hab =>
      refine List.pairwise_cons.mpr ⟨fun q hq => ?_, ih hrest⟩
      obtain rfl | hq := List.mem_cons.mp ((placeIn_perm before a l).mem_iff.mp hq)
      · simpa using hab
      · exact hb q hq

theorem arrange_pairwise (l : List α) : (arrange before l).Pairwise fun p q => before q p = false :=
  foldl_invariant _ _ (fun _ a => placeIn_pairwise irrefl trans a) l [] List.Pairwise.nil

end

/-! ## The candidates (R51, R52) -/

theorem candidateOf_eq_some {gate : Nat} {u : Surface} {t : Track} {i j : Nat} {b : Blob} {c : Candidate} :
    candidateOf gate u t i b j = some c ↔ c.slot = i ∧ c.blob = j ∧ t.takesPart = true ∧
      c.dist = sqDist (t.predicted u) b.pos ∧ c.dist ≤ gate ^ 2 := by
  obtain ⟨d, i', j'⟩ := c
  simp only [candidateOf, Option.ite_none_right_eq_some, Bool.and_eq_true, decide_eq_true_eq, Option.some.injEq,
    Candidate.mk.injEq]
  constructor
  · rintro ⟨⟨ht, hd⟩, rfl, rfl, rfl⟩
    exact ⟨rfl, rfl, ht, rfl, hd⟩
  · rintro ⟨rfl, rfl, ht, rfl, hd⟩
    exact ⟨⟨ht, hd⟩, rfl, rfl, rfl⟩

theorem mem_candidates {gate : Nat} {u : Surface} {slots : List (Option Track)} {blobs : List Blob}
    {c : Candidate} : c ∈ candidates gate u slots blobs ↔ ∃ t b, slots[c.slot]? = some (some t) ∧
      blobs[c.blob]? = some b ∧ t.takesPart = true ∧ c.dist = sqDist (t.predicted u) b.pos ∧
      c.dist ≤ gate ^ 2 := by
  simp only [candidates, List.mem_flatMap, Prod.exists, List.mk_mem_zipIdx_iff_getElem?]
  constructor
  · rintro ⟨_ | t, i, hslot, hc⟩
    · simp at hc
    · simp only [List.mem_filterMap, Prod.exists, List.mk_mem_zipIdx_iff_getElem?, candidateOf_eq_some] at hc
      obtain ⟨b, j, hblob, rfl, rfl, hc⟩ := hc
      exact ⟨t, b, hslot, hblob, hc⟩
  · rintro ⟨t, b, hslot, hblob, hc⟩
    exact ⟨some t, c.slot, hslot, List.mem_filterMap.mpr ⟨(b, c.blob),
      List.mk_mem_zipIdx_iff_getElem?.mpr hblob, candidateOf_eq_some.mpr ⟨rfl, rfl, hc⟩⟩⟩

/-! ## The walk (R53) -/

/-- What one step of the walk can do: pass the candidate over, or pair it. -/
theorem pairUp_cases (pairs : List Candidate) (c : Candidate) :
    (pairUp pairs c = pairs ∧ ∃ p ∈ pairs, p.slot = c.slot ∨ p.blob = c.blob) ∨
      (pairUp pairs c = pairs ++ [c] ∧ ∀ p ∈ pairs, p.slot ≠ c.slot ∧ p.blob ≠ c.blob) := by
  unfold pairUp
  split
  next h => exact .inl ⟨rfl, by simpa using h⟩
  next h => exact .inr ⟨rfl, by simpa using h⟩

/-- No two pairs share a track or a blob. -/
theorem walk_pairs_apart (l : List Candidate) :
    (l.foldl pairUp []).Pairwise fun p q => p.slot ≠ q.slot ∧ p.blob ≠ q.blob := by
  refine foldl_invariant (List.Pairwise fun p q : Candidate => p.slot ≠ q.slot ∧ p.blob ≠ q.blob) pairUp ?_ l [] .nil
  intro pairs c hpairs
  obtain ⟨heq, -⟩ | ⟨heq, hfree⟩ := pairUp_cases pairs c
  · rwa [heq]
  · rw [heq, List.pairwise_append]
    exact ⟨hpairs, List.pairwise_singleton _ _, by simpa using hfree⟩

theorem subset_walk (l : List Candidate) : ∀ pairs, pairs ⊆ l.foldl pairUp pairs := by
  induction l with
  | nil => exact fun pairs => List.Subset.refl pairs
  | cons c l ih =>
    intro pairs
    refine List.Subset.trans ?_ (ih (pairUp pairs c))
    obtain ⟨heq, -⟩ | ⟨heq, -⟩ := pairUp_cases pairs c <;> simp [heq]

/-- The walk pairs candidates of its list alone, in the order of the list. -/
theorem walk_sublist (l : List Candidate) : ∀ pairs, (l.foldl pairUp pairs).Sublist (pairs ++ l) := by
  induction l with
  | nil => simp
  | cons c l ih =>
    intro pairs
    have hstep : (pairUp pairs c).Sublist (pairs ++ [c]) := by
      obtain ⟨heq, -⟩ | ⟨heq, -⟩ := pairUp_cases pairs c <;> simp [heq]
    simpa using (ih (pairUp pairs c)).trans (hstep.append_right l)

/-- A candidate that the walk passes over shares its track or blob with a pair that stands ahead of it: whatever
the list's order has of every entry and a later one, it has of that pair and the candidate. -/
theorem passed_over {r : Candidate → Candidate → Prop} {c : Candidate} {l : List Candidate} (hl : l.Pairwise r)
    (hc : c ∈ l) {pairs : List Candidate} (hpairs : ∀ p ∈ pairs, ∀ q ∈ l, r p q)
    (hout : c ∉ l.foldl pairUp pairs) :
    ∃ p ∈ l.foldl pairUp pairs, r p c ∧ (p.slot = c.slot ∨ p.blob = c.blob) := by
  induction l generalizing pairs with
  | nil => simp at hc
  | cons a l ih =>
    obtain ⟨ha, hrest⟩ := List.pairwise_cons.mp hl
    rw [List.foldl_cons] at hout ⊢
    obtain rfl | hc := List.mem_cons.mp hc
    · obtain ⟨heq, p, hp, hshare⟩ | ⟨heq, -⟩ := pairUp_cases pairs c
      · exact ⟨p, subset_walk l _ (by rwa [heq]), hpairs p hp c (.head _), hshare⟩
      · exact absurd (subset_walk l _ (by simp [heq])) hout
    · refine ih hrest hc (fun p hp q hq => ?_) hout
      have hmem : p ∈ pairs ∨ p = a := by
        obtain ⟨heq, -⟩ | ⟨heq, -⟩ := pairUp_cases pairs a <;> rw [heq] at hp
        · exact .inl hp
        · simpa using hp
      obtain hp | rfl := hmem
      · exact hpairs p hp q (.tail _ hq)
      · exact ha q hq

/-! ## Association -/

section
variable (gate : Nat) (u : Surface) (slots : List (Option Track)) (blobs : List Blob)

theorem arranged_candidates_pairwise : (arrange Candidate.before (candidates gate u slots blobs)).Pairwise
    fun p q => q.before p = false :=
  arrange_pairwise Candidate.before_self Candidate.before_trans _

theorem associate_sublist : (associate gate u slots blobs).Sublist
    (arrange Candidate.before (candidates gate u slots blobs)) := by
  simpa [associate] using walk_sublist (arrange Candidate.before (candidates gate u slots blobs)) []

theorem associate_subset : associate gate u slots blobs ⊆ candidates gate u slots blobs := fun _ hp =>
  (arrange_perm ..).subset ((associate_sublist gate u slots blobs).subset hp)

theorem associate_pairwise : (associate gate u slots blobs).Pairwise fun p q =>
    p.before q = true ∧ p.slot ≠ q.slot ∧ p.blob ≠ q.blob := by
  have hsorted := (arranged_candidates_pairwise gate u slots blobs).sublist (associate_sublist gate u slots blobs)
  refine (hsorted.and (walk_pairs_apart _)).imp fun {p q} ⟨horder, hslot, hblob⟩ => ?_
  exact ⟨Candidate.before_of_ne (fun heq => hslot (congrArg _ heq)) horder, hslot, hblob⟩

theorem associate_passes_over {c : Candidate} (hc : c ∈ candidates gate u slots blobs)
    (hout : c ∉ associate gate u slots blobs) : ∃ p ∈ associate gate u slots blobs,
      p.before c = true ∧ (p.slot = c.slot ∨ p.blob = c.blob) := by
  obtain ⟨p, hp, horder, hshare⟩ := passed_over (arranged_candidates_pairwise gate u slots blobs)
    ((arrange_perm ..).mem_iff.mpr hc) (pairs := []) (by simp) hout
  exact ⟨p, hp, Candidate.before_of_ne (fun heq => hout (heq ▸ hp)) horder, hshare⟩

end

/-- Settles O28: the walk's pairs are a sublist of the ordered candidates, and a candidate it passes over meets a
pair made before. -/
theorem associationIsGreedy : Obligations.AssociationIsGreedy := by
  intro gate u slots blobs
  exact ⟨fun _ => mem_candidates, associate_pairwise gate u slots blobs,
    fun _ hp => associate_subset gate u slots blobs hp, fun _ hc hout => associate_passes_over gate u slots blobs hc hout⟩

end Sys2Proof.Machine

/-! The pen's invalid samples (R96), with what a report that finds no room leaves behind (R177, R180, R182). -/

namespace Sys2Proof.Machine

/-! ## The NOTICEs of what rose (R180, R182) -/

/-- FAULT reads only the intake and the link. -/
theorem State.fault_congr {s t : State} (hintake : t.intake = s.intake) (hlink : t.link = s.link) :
    t.fault = s.fault := by
  simp [State.fault, State.someFailed, hintake, hlink]

/-- Nothing rises where the intake and the link stay as they were. -/
theorem State.noticeRises_of_same {s t : State} (hintake : t.intake = s.intake) (hlink : t.link = s.link) :
    State.noticeRises s t = t := by
  simp [State.noticeRises, State.fault_congr hintake hlink, hlink]

/-- The second state is the first with NOTICEs admitted at the tail of its queue or owed. -/
def State.NoticedTo (s t : State) : Prop :=
  t = { s with queue := t.queue, link := t.link } ∧ t.link = { s.link with owed := t.link.owed } ∧
    s.queue <+: t.queue

theorem State.NoticedTo.refl (s : State) : s.NoticedTo s := ⟨rfl, rfl, List.prefix_rfl⟩

theorem State.NoticedTo.trans {s t u : State} (hst : s.NoticedTo t) (htu : t.NoticedTo u) : s.NoticedTo u := by
  obtain ⟨ht, htlink, htqueue⟩ := hst
  obtain ⟨hu, hulink, huqueue⟩ := htu
  exact ⟨hu.trans (by rw [ht]), hulink.trans (by rw [htlink]), htqueue.trans huqueue⟩

theorem State.noticedTo_offerNotice (s : State) (n : Notice) : s.NoticedTo (s.offerNotice n) := by
  obtain ⟨-, heq⟩ | ⟨-, heq⟩ := s.offerNotice_cases n <;> rw [heq]
  · exact ⟨rfl, rfl, List.prefix_append _ _⟩
  · exact ⟨rfl, rfl, List.prefix_rfl⟩

theorem State.noticedTo_noticeRises (before s : State) : s.NoticedTo (State.noticeRises before s) := by
  have offered (c : Bool) (t : State) (n : Notice) : t.NoticedTo (if c then t.offerNotice n else t) := by
    cases c
    · exact .refl t
    · exact t.noticedTo_offerNotice n
  exact (offered _ _ _).trans (offered _ _ _)

/-! ## Which samples are invalid (R93) -/

theorem sampleValid_eq_false_iff {tune : List Nat} {flags quality : Byte} : sampleValid tune flags quality = false ↔
    flags.getLsbD 0 = false ∨ quality.toNat < penQualityMin tune := by
  simp only [sampleValid, Bool.and_eq_false_iff, decide_eq_false_iff_not, not_le]

theorem State.setsAside_eq_false_iff (s : State) : s.setsAside = false ↔
    s.link.part = .run ∧ s.entry.penEnable = true ∧ s.intake.panel.state ≠ .off := by
  simp [State.setsAside, and_assoc]

theorem exec_penSample_of_invalid {s : State} {flags quality : Byte} (x y p : Half) (tx ty : Byte)
    (hpin : s.pinHeld = false) (haside : s.setsAside = false) (hinvalid : sampleValid s.tune flags quality = false) :
    exec (.penSample flags x y p tx ty quality) s = .next (State.noticeRises s s.takeInvalid) := by
  simp [exec, execPenSample, State.unlessHeld, hpin, haside, hinvalid]

/-! ## The pen lost (R96) -/

/-- The pen taken to OUT and counted as lost, before its report, once a coast from `origin` has reached its
limit. -/
def State.losePen (s : State) (origin : CoastOrigin) : State :=
  { s with pen := { s.pen with
      mode := .out, coast := 0, lost := countUp s.pen.lost,
      guard := if origin = .ink then s.guardFromNow else s.pen.guard } }

theorem State.coastOn_of_below {s : State} (h : s.pen.coast + 1 < penCoastLimit s.tune) (origin : CoastOrigin) :
    s.coastOn origin = { s with pen := { s.pen with coast := s.pen.coast + 1 } } :=
  if_neg (Nat.not_le.mpr h)

theorem State.coastOn_at_limit {s : State} (h : penCoastLimit s.tune ≤ s.pen.coast + 1) (origin : CoastOrigin) :
    s.coastOn origin = (s.losePen origin).reportPen .out true false :=
  if_pos h

theorem State.reportPen_out_of_room {s : State} (h : hasRoom s.queue = true) (lost recovered : Bool) :
    s.reportPen .out lost recovered = s.enqueue s.now (.pen ⟨.out, s.pen.held, lost, recovered⟩) :=
  if_pos h

theorem State.reportPen_out_of_no_room {s : State} (h : hasRoom s.queue = false) (lost recovered : Bool) :
    s.reportPen .out lost recovered = s.lose :=
  if_neg (by simp [h])

/-- Settles O34: by the pen's mode. Only a report lost for want of room touches the link, so only there can the
NOTICEs of FAULT and report loss rising follow. -/
theorem invalidPenSamples : Obligations.InvalidPenSamples := by
  intro s flags x y p tx ty q hpin hrun henable hpanel hinvalid
  have hexec := exec_penSample_of_invalid x y p tx ty hpin (s.setsAside_eq_false_iff.mpr ⟨hrun, henable, hpanel⟩)
    (sampleValid_eq_false_iff.mpr hinvalid)
  have quiet {t : State} (htake : s.takeInvalid = t) (hintake : t.intake = s.intake) (hlink : t.link = s.link) :
      exec (.penSample flags x y p tx ty q) s = .next t := by
    rw [hexec, htake, State.noticeRises_of_same hintake hlink]
  refine ⟨fun hmode => quiet ?_ rfl rfl, fun hmode => quiet ?_ rfl rfl, fun hmode => quiet ?_ rfl rfl,
    fun origin hmode => ?_⟩
  case refine_1 | refine_2 | refine_3 => simp only [State.takeInvalid, hmode]
  have hcoast : s.takeInvalid = s.coastOn origin := by simp only [State.takeInvalid, hmode]
  refine ⟨fun hbelow => quiet (hcoast.trans (State.coastOn_of_below hbelow origin)) rfl rfl, fun hlimit => ?_⟩
  have hlost := hcoast.trans (State.coastOn_at_limit hlimit origin)
  refine ⟨fun hroom => ?_, fun hfull => ?_⟩
  · exact quiet (hlost.trans (State.reportPen_out_of_room (s := s.losePen origin) hroom _ _)) rfl rfl
  · rw [hexec, hlost, State.reportPen_out_of_no_room (s := s.losePen origin) hfull]
    obtain ⟨hstate, hlink, hprefix⟩ := State.noticedTo_noticeRises s (s.losePen origin).lose
    exact ⟨_, rfl, hstate, hlink, hprefix⟩

end Sys2Proof.Machine

/-! The table store (R160 to R170): the kinds whose staging and active copies are equal, and what each command
does to the store. -/

namespace Sys2Proof.Machine

/-! ## One kind of a copy taken from another (R163, R167) -/

@[simp] theorem Tables.takeKind_self (t : Tables) (k : Kind) : t.takeKind t k = t := by cases k <;> rfl

/-- What a copy takes of one kind depends on that kind alone of the copy it takes from. -/
theorem Tables.takeKind_takeKind (t a b : Tables) (j k : Kind) :
    t.takeKind (a.takeKind b j) k = if j = k then t.takeKind b k else t.takeKind a k := by
  cases j <;> cases k <;> rfl

theorem Tables.takeKind_takeKinds (t a b : Tables) (ks : KindSet) (k : Kind) :
    t.takeKind (a.takeKinds b ks) k = if ks.has k then t.takeKind b k else t.takeKind a k := by
  have along (l : List Kind) : ∀ a : Tables,
      t.takeKind (l.foldl (fun acc j => if ks.has j then acc.takeKind b j else acc) a) k =
        if k ∈ l ∧ ks.has k then t.takeKind b k else t.takeKind a k := by
    induction l with
    | nil => simp
    | cons j l ih =>
      intro a
      rw [List.foldl_cons, ih]
      by_cases hjk : j = k
      · subst hjk
        cases ks.has j <;> simp [takeKind_takeKind]
      · cases ks.has j <;> simp [takeKind_takeKind, hjk, Ne.symm hjk]
  have hall : k ∈ Kind.all := by cases k <;> decide
  simpa [Tables.takeKinds, hall] using along Kind.all a

/-- A write leaves the kinds that its part does not belong to as they are (R162). -/
theorem Tables.write_takeKind_of_ne (t a : Tables) {p : Part} {k : Kind} (n : Nat) (es : List (List Byte))
    (h : k ≠ p.kind) : (t.write p n es).takeKind a k = (t.takeKind a k).write p n es := by
  revert h
  cases p <;> cases k <;> simp [Part.kind, Tables.write, Tables.takeKind]

theorem Tables.setTune_takeKind_of_ne (t a : Tables) {k : Kind} (v : List Nat) (h : k ≠ .tune) :
    ({ t with tune := v } : Tables).takeKind a k = { t.takeKind a k with tune := v } := by
  cases k
  case tune => exact absurd rfl h
  all_goals rfl

/-! ## Sets of kinds (R160) -/

theorem KindSet.has_add (ks : KindSet) (j k : Kind) : (ks.add j).has k = (decide (k = j) || ks.has k) := by
  cases j <;> cases k <;> rfl

@[simp] theorem KindSet.has_empty (k : Kind) : KindSet.empty.has k = false := by cases k <;> rfl

/-- A commit that is just accepted has to switch the dirty kinds (R167). -/
theorem CommitRecord.toSwitch_accepted (tag : Byte) (ks : KindSet) (n : Nat) (k : Kind) :
    CommitRecord.toSwitch ⟨tag, ks.frameSide, ks.program, n⟩ k ↔ ks.has k = true := by
  cases k <;> simp [CommitRecord.toSwitch, KindSet.frameSide, KindSet.has]

/-! ## Stores with equal copies of the clean kinds (R163, R167, R169) -/

/-- The staging and active copies are equal in every kind that is not dirty or that a pending commit has
switched: what `State.cleanSound` says of a state's store. -/
def TableStore.Clean (t : TableStore) : Prop :=
  ∀ k, (t.dirty.has k = false ∨ ∃ c, t.commit = some c ∧ ¬ c.toSwitch k) →
    t.staging.takeKind t.active k = t.staging

theorem State.cleanSound_iff (s : State) : s.cleanSound ↔ s.tables.Clean := Iff.rfl

section
variable {t : TableStore}

theorem TableStore.clean_of_staging_eq_active (h : t.staging = t.active) : t.Clean := fun k _ => by
  rw [h, Tables.takeKind_self]

/-- What a reset leaves is clean: both copies are the reset tables (R172). -/
theorem TableStore.clean_reset : TableStore.reset.Clean := TableStore.clean_of_staging_eq_active rfl

theorem TableStore.Clean.load (h : t.Clean) (hcommit : t.commit = none) (p : Part) (n : Nat)
    (es : List (List Byte)) :
    TableStore.Clean { t with staging := t.staging.write p n es, dirty := t.dirty.add p.kind } := by
  intro k hk
  have hclean : k ≠ p.kind ∧ t.dirty.has k = false := by simpa [hcommit, KindSet.has_add] using hk
  obtain ⟨hne, hdirty⟩ := hclean
  change (t.staging.write p n es).takeKind t.active k = _
  rw [Tables.write_takeKind_of_ne _ _ _ _ hne, h k (.inl hdirty)]

/-- Clamping reaches TUNE alone, and only where it is dirty (R167). -/
theorem TableStore.Clean.accept (h : t.Clean) (tag : Byte) (n : Nat) :
    TableStore.Clean { t with
      staging := if t.dirty.tune then { t.staging with tune := clampedTune t.staging.tune } else t.staging
      commit := some ⟨tag, t.dirty.frameSide, t.dirty.program, n⟩ } := by
  intro k hk
  have hdirty : t.dirty.has k = false := by simpa [CommitRecord.toSwitch_accepted] using hk
  have hequal := h k (.inl hdirty)
  cases htune : t.dirty.tune with
  | false => simpa [htune] using hequal
  | true =>
    have hne : k ≠ .tune := by
      rintro rfl
      exact absurd (htune.symm.trans hdirty) (by decide)
    change ({ t.staging with tune := clampedTune t.staging.tune } : Tables).takeKind t.active k = _
    rw [Tables.setTune_takeKind_of_ne _ _ _ hne, hequal]
    rfl

/-- A kind of the frame-side set is switched; any other that counts as switched was so before (R168). -/
theorem TableStore.Clean.switchFrameSide (h : t.Clean) {c : CommitRecord} (hcommit : t.commit = some c) :
    TableStore.Clean { t with
      active := t.active.takeKinds t.staging c.frameSide
      commit := some { c with frameSide := KindSet.empty } } := by
  intro k hk
  change t.staging.takeKind (t.active.takeKinds t.staging c.frameSide) k = t.staging
  rw [Tables.takeKind_takeKinds]
  split
  next => exact Tables.takeKind_self _ _
  next hside =>
    refine h k (hk.imp_right ?_)
    rintro ⟨_, ⟨⟩, hprogram⟩
    refine ⟨c, hcommit, ?_⟩
    simpa [CommitRecord.toSwitch, hside] using hprogram

theorem TableStore.Clean.installProgram (h : t.Clean) :
    TableStore.Clean { t with
      active := t.active.takeKind t.staging .program
      commit := t.commit.map fun c => { c with program := false } } := by
  intro k hk
  change t.staging.takeKind (t.active.takeKind t.staging .program) k = t.staging
  rw [Tables.takeKind_takeKind]
  split
  next => exact Tables.takeKind_self _ _
  next hne =>
    refine h k (hk.imp_right ?_)
    rintro ⟨_, hmap, hside⟩
    obtain ⟨c, hcommit, rfl⟩ := Option.map_eq_some_iff.mp hmap
    refine ⟨c, hcommit, ?_⟩
    simpa [CommitRecord.toSwitch, Ne.symm hne] using hside

/-- A commit ends with nothing left to switch, so every kind has equal copies then (R169). -/
theorem TableStore.Clean.endCommit (h : t.Clean) {c : CommitRecord} (hcommit : t.commit = some c)
    (hside : c.frameSide = KindSet.empty) (hprogram : c.program = false) :
    TableStore.Clean { t with dirty := KindSet.empty, commit := none } := fun k _ =>
  h k (.inr ⟨c, hcommit, by simp [CommitRecord.toSwitch, hside, hprogram]⟩)

end

/-! ## The store's commands and switches (R162 to R170) -/

section
variable {s : State} (h : s.tables.Clean)
include h

theorem State.takeLoad_clean (tag kind part : Byte) (offset : Half) (entries : List Byte) :
    (s.takeLoad tag kind part offset entries).tables.Clean := by
  unfold State.takeLoad
  split
  · simpa using h
  next hpending =>
    split
    · simpa using h
    · simpa using h.load (by simpa using hpending) _ _ _

theorem State.takeDiscard_clean (tag : Byte) : (s.takeDiscard tag).tables.Clean := by
  unfold State.takeDiscard
  split
  · simpa using h
  · rw [State.done_tables]
    exact TableStore.clean_of_staging_eq_active rfl

theorem State.switchFrameSide_clean : s.switchFrameSide.tables.Clean := by
  unfold State.switchFrameSide
  split
  · exact h
  next c hcommit =>
    have hswitched := h.switchFrameSide hcommit
    split
    · exact h
    · split
      · simpa using hswitched
      · exact hswitched

theorem State.installProgram_clean : s.installProgram.tables.Clean := h.installProgram

theorem State.switchProgram_clean : s.switchProgram.tables.Clean := by
  unfold State.switchProgram
  split
  · exact State.installProgram_clean h
  · exact h

theorem State.switchAtHold_clean : s.switchAtHold.tables.Clean :=
  State.switchProgram_clean (State.switchFrameSide_clean h)

theorem State.endCommit_clean : s.endCommit.tables.Clean := by
  unfold State.endCommit
  split
  · exact h
  next c hcommit =>
    split
    next hover =>
      obtain ⟨hside, hprogram⟩ := hover
      simpa using h.endCommit hcommit hside hprogram
    · exact h

theorem State.endCommit_noticeRises_clean (before : State) : (State.noticeRises before s).endCommit.tables.Clean :=
  State.endCommit_clean (by simpa using h)

theorem State.acceptCommit_clean (tag : Byte) : (s.acceptCommit tag).tables.Clean := h.accept tag _

theorem State.switchAtCommit_clean : s.switchAtCommit.tables.Clean := by
  unfold State.switchAtCommit
  split
  · exact State.switchAtHold_clean h
  · change (if s.engine.op.isNone then s.switchFrameSide else s).tables.Clean
    split
    · exact State.switchFrameSide_clean h
    · exact h

theorem State.takeCommit_clean (tag : Byte) : (s.takeCommit tag).tables.Clean := by
  unfold State.takeCommit
  split
  · simpa using h
  · split
    · simpa using h
    · split
      · simpa using h
      · exact State.endCommit_noticeRises_clean (State.switchAtCommit_clean (State.acceptCommit_clean h tag)) s

end

/-! ## What leaves the store alone -/

theorem State.tables_of_outside {s t : State} (h : t.outside = s.outside) : t.tables = s.tables := by
  change t.outside.tables = s.outside.tables
  rw [h]

section
variable (s : State)

/-! ### Scan intake and pen -/

@[simp] theorem State.takeFrameStart_tables (u : Surface) (n : Half) (columns rows : Byte) :
    (s.takeFrameStart u n columns rows).tables = s.tables := by
  simp [State.takeFrameStart, State.examineStart, apply_ite State.tables]

@[simp] theorem State.takeRowRecord_tables (u : Surface) (body : List Byte) :
    (s.takeRowRecord u body).tables = s.tables := by
  simp [State.takeRowRecord, apply_ite State.tables]

@[simp] theorem State.takeFrameEnd_tables (u : Surface) (n check : Half) :
    (s.takeFrameEnd u n check).tables = s.tables := by
  simp [State.takeFrameEnd, apply_ite State.tables]

@[simp] theorem State.takeValid_tables (held : PenHeld) (tipDown : Bool) :
    (s.takeValid held tipDown).tables = s.tables := by
  simp [State.takeValid, State.penInk, State.penHover, apply_ite State.tables]

@[simp] theorem State.takeInvalid_tables : s.takeInvalid.tables = s.tables := by
  cases hmode : s.pen.mode <;> simp [State.takeInvalid, hmode, State.coastOn, apply_ite State.tables]

/-! ### Frame engine -/

@[simp] theorem State.takeItem_tables (w : WaitItem) : (s.takeItem w).tables = s.tables := by
  unfold State.takeItem
  split
  · rfl
  · split <;> rfl

@[simp] theorem State.completeAcquire_tables (u : Surface) (sn : Snapshot) (f : ReadyFrame) :
    (s.completeAcquire u sn f).tables = s.tables := by
  simp [State.completeAcquire, apply_ite State.tables]

@[simp] theorem State.forceRelease_tables (n : Nat) (b e : Option Track) :
    (s.forceRelease n b e).tables = s.tables := by
  unfold State.forceRelease
  split <;> simp

@[simp] theorem State.completeLive_tables (u : Surface) (sn : Snapshot) (f : ReadyFrame) :
    (s.completeLive u sn f).tables = s.tables := by
  have hreleased := foldl_keeps (fun (acc : State) (c : Nat × Option Track × Option Track) =>
    acc.forceRelease c.1 c.2.1 c.2.2) State.tables (fun acc c => acc.forceRelease_tables ..)
  simp [State.completeLive, apply_ite State.tables, hreleased]

@[simp] theorem State.closeTracks_tables (u : Surface) (sn : Snapshot) (key : Time) :
    (s.closeTracks u sn key).tables = s.tables := by
  simp [State.closeTracks, apply_ite State.tables]

@[simp] theorem State.applyOutcome_tables (u : Surface) (o : ClosingOutcome) :
    (s.applyOutcome u o).tables = s.tables := by
  cases o <;> simp [State.applyOutcome]

@[simp] theorem State.completeClosing_tables (u : Surface) (sn : Snapshot) (key : Time) (o : ClosingOutcome) :
    (s.completeClosing u sn key o).tables = s.tables := by
  simp [State.completeClosing, apply_ite State.tables]

@[simp] theorem State.applyOperation_tables (o : Operation) : (s.applyOperation o).tables = s.tables := by
  unfold State.applyOperation
  split
  · simp
  · split <;> simp

@[simp] theorem State.outcomePen_tables (o : Operation) : (s.outcomePen o).tables = s.tables := by
  unfold State.outcomePen
  split <;> simp

/-! ### Gesture engine -/

@[simp] theorem State.deliver_tables (k : Nat) (e : Event) : (s.deliver k e).tables = s.tables :=
  State.tables_of_outside (s.deliver_outside k e)

@[simp] theorem State.handleDigest_tables (d : Digest) : (s.handleDigest d).tables = s.tables :=
  State.tables_of_outside (s.handleDigest_outside d)

@[simp] theorem State.handlePenInk_tables (p : PenInk) : (s.handlePenInk p).tables = s.tables :=
  State.tables_of_outside (s.handlePenInk_outside p)

@[simp] theorem State.cancelContexts_tables : s.cancelContexts.tables = s.tables :=
  State.tables_of_outside s.cancelContexts_outside

@[simp] theorem State.generalCancel_tables : s.generalCancel.tables = s.tables :=
  State.tables_of_outside s.generalCancel_outside

/-! ### Link and management commands -/

@[simp] theorem State.takeRead_tables (extra : Nat) : (s.takeRead extra).tables = s.tables := by
  unfold State.takeRead
  split <;> simp

@[simp] theorem State.endRead_tables (sent : Nat) : (s.endRead sent).tables = s.tables := by
  unfold State.endRead
  split <;> simp

@[simp] theorem State.countBadWrite_tables : s.countBadWrite.tables = s.tables := by
  simp [State.countBadWrite]

@[simp] theorem State.countDroppedWrite_tables : s.countDroppedWrite.tables = s.tables := by
  simp [State.countDroppedWrite]

@[simp] theorem State.setPosture_tables (tag : Byte) (p : Posture) : (s.setPosture tag p).tables = s.tables := by
  simp [State.setPosture, State.changePosture, State.postureDone, apply_ite State.tables]

@[simp] theorem State.takePostureCode_tables (tag : Byte) (v : Half) :
    (s.takePostureCode tag v).tables = s.tables := by
  unfold State.takePostureCode
  split <;> simp

@[simp] theorem State.runSurface_tables (u : Surface) : (s.runSurface u).tables = s.tables := by
  simp [State.runSurface, apply_ite State.tables]

@[simp] theorem State.takePostureAngle_tables (tag : Byte) (v : Half) :
    (s.takePostureAngle tag v).tables = s.tables := by
  simp [State.takePostureAngle]

@[simp] theorem State.takePostureBadForm_tables (tag : Byte) : (s.takePostureBadForm tag).tables = s.tables := by
  simp [State.takePostureBadForm]

@[simp] theorem State.takeCheck_tables (tag : Byte) : (s.takeCheck tag).tables = s.tables := by
  simp [State.takeCheck]

@[simp] theorem State.takeRun_tables (tag : Byte) : (s.takeRun tag).tables = s.tables := by
  unfold State.takeRun
  split <;> simp

@[simp] theorem State.takeStop_tables (tag : Byte) : (s.takeStop tag).tables = s.tables := by
  unfold State.takeStop
  split <;> simp [State.beginStop]

@[simp] theorem State.stopDone_tables : s.stopDone.tables = s.tables := by
  unfold State.stopDone
  split <;> simp

@[simp] theorem State.takeRecal_tables (tag u : Byte) : (s.takeRecal tag u).tables = s.tables := by
  unfold State.takeRecal
  split
  · simp
  · split <;> simp [apply_ite State.tables]

@[simp] theorem State.answer_tables (tag selector : Byte) (body : List Byte) :
    (s.answer tag selector body).tables = s.tables := by
  simp [State.answer]

@[simp] theorem State.takeQueryTracks_tables (tag u : Byte) : (s.takeQueryTracks tag u).tables = s.tables := by
  unfold State.takeQueryTracks
  split <;> simp

@[simp] theorem State.takeQueryBaseline_tables (tag u r : Byte) :
    (s.takeQueryBaseline tag u r).tables = s.tables := by
  unfold State.takeQueryBaseline
  split <;> simp [apply_ite State.tables]

@[simp] theorem State.takeQueryRange_tables (tag kind part : Byte) (first count : Half) :
    (s.takeQueryRange tag kind part first count).tables = s.tables := by
  unfold State.takeQueryRange
  split <;> simp [apply_ite State.tables]

@[simp] theorem State.takeWatch_tables (tag template state : Byte) :
    (s.takeWatch tag template state).tables = s.tables := by
  simp [State.takeWatch, apply_ite State.tables]

@[simp] theorem State.takeUnwatch_tables (tag template state : Byte) :
    (s.takeUnwatch tag template state).tables = s.tables := by
  simp [State.takeUnwatch]

@[simp] theorem State.takeClear_tables (tag : Byte) : (s.takeClear tag).tables = s.tables := by
  simp [State.takeClear, State.clearCounters]

@[simp] theorem State.takeBadLength_tables (tag code : Byte) :
    (s.takeBadLength tag code).tables = s.tables := by
  simp [State.takeBadLength, apply_ite State.tables]

@[simp] theorem State.abortReport_tables (u : Surface) : (s.abortReport u).tables = s.tables := by
  simp [State.abortReport, apply_ite State.tables]

@[simp] theorem State.windDown_tables : s.windDown.tables = s.tables := by
  simp [State.windDown, State.abortStores, State.abortTracks, State.abortEngine]

@[simp] theorem State.windUp_tables : s.windUp.tables = s.tables := by simp [State.windUp]

end

/-! ## Every command keeps the clean kinds equal -/

section
variable {s : State}

theorem State.completeOperation_clean (h : s.tables.Clean) (o : Operation) :
    (s.completeOperation o).tables.Clean :=
  State.endCommit_noticeRises_clean (State.switchFrameSide_clean (by simpa using h)) _

theorem State.completeProgramSwitch_clean (h : s.tables.Clean) :
    (State.noticeRises s s.cancelContexts.installProgram).endCommit.tables.Clean :=
  State.endCommit_noticeRises_clean (State.installProgram_clean (by simpa using h)) _

theorem State.completeStop_clean (h : s.tables.Clean) : s.completeStop.tables.Clean := by
  rw [State.completeStop, State.stopDone_tables]
  exact State.endCommit_noticeRises_clean (State.switchAtHold_clean (by simpa using h)) _

theorem State.abortAll_clean (h : s.tables.Clean) : s.abortAll.tables.Clean :=
  State.endCommit_noticeRises_clean (State.switchAtHold_clean (by simpa using h)) _

theorem State.takeAbort_clean (h : s.tables.Clean) (tag : Byte) : (s.takeAbort tag).tables.Clean := by
  unfold State.takeAbort
  split
  next => simpa using h
  all_goals simpa using State.abortAll_clean h

theorem State.runMgmt_clean (h : s.tables.Clean) (m : Mgmt) : (s.runMgmt m).tables.Clean := by
  cases m
  case load => exact State.takeLoad_clean h _ _ _ _ _
  case discard => exact State.takeDiscard_clean h _
  case commit => exact State.takeCommit_clean h _
  case abort => exact State.takeAbort_clean h _
  case reset => exact TableStore.clean_reset
  all_goals simpa [State.runMgmt] using h

theorem State.takeWrite_clean (h : s.tables.Clean) {f : State → State}
    (hf : ∀ s : State, s.tables.Clean → (f s).tables.Clean) : (s.takeWrite f).tables.Clean := by
  obtain ⟨-, heq⟩ | ⟨-, -, heq⟩ | ⟨-, -, heq⟩ := s.takeWrite_cases f <;> rw [heq]
  · exact h
  · exact hf _ h
  · simpa using h

theorem State.unlessHeld_clean (h : s.tables.Clean) {f : State → State} (hf : (f s).tables.Clean) :
    (s.unlessHeld f).tables.Clean := by
  obtain ⟨-, heq⟩ | ⟨-, heq⟩ := s.unlessHeld_cases f <;> rw [heq]
  · exact h
  · exact hf

theorem State.takeRecord_clean (h : s.tables.Clean) (record : List Byte) : (s.takeRecord record).tables.Clean := by
  unfold State.takeRecord
  split
  · exact State.runMgmt_clean h _
  · exact h

/-- Only the table commands, the switches at a completion, at PROGRAM_SWITCH and on entry to HOLD, and the resets
change the store (R160). -/
theorem exec_clean (h : s.tables.Clean) (i : Instr) : ∃ t, exec i s = .next t ∧ t.tables.Clean := by
  cases i
  all_goals refine ⟨_, rfl, ?_⟩
  case load => exact State.takeWrite_clean h fun _ hs => State.takeLoad_clean hs _ _ _ _ _
  case discard => exact State.takeWrite_clean h fun _ hs => State.takeDiscard_clean hs _
  case commit => exact State.takeWrite_clean h fun _ hs => State.takeCommit_clean hs _
  case abort => exact State.takeWrite_clean h fun _ hs => State.takeAbort_clean hs _
  case reset => exact State.takeWrite_clean h fun _ _ => TableStore.clean_reset
  case check | run | stop | postureCode | postureAngle | postureBadForm | recal | watch | unwatch | clear
      | unknownCommand | queryCondition | queryTrackTable | queryContexts | queryPen | queryPosture
      | queryBaselineRow | queryTableRange | queryBadSelector =>
    exact State.takeWrite_clean h fun _ hs => by simpa using hs
  case writeTransfer =>
    split
    · exact State.takeWrite_clean h fun _ hs => State.takeRecord_clean hs _
    · exact State.unlessHeld_clean h (by simpa using h)
  case frameOperationComplete =>
    split
    · exact h
    · split
      · exact h
      · split
        · exact h
        · exact State.completeOperation_clean h _
  case heldOperationComplete =>
    split
    · exact h
    · split
      · exact State.completeOperation_clean h _
      · exact h
  case programSwitch =>
    split
    · exact State.completeProgramSwitch_clean h
    · exact h
  case stopComplete =>
    split
    · exact State.completeStop_clean h
    · exact h
  case powerOn => split <;> exact TableStore.clean_reset
  case resetPinAssert =>
    split
    · exact h
    · exact TableStore.clean_reset
  case resetPinRelease =>
    split
    · exact TableStore.clean_reset
    · exact h
  case frameStart | rowRecord | frameEnd | readTransfer | readEndedEarly | badTransferKind =>
    exact State.unlessHeld_clean h (by simpa using h)
  case penSample => exact State.unlessHeld_clean h (by simpa [apply_ite State.tables] using h)
  case unknownScanRecord => exact h
  case frameTimeout | frameOperationBegin | palmMemoryExpiry | penGuardExpiry | timerDeadlineReached
      | timerExpiryTaken | digestTaken | penInkTaken | digestHandlingEnd =>
    repeat' split
    all_goals simpa using h

theorem step_clean (h : s.tables.Clean) : ∃ t, step s = .next t ∧ t.tables.Clean := by
  unfold step
  split
  · refine ⟨_, rfl, ?_⟩
    simpa [State.tick, apply_ite State.tables] using h
  next i rest hpending => exact exec_clean (s := { s with pending := rest }) h i

end

/-! ## DISCARD (R163) -/

/-- The store as DISCARD leaves it. -/
def TableStore.discarded (t : TableStore) : TableStore := { t with staging := t.active, dirty := KindSet.empty }

/-- A copy that already agrees with another in every kind is that copy. -/
theorem Tables.eq_of_takeKind_eq {t a : Tables} (h : ∀ k, t.takeKind a k = t) : t = a := by
  have hall : Kind.all.foldl (fun acc k => acc.takeKind a k) t = a := rfl
  simpa only [Kind.all, List.foldl, h] using hall

/-- With nothing dirty there is nothing to restore. -/
theorem TableStore.Clean.discarded_eq_self {t : TableStore} (h : t.Clean) (hdirty : t.dirty = KindSet.empty) :
    t.discarded = t := by
  have hequal : t.staging = t.active := Tables.eq_of_takeKind_eq fun k => h k (.inl (by simp [hdirty]))
  cases t
  cases hequal
  cases hdirty
  rfl

section
variable {s : State} (tag : Byte)

theorem State.takeDiscard_of_pending (h : s.tables.commit ≠ none) : s.takeDiscard tag = s.busy tag 0x02 :=
  if_pos (Option.isSome_iff_ne_none.mpr h)

theorem State.takeDiscard_of_no_commit (h : s.tables.commit = none) :
    s.takeDiscard tag = State.done { s with tables := s.tables.discarded } tag 0x02 [] :=
  if_neg (by simp [h])

variable (htakes : s.takes)
include htakes

theorem exec_discard_of_takes : exec (.discard tag) s = .next ((s.setLinkOut .zeros).takeDiscard tag) :=
  congrArg Host.Outcome.next (s.takeWrite_of_takes _ htakes)

theorem exec_discard_of_pending (h : s.tables.commit ≠ none) :
    exec (.discard tag) s = .next (s.replied tag 0x02 .busy []) := by
  rw [exec_discard_of_takes tag htakes, State.takeDiscard_of_pending (s := s.setLinkOut .zeros) tag h]
  exact congrArg _ (s.offerReply_of_room _ _ _ _ htakes.2)

theorem exec_discard_of_no_commit (h : s.tables.commit = none) :
    exec (.discard tag) s = .next (State.replied { s with tables := s.tables.discarded } tag 0x02 .done []) := by
  rw [exec_discard_of_takes tag htakes, State.takeDiscard_of_no_commit (s := s.setLinkOut .zeros) tag h]
  exact congrArg _ (State.offerReply_of_room { s with tables := s.tables.discarded } _ _ _ _ htakes.2)

end

/-- Settles O47: DISCARD by whether a commit is pending; that clean kinds stay equal, by what each command does to
the store. -/
theorem discardsRestoreStaging : Obligations.DiscardsRestoreStaging := by
  refine ⟨fun s tag htakes => ⟨exec_discard_of_pending tag htakes, exec_discard_of_no_commit tag htakes,
    fun hcommit hdirty hclean => ?_⟩, fun s t hclean hstep => ?_⟩
  · have hrestored := (s.cleanSound_iff.mp hclean).discarded_eq_self hdirty
    rw [exec_discard_of_no_commit tag htakes hcommit, hrestored]
  · obtain ⟨t', hnext, hclean'⟩ := step_clean (s.cleanSound_iff.mp hclean)
    obtain rfl : t = t' := by simpa [hstep] using hnext
    exact hclean'

end Sys2Proof.Machine

/-! CLEAR (R184): the counters it sets to 0 and the two flags it clears. -/

namespace Sys2Proof.Machine

section
variable (s : State) (tag : Byte)

/-- What the part sends during the write is no counter of CLEAR's. -/
theorem State.clearCounters_setLinkOut (o : LinkOut) :
    (s.setLinkOut o).clearCounters = s.clearCounters.setLinkOut o := rfl

/-- Clearing the counters leaves the queue as it was. -/
@[simp] theorem State.clearCounters_queue : s.clearCounters.queue = s.queue := rfl

/-- With room in the queue CLEAR's REPLY is admitted at once, so all else it does is the clearing. -/
theorem State.takeClear_of_room (hroom : s.queue.length < 32) :
    (s.setLinkOut .zeros).takeClear tag = s.clearCounters.replied tag 0x0D .done [] := by
  have hroom' : s.clearCounters.queue.length < 32 := by simpa using hroom
  rw [State.takeClear, State.clearCounters_setLinkOut, State.done, State.offerReply_of_room _ _ _ _ _ hroom']

theorem exec_clear_of_takes (htakes : s.takes) :
    exec (.clear tag) s = .next (s.clearCounters.replied tag 0x0D .done []) := by
  have ⟨_, hroom⟩ := htakes
  calc
    exec (.clear tag) s = .next (s.takeWrite fun s => s.takeClear tag) := rfl
    _ = .next ((s.setLinkOut .zeros).takeClear tag) := by rw [s.takeWrite_of_takes _ htakes]
    _ = .next (s.clearCounters.replied tag 0x0D .done []) := by rw [s.takeClear_of_room tag hroom]

end

/-- Settles O54: the write is taken, so CLEAR clears its counters and is answered DONE; the statement's state is
`State.clearCounters` with each counter written out. -/
theorem clearsResetTheCounters : Obligations.ClearsResetTheCounters :=
  fun s tag htakes => exec_clear_of_takes s tag htakes

end Sys2Proof.Machine

/-! What the gesture engine's handling is made of (chapters 08, 09): its moves, what each keeps, and every
operation of the engine as a sequence of them. -/

namespace Sys2Proof.Machine

/-! ## Contexts and the motion unit after each update -/

theorem State.context_eq (s : State) (k : Nat) : s.context k = (s.gestures.contexts[k]?).getD none := by
  simp [State.context, List.getD]

theorem State.context_lt {s : State} {k : Nat} {c : Context} (h : s.context k = some c) :
    k < s.gestures.contexts.length := by
  by_contra hk
  simp [s.context_eq, List.getElem?_eq_none (Nat.not_lt.mp hk)] at h

theorem State.context_of_gestures {s t : State} (h : t.gestures.contexts = s.gestures.contexts) (k : Nat) :
    t.context k = s.context k := by
  simp [State.context_eq, h]

@[simp] theorem State.setContext_contexts (s : State) (k : Nat) (c : Option Context) :
    (s.setContext k c).gestures.contexts = s.gestures.contexts.set k c := rfl

theorem State.context_setContext (s : State) (k j : Nat) (c : Option Context) :
    (s.setContext k c).context j =
      if j = k then (if k < s.gestures.contexts.length then c else none) else s.context j := by
  rw [State.context_eq, State.context_eq, State.setContext_contexts, List.getElem?_set]
  by_cases hjk : j = k
  · subst hjk
    by_cases hlt : j < s.gestures.contexts.length <;> simp [hlt]
  · simp [hjk, Ne.symm hjk]

theorem State.context_setContext_of_running {s : State} {k : Nat} {c : Context} (h : s.context k = some c)
    (j : Nat) (d : Option Context) : (s.setContext k d).context j = if j = k then d else s.context j := by
  simp [State.context_setContext, State.context_lt h]

/-- A change of a running context replaces its record. -/
theorem State.onContext_of_running {s : State} {k : Nat} {c : Context} (h : s.context k = some c)
    (f : Context → Context) : s.onContext k f = s.setContext k (some (f c)) := by
  have hlist : updateAt s.gestures.contexts k (Option.map f) = s.gestures.contexts.set k (some (f c)) := by
    apply List.ext_getElem?
    intro j
    rw [updateAt_getElem?, List.getElem?_set]
    split
    next hkj =>
      subst hkj
      have hk := State.context_lt h
      rw [State.context_eq] at h
      cases hc : s.gestures.contexts[k]? with
      | none => simp [hc] at h
      | some d =>
        simp only [hc, Option.getD_some] at h
        simp [hk, h]
    · rfl
  simp only [State.onContext, State.setContext, hlist]

/-- Where no context runs there is none to change. -/
theorem State.onContext_of_free {s : State} {k : Nat} (h : s.context k = none) (f : Context → Context) :
    s.onContext k f = s := by
  have hlist : updateAt s.gestures.contexts k (Option.map f) = s.gestures.contexts := by
    apply List.ext_getElem?
    intro j
    rw [updateAt_getElem?]
    split
    next hkj =>
      subst hkj
      rw [State.context_eq] at h
      cases hc : s.gestures.contexts[k]? with
      | none => rfl
      | some d =>
        simp only [hc, Option.getD_some] at h
        simp [h]
    · rfl
  simp only [State.onContext, hlist]

theorem Context.claimsTrack_iff (c : Context) (r : TrackRef) :
    c.claimsTrack r = true ↔ r ∈ c.claims.map ClaimEntry.track := by
  simp only [Context.claimsTrack, List.any_eq_true, beq_iff_eq, List.mem_map]

/-- A context whose claims of a track are gone (R123). -/
def Context.letGo (c : Context) (r : TrackRef) : Context :=
  { c with claims := c.claims.filter fun e => e.track != r }

theorem Context.claimsTrack_letGo (c : Context) (r x : TrackRef) :
    (c.letGo r).claimsTrack x = true ↔ c.claimsTrack x = true ∧ x ≠ r := by
  simp only [Context.claimsTrack, Context.letGo, List.any_eq_true, beq_iff_eq, List.mem_filter, bne_iff_ne]
  constructor
  · rintro ⟨e, ⟨he, hne⟩, rfl⟩
    exact ⟨⟨e, he, rfl⟩, hne⟩
  · rintro ⟨⟨e, he, rfl⟩, hne⟩
    exact ⟨e, ⟨he, hne⟩, rfl⟩

/-- What a context slot holds once a claim of a track has left it (R123). -/
theorem State.context_dropClaim (s : State) (k j : Nat) (r : TrackRef) :
    (s.dropClaim k r).context j = if j = k then (s.context k).map (·.letGo r) else s.context j := by
  have hgestures : (s.dropClaim k r).gestures =
      (s.onContext k (·.letGo r)).gestures := by
    simp only [State.dropClaim]
    repeat' split
    all_goals rfl
  rw [State.context_of_gestures (congrArg Gestures.contexts hgestures)]
  cases hc : s.context k with
  | none =>
    rw [State.onContext_of_free hc]
    split
    next hjk => rw [hjk, hc]; rfl
    · rfl
  | some c => rw [State.onContext_of_running hc, State.context_setContext_of_running hc]; rfl

@[simp] theorem State.dropClaim_contexts_length (s : State) (k : Nat) (r : TrackRef) :
    (s.dropClaim k r).gestures.contexts.length = s.gestures.contexts.length := by
  simp only [State.dropClaim]
  repeat' split
  all_goals simp [State.onContext, State.releasePointer]

@[simp] theorem State.releaseTrack_context (s : State) (r : TrackRef) (k j : Nat) :
    (s.releaseTrack r k).context j = s.context j := rfl

theorem State.context_giveUp (s : State) (k j : Nat) (r : TrackRef) :
    (s.giveUp k r).context j = if j = k then (s.context k).map (·.letGo r) else s.context j := by
  rw [State.giveUp, State.releaseTrack_context, State.context_dropClaim]

/-- The pointer goes with its source, and nothing else of the motion unit changes, where a claim leaves (R149). -/
theorem State.dropClaim_motion_cases (s : State) (k : Nat) (r : TrackRef) :
    (∃ c, s.context k = some c ∧ s.motion.pointer = some ⟨⟨k, c.serial⟩, r⟩ ∧
        (s.dropClaim k r).motion = { s.motion with pointer := none, residueX := 0, residueY := 0 }) ∨
      ((∀ c, s.context k = some c → s.motion.pointer ≠ some ⟨⟨k, c.serial⟩, r⟩) ∧
        (s.dropClaim k r).motion = s.motion) := by
  simp only [State.dropClaim]
  split
  next c p hc hp =>
    obtain ⟨holder, source⟩ := p
    by_cases h : holder = ⟨k, c.serial⟩ ∧ source = r
    · rw [if_pos h]
      obtain ⟨rfl, rfl⟩ := h
      exact .inl ⟨c, hc, hp, rfl⟩
    · rw [if_neg h]
      refine .inr ⟨fun c' hc' hp' => h ?_, rfl⟩
      rw [hc] at hc'
      rw [hp] at hp'
      cases hc'
      cases hp'
      exact ⟨rfl, rfl⟩
  next hno => exact .inr ⟨fun c hc hp => hno c _ hc hp, rfl⟩

/-! ## The moves of the engine -/

/-- A slot whose context neither holds the pointer nor presses a button, whatever its serial (R147). -/
def State.vacant (s : State) (k : Nat) : Prop :=
  (∀ p, s.motion.pointer = some p → p.holder.slot ≠ k) ∧ ∀ b ∈ s.motion.buttons, ∀ c, b = some c → c.slot ≠ k

/-- The record of a track slot replaced. -/
def State.putTrack (s : State) (n : Nat) (r : Option Track) : State := { s with tracks := s.tracks.put n r }

/-- The state with a claim granted to the context of a slot (R50, R122). -/
def State.grant (s : State) (k : Nat) (c : Context) (x : Track) (e : ClaimEntry) : State :=
  (s.putTrack e.track.slot (some { x with owner := some k })).setContext k
    (some { c with claims := c.claims ++ [e] })

/-- One move of the gesture engine or the motion unit. `held` says that the pointer's holder and the pressers may be
taken to run (R147): an ending context is then known to hold and press nothing. -/
inductive EngineMove (held : Prop) : State → State → Prop
  | gesture (s : State) (time : Time) (g : GestureReport) : EngineMove held s (s.offerGesture time g)
  | snapshot (s : State) (time : Time) (r : SnapshotReport) : EngineMove held s (s.offerSnapshot time r)
  | pointer (s : State) (time : Time) (m : Motion) (hm : m.within) : EngineMove held s (s.offerPointer time m)
  | aside (s : State) (n : Nat) (p : Option PenInk) (b : Bool) :
      EngineMove held s { s with gestures := { s.gestures with serial := n, penInk := p, inHand := b } }
  | edit (s : State) (k : Nat) (c d : Context) (hc : s.context k = some c) (htemplate : d.template = c.template)
      (hserial : d.serial = c.serial) (hclaims : d.claims.map ClaimEntry.track = c.claims.map ClaimEntry.track) :
      EngineMove held s (s.setContext k (some d))
  | place (s : State) (d : Digest) : EngineMove held s (s.placeClaims d)
  | claim (s : State) (k : Nat) (c : Context) (x : Track) (e : ClaimEntry) (hc : s.context k = some c)
      (hnew : c.claimsTrack e.track = false)
      (hroom : c.claims.length < (s.tables.active.template c.template).maxTracks)
      (hx : s.tracks.at e.track.slot = some x) (hid : x.id = e.track.id) (hclaimable : x.claimable = true) :
      EngineMove held s (s.grant k c x e)
  | giveUp (s : State) (k : Nat) (r : TrackRef) : EngineMove held s (s.giveUp k r)
  | releasePointer (s : State) : EngineMove held s s.releasePointer
  | setPointer (s : State) (k : Nat) (c : Context) (r : TrackRef) (hc : s.context k = some c)
      (hr : c.claimsTrack r = true) : EngineMove held s (s.setPointer ⟨k, c.serial⟩ r)
  | press (s : State) (i : Nat) (p : Option ContextRef) (hp : ∀ c, p = some c → s.runs c) :
      EngineMove held s (s.setButton i p)
  | unpress (s : State) (c : ContextRef) : EngineMove held s { s with motion := { s.motion with
      buttons := s.motion.buttons.map fun b => if b = some c then none else b } }
  | residues (s : State) (x y : Int) (hx : x.natAbs ≤ 1023) (hy : y.natAbs ≤ 1023) :
      EngineMove held s { s with motion := { s.motion with residueX := x, residueY := y } }
  | start (s : State) (k : Nat) (c : Context) (hfree : s.context k = none) (hclaims : c.claims = [])
      (hrun : s.link.part = .run) : EngineMove held s (s.setContext k (some c))
  | finish (s : State) (k : Nat) (hclaims : ∀ c, s.context k = some c → c.claims = [])
      (hvacant : held → s.vacant k) : EngineMove held s (s.setContext k none)

/-- A sequence of moves of the engine. -/
abbrev EngineMoves (held : Prop) : State → State → Prop := Relation.ReflTransGen (EngineMove held)

/-- What every move keeps, a sequence of moves keeps. -/
theorem EngineMoves.keep {held : Prop} {P : State → Prop} (hmove : ∀ s t, EngineMove held s t → P s → P t)
    {s t : State} (h : EngineMoves held s t) (hs : P s) : P t := by
  induction h with
  | refl => exact hs
  | tail _ hlast ih => exact hmove _ _ hlast ih

end Sys2Proof.Machine

/-! The pointer's holder and the pressers run after every move of the engine, if they did before (R147 to R153). -/

namespace Sys2Proof.Machine

section
variable (s : State) (time : Time) (m : Motion)

@[simp] theorem State.offerPointer_pointer : (s.offerPointer time m).motion.pointer = s.motion.pointer := by
  obtain ⟨q, -, heq⟩ | ⟨-, -, heq⟩ | ⟨-, -, heq⟩ := s.offerPointer_cases time m <;> rw [heq] <;> rfl

@[simp] theorem State.offerPointer_buttons : (s.offerPointer time m).motion.buttons = s.motion.buttons := by
  obtain ⟨q, -, heq⟩ | ⟨-, -, heq⟩ | ⟨-, -, heq⟩ := s.offerPointer_cases time m <;> rw [heq] <;> rfl

@[simp] theorem State.offerPointer_residueX : (s.offerPointer time m).motion.residueX = s.motion.residueX := by
  obtain ⟨q, -, heq⟩ | ⟨-, -, heq⟩ | ⟨-, -, heq⟩ := s.offerPointer_cases time m <;> rw [heq] <;> rfl

@[simp] theorem State.offerPointer_residueY : (s.offerPointer time m).motion.residueY = s.motion.residueY := by
  obtain ⟨q, -, heq⟩ | ⟨-, -, heq⟩ | ⟨-, -, heq⟩ := s.offerPointer_cases time m <;> rw [heq] <;> rfl

end

/-- Each context of the first state still runs in the second, with the claims it had. -/
def State.runsOn (s t : State) : Prop :=
  ∀ k c, s.context k = some c →
    ∃ d, t.context k = some d ∧ d.serial = c.serial ∧ ∀ r, c.claimsTrack r = true → d.claimsTrack r = true

theorem State.runsOn_of_gestures {s t : State} (h : t.gestures.contexts = s.gestures.contexts) : s.runsOn t :=
  fun k c hc => ⟨c, by rw [State.context_of_gestures h, hc], rfl, fun _ hr => hr⟩

theorem State.runsOn_setContext {s : State} {k : Nat} {c d : Context} (hc : s.context k = some c)
    (hserial : d.serial = c.serial) (hclaims : ∀ r, c.claimsTrack r = true → d.claimsTrack r = true) :
    s.runsOn (s.setContext k (some d)) := by
  intro j e he
  rw [State.context_setContext_of_running hc]
  split
  next hjk =>
    subst hjk
    rw [hc] at he
    cases he
    exact ⟨d, rfl, hserial, hclaims⟩
  · exact ⟨e, he, rfl, fun _ hr => hr⟩

theorem State.motionHeld_of_runsOn {s t : State} (h : s.motionHeld) (hruns : s.runsOn t)
    (hpointer : ∀ p, t.motion.pointer = some p → s.motion.pointer = some p)
    (hbuttons : ∀ c, some c ∈ t.motion.buttons → some c ∈ s.motion.buttons) : t.motionHeld := by
  obtain ⟨hholder, hpresser⟩ := h
  refine ⟨fun p hp => ?_, fun b hb c hbc => ?_⟩
  · obtain ⟨x, hx, hserial, hclaims⟩ := hholder p (hpointer p hp)
    obtain ⟨y, hy, hserial', hclaims'⟩ := hruns _ x hx
    exact ⟨y, hy, hserial'.trans hserial, hclaims' _ hclaims⟩
  · subst hbc
    obtain ⟨x, hx, hserial⟩ := hpresser _ (hbuttons c hb) c rfl
    obtain ⟨y, hy, hserial', -⟩ := hruns _ x hx
    exact ⟨y, hy, hserial'.trans hserial⟩

theorem State.motionHeld_of_same {s t : State} (h : s.motionHeld)
    (hcontexts : t.gestures.contexts = s.gestures.contexts) (hpointer : t.motion.pointer = s.motion.pointer)
    (hbuttons : t.motion.buttons = s.motion.buttons) : t.motionHeld :=
  State.motionHeld_of_runsOn h (State.runsOn_of_gestures hcontexts) (fun p hp => by rw [← hpointer, hp])
    (fun c hc => by rwa [← hbuttons])

/-- A claim that leaves a context takes the pointer along when it is its source (R123, R149). -/
theorem State.motionHeld_dropClaim {s : State} (h : s.motionHeld) (k : Nat) (r : TrackRef) :
    (s.dropClaim k r).motionHeld := by
  obtain ⟨hholder, hpresser⟩ := h
  have hruns (j : Nat) (c : Context) (hc : s.context j = some c) : ∃ d, (s.dropClaim k r).context j = some d ∧
      d.serial = c.serial ∧ ∀ x, c.claimsTrack x = true → (j = k → x ≠ r) → d.claimsTrack x = true := by
    rw [State.context_dropClaim]
    split
    next hjk =>
      subst hjk
      exact ⟨c.letGo r, by rw [hc]; rfl, rfl, fun x hx hne => (c.claimsTrack_letGo r x).mpr ⟨hx, hne rfl⟩⟩
    next hjk => exact ⟨c, hc, rfl, fun x hx _ => hx⟩
  refine ⟨fun p hp => ?_, fun b hb c hbc => ?_⟩
  · obtain ⟨c, -, -, hmotion⟩ | ⟨hkept, hmotion⟩ := s.dropClaim_motion_cases k r
    · simp [hmotion] at hp
    · rw [hmotion] at hp
      obtain ⟨x, hx, hserial, hclaims⟩ := hholder p hp
      obtain ⟨y, hy, hserial', hclaims'⟩ := hruns _ x hx
      refine ⟨y, hy, hserial'.trans hserial, hclaims' _ hclaims fun hslot hsource => ?_⟩
      refine hkept x (hslot ▸ hx) ?_
      rw [hp, hserial, ← hslot, ← hsource]
  · have hb' : b ∈ s.motion.buttons := by
      obtain ⟨_, -, -, hmotion⟩ | ⟨-, hmotion⟩ := s.dropClaim_motion_cases k r <;> simpa [hmotion] using hb
    obtain ⟨x, hx, hserial⟩ := hpresser b hb' c hbc
    obtain ⟨y, hy, hserial', -⟩ := hruns _ x hx
    exact ⟨y, hy, hserial'.trans hserial⟩

theorem State.motionHeld_setContext_of_vacant {s : State} (h : s.motionHeld) {k : Nat} (hvacant : s.vacant k)
    (c : Option Context) : (s.setContext k c).motionHeld := by
  obtain ⟨hholder, hpresser⟩ := h
  obtain ⟨hpointer, hbuttons⟩ := hvacant
  refine ⟨fun p hp => ?_, fun b hb d hbd => ?_⟩
  · obtain ⟨x, hx, hrest⟩ := hholder p hp
    exact ⟨x, by rw [State.context_setContext, if_neg (hpointer p hp), hx], hrest⟩
  · obtain ⟨x, hx, hrest⟩ := hpresser b hb d hbd
    exact ⟨x, by rw [State.context_setContext, if_neg (hbuttons b hb d hbd), hx], hrest⟩

/-- Nobody in a free slot holds the pointer or presses a button (R147). -/
theorem State.vacant_of_free {s : State} (h : s.motionHeld) {k : Nat} (hfree : s.context k = none) :
    s.vacant k := by
  obtain ⟨hholder, hpresser⟩ := h
  refine ⟨fun p hp hk => ?_, fun b hb c hbc hk => ?_⟩
  · obtain ⟨x, hx, -⟩ := hholder p hp
    simp [hk, hfree] at hx
  · obtain ⟨x, hx, -⟩ := hpresser b hb c hbc
    simp [hk, hfree] at hx

theorem State.motionHeld_grant {s : State} (h : s.motionHeld) {k : Nat} {c : Context} (hc : s.context k = some c)
    (x : Track) (e : ClaimEntry) : (s.grant k c x e).motionHeld :=
  State.motionHeld_of_runsOn h
    (State.runsOn_setContext (s := s.putTrack _ _) hc rfl fun r hr => by
      simp only [Context.claimsTrack, List.any_append] at hr ⊢
      simp [hr])
    (fun _ hp => hp) (fun _ hb => hb)

theorem EngineMove.motionHeld {held : Prop} (hheld : held) {s t : State} (hmove : EngineMove held s t)
    (h : s.motionHeld) : t.motionHeld := by
  cases hmove with
  | gesture time g => exact State.motionHeld_of_same h (by simp) (by simp) (by simp)
  | snapshot time r => exact State.motionHeld_of_same h (by simp) (by simp) (by simp)
  | pointer time m hm => exact State.motionHeld_of_same h (by simp) (by simp) (by simp)
  | aside n p b => exact State.motionHeld_of_same h rfl rfl rfl
  | edit k c d hc htemplate hserial hclaims =>
    refine State.motionHeld_of_runsOn h (State.runsOn_setContext hc hserial fun r hr => ?_) (fun _ hp => hp)
      (fun _ hb => hb)
    rw [Context.claimsTrack_iff] at hr ⊢
    rwa [hclaims]
  | place d =>
    refine State.motionHeld_of_runsOn h (fun k c hc => ?_) (fun _ hp => hp) (fun _ hb => hb)
    have hplaced : (s.placeClaims d).context k = some (if s.ofSurface d.surface c then
        { c with claims := c.claims.map (ClaimEntry.place d.positions) } else c) := by
      rw [State.context_eq] at hc ⊢
      simp only [State.placeClaims, List.getElem?_map]
      cases hk : s.gestures.contexts[k]? with
      | none => simp [hk] at hc
      | some o =>
        simp only [hk, Option.getD_some] at hc
        simp [hc]
    refine ⟨_, hplaced, by split <;> rfl, fun r hr => ?_⟩
    split
    · rw [Context.claimsTrack_iff] at hr ⊢
      rw [List.map_map]
      convert hr using 2
      funext e
      simp only [Function.comp_apply, ClaimEntry.place]
      split <;> rfl
    · exact hr
  | claim k c x e hc => exact State.motionHeld_grant h hc x e
  | giveUp k r => exact State.motionHeld_dropClaim h k r
  | releasePointer =>
    exact State.motionHeld_of_runsOn (t := s.releasePointer) h (State.runsOn_of_gestures rfl)
      (fun _ hp => nomatch hp) (fun _ hb => hb)
  | setPointer k c r hc hr =>
    refine ⟨fun p hp => ?_, h.2⟩
    cases hp
    exact ⟨c, hc, rfl, hr⟩
  | press i p hp =>
    refine ⟨h.1, fun b hb c hbc => ?_⟩
    subst hbc
    obtain hold | hnew := List.mem_or_eq_of_mem_set hb
    · exact h.2 _ hold c rfl
    · exact hp c hnew.symm
  | unpress c =>
    refine State.motionHeld_of_runsOn h (State.runsOn_of_gestures rfl) (fun _ hp => hp) fun d hd => ?_
    simp only [List.mem_map] at hd
    obtain ⟨b, hb, heq⟩ := hd
    split at heq
    · cases heq
    · exact heq ▸ hb
  | residues x y => exact State.motionHeld_of_same h rfl rfl rfl
  | start k c hfree => exact State.motionHeld_setContext_of_vacant h (State.vacant_of_free h hfree) _
  | finish k hclaims hvacant => exact State.motionHeld_setContext_of_vacant h (hvacant hheld) _

theorem EngineMoves.motionHeld {held : Prop} {s t : State} (hmoves : EngineMoves held s t)
    (h : held → s.motionHeld) (hheld : held) : t.motionHeld :=
  hmoves.keep (P := State.motionHeld) (fun _ _ hmove => hmove.motionHeld hheld) (h hheld)

end Sys2Proof.Machine

/-! Every operation of the gesture engine and the motion unit as a sequence of the engine's moves. -/

namespace Sys2Proof.Machine

/-! ## Scaling keeps its ranges (R151) -/

theorem clampCount2047_natAbs (i : Int) : (clampCount2047 i).natAbs ≤ 2047 := by
  have := clampInt_within (-2047) 2047 i (by omega)
  unfold clampCount2047
  omega

theorem scaleAxis_within (d gain residue : Int) :
    (scaleAxis d gain residue).1.natAbs ≤ 2047 ∧ (scaleAxis d gain residue).2.natAbs ≤ 1023 := by
  simp only [scaleAxis]
  split
  · exact ⟨clampCount2047_natAbs _, by simp⟩
  · have hmod : d * gain + residue - 1024 * Int.tdiv (d * gain + residue) 1024 =
        Int.tmod (d * gain + residue) 1024 := by
      have := Int.tmod_add_mul_tdiv (d * gain + residue) 1024
      omega
    have := Int.tmod_lt_of_pos (d * gain + residue) (by omega : (0 : Int) < 1024)
    have := Int.lt_tmod_of_pos (d * gain + residue) (by omega : (0 : Int) < 1024)
    simp only [hmod]
    omega

theorem Motion.within_join (old new : Motion) : (old.join new).within :=
  ⟨clampCount2047_natAbs _, clampCount2047_natAbs _⟩

section
variable {held : Prop} (s : State)

/-! ## Offers and single changes -/

theorem State.offerGesture_moves (time : Time) (g : GestureReport) :
    EngineMoves held s (s.offerGesture time g) := .single (.gesture s time g)

theorem State.offerSnapshot_moves (time : Time) (r : SnapshotReport) :
    EngineMoves held s (s.offerSnapshot time r) := .single (.snapshot s time r)

theorem State.giveUp_moves (k : Nat) (r : TrackRef) : EngineMoves held s (s.giveUp k r) := .single (.giveUp s k r)

theorem State.releasePointer_moves : EngineMoves held s s.releasePointer := .single (.releasePointer s)

/-- A change of a running context that keeps its template, its serial and the tracks it claims. -/
theorem State.onContext_moves (k : Nat) (f : Context → Context)
    (hf : ∀ c, (f c).template = c.template ∧ (f c).serial = c.serial ∧
      (f c).claims.map ClaimEntry.track = c.claims.map ClaimEntry.track) : EngineMoves held s (s.onContext k f) := by
  cases hc : s.context k with
  | none => rw [State.onContext_of_free hc]
  | some c =>
    obtain ⟨htemplate, hserial, hclaims⟩ := hf c
    rw [State.onContext_of_running hc]
    exact .single (.edit s k c (f c) hc htemplate hserial hclaims)

theorem State.offerClick_moves (time : Time) : EngineMoves held s (s.offerClick time) :=
  .single (.pointer s time _ ⟨by simp, by simp⟩)

theorem State.autoCancel_moves (time : Time) (k : Nat) (c : Context) : EngineMoves held s (s.autoCancel time k c) := by
  unfold State.autoCancel
  split
  · exact .refl
  · exact s.offerGesture_moves time _

/-! ## Claims -/

theorem State.claim_moves (k : Nat) (e : Event) : EngineMoves held s (s.claim k e) := by
  unfold State.claim
  split
  next c r hc hr =>
    split
    · exact .refl
    next hfits =>
      split
      next s1 hs1 =>
        obtain ⟨x, hx, hid, hclaimable, rfl⟩ := s.claimTrack_spec s1 r k hs1
        simp only [Bool.or_eq_true, decide_eq_true_eq, not_or, Bool.not_eq_true, Nat.not_le] at hfits
        have hgrant := EngineMove.claim (held := held) s k c x (e.claimEntry r) hc hfits.1 hfits.2 hx hid hclaimable
        have hstate := State.onContext_of_running (s := s.putTrack r.slot (some { x with owner := some k })) hc
          fun c => { c with claims := c.claims ++ [e.claimEntry r] }
        exact .single (hstate ▸ hgrant)
      · exact .refl
  · exact .refl

theorem State.release_moves (k : Nat) (e : Event) : EngineMoves held s (s.release k e) := by
  unfold State.release
  split
  · split
    · exact s.giveUp_moves k _
    · exact .refl
  · exact .refl

/-- A fold of operations that are sequences of moves. -/
theorem EngineMoves.foldl {α : Type} {f : State → α → State}
    (hf : ∀ (t : State) (a : α), (held → t.motionHeld) → EngineMoves held t (f t a)) (l : List α) {s : State}
    (h : held → s.motionHeld) : EngineMoves held s (l.foldl f s) := by
  induction l generalizing s with
  | nil => exact .refl
  | cons a l ih =>
    have hfirst := hf s a h
    exact hfirst.trans (ih fun hheld => hfirst.motionHeld h hheld)

theorem State.giveUpClaims_moves (k : Nat) (claims : List ClaimEntry) :
    EngineMoves held s (claims.foldl (fun acc e => acc.giveUp k e.track) s) := by
  induction claims generalizing s with
  | nil => exact .refl
  | cons e claims ih => exact (s.giveUp_moves k e.track).trans (ih _)

theorem State.giveUpAll_moves (k : Nat) : EngineMoves held s (s.giveUpAll k) := by
  unfold State.giveUpAll
  split
  · exact .refl
  · exact s.giveUpClaims_moves k _

/-- Giving up claims one by one empties the context's list of them, and leaves the other contexts alone. -/
theorem State.context_giveUpClaims (k j : Nat) (claims : List ClaimEntry) :
    (claims.foldl (fun acc e => acc.giveUp k e.track) s).context j =
      if j = k then (s.context k).map fun c =>
        { c with claims := c.claims.filter fun e => !(claims.map ClaimEntry.track).contains e.track }
      else s.context j := by
  induction claims generalizing s with
  | nil =>
    cases hc : s.context k <;> by_cases hjk : j = k <;> simp [hjk, hc]
  | cons e claims ih =>
    rw [List.foldl_cons, ih, State.context_giveUp, State.context_giveUp]
    by_cases hjk : j = k
    · cases hc : s.context k with
      | none => simp [hjk]
      | some c =>
        simp only [hjk, if_true, Option.map_some, Context.letGo, List.filter_filter, List.map_cons,
          List.contains_cons, Bool.not_or]
        congr 3
        funext x
        simp [bne, Bool.and_comm]
    · simp [hjk]

theorem State.context_giveUpAll (k j : Nat) : (s.giveUpAll k).context j =
    if j = k then (s.context k).map fun c => { c with claims := [] } else s.context j := by
  unfold State.giveUpAll
  cases hc : s.context k with
  | none => by_cases hjk : j = k <;> simp [hjk, hc]
  | some c =>
    simp only [State.context_giveUpClaims, hc, Option.map_some]
    have hnone : c.claims.filter (fun e => !(c.claims.map ClaimEntry.track).contains e.track) = [] := by
      rw [List.filter_eq_nil_iff]
      intro e he
      simpa using ⟨e, he, rfl⟩
    rw [hnone]

/-! ## The motion unit -/

theorem State.pointerOn_moves (k : Nat) : EngineMoves held s (s.pointerOn k) := by
  unfold State.pointerOn
  split
  · exact .refl
  next c hc =>
    split
    · exact .refl
    next e rest hclaims =>
      split
      · exact .single (.setPointer s k c e.track hc (by simp [Context.claimsTrack, hclaims]))
      · exact .refl

theorem State.pointerOff_moves (k : Nat) : EngineMoves held s (s.pointerOff k) := by
  unfold State.pointerOff
  split
  · exact .refl
  · split
    · exact s.releasePointer_moves
    · exact .refl

theorem State.setButton_click_moves (time : Time) (i : Nat) (p : Option ContextRef)
    (hp : ∀ c, p = some c → s.runs c) : EngineMoves held s ((s.setButton i p).offerClick time) :=
  .head (.press s i p hp) (State.offerClick_moves _ time)

theorem State.button_moves (time : Time) (k n : Nat) (press : Bool) :
    EngineMoves held s (s.button time k n press) := by
  unfold State.button
  split
  next c i hc =>
    unfold State.actButton
    split
    · refine s.setButton_click_moves time i _ fun d hd => ?_
      cases hd
      exact ⟨c, hc, rfl⟩
    · split
      · exact s.setButton_click_moves time i none fun d hd => nomatch hd
      · exact .refl
    · exact .refl
  · exact .refl

theorem State.releaseButtons_moves (time : Time) (c : ContextRef) :
    EngineMoves held s (s.releaseButtons time c) := by
  unfold State.releaseButtons
  split
  · exact .head (.unpress s c) (State.offerClick_moves _ time)
  · exact .refl

theorem State.moveBy_moves (time : Time) (dx dy : Int) : EngineMoves held s (s.moveBy time dx dy) := by
  have hx := scaleAxis_within dx (gainOf (speedOf dx dy) s.tables.active.curve) s.motion.residueX
  have hy := scaleAxis_within dy (gainOf (speedOf dx dy) s.tables.active.curve) s.motion.residueY
  have hresidues := EngineMove.residues (held := held) s _ _ hx.2 hy.2
  unfold State.moveBy
  dsimp only
  split
  · exact .single hresidues
  · exact .head hresidues (.single (.pointer _ time _ ⟨hx.1, hy.1⟩))

theorem State.pointerFrame_moves (time : Time) (k : Nat) : EngineMoves held s (s.pointerFrame time k) := by
  unfold State.pointerFrame
  split
  · split
    · exact s.moveBy_moves time _ _
    · exact .refl
  · exact .refl

theorem State.autoUpdate_moves (time : Time) (k : Nat) (c : Context) (x y : AxisSteps) :
    EngineMoves held s (s.autoUpdate time k c x y) := by
  unfold State.autoUpdate
  split
  · exact .refl
  · split
    · exact s.offerGesture_moves time _
    · exact .refl

theorem State.accumulateFrame_moves (time : Time) (k : Nat) : EngineMoves held s (s.accumulateFrame time k) := by
  unfold State.accumulateFrame
  split
  · exact .refl
  next c hc =>
    split
    · exact .refl
    · dsimp only
      refine .head ?_ (State.autoUpdate_moves _ time k _ _ _)
      exact .edit s k c _ hc rfl rfl rfl

/-! ## Actions and the end of a context -/

theorem State.emit_moves (time : Time) (k : Nat) (p : EmitPhase) (code : Nat) :
    EngineMoves held s (s.emit time k p code) := by
  unfold State.emit
  split
  · exact .refl
  next c hc =>
    have hcancel : EngineMoves held s (if p = .begin then s.autoCancel time k c else s) := by
      split
      · exact s.autoCancel_moves time k c
      · exact .refl
    exact (hcancel.trans (State.offerGesture_moves _ time _)).trans
      (State.onContext_moves _ k _ fun c => ⟨rfl, rfl, rfl⟩)

theorem State.act_moves (k : Nat) (e : Event) (a : Action) : EngineMoves held s (s.act k e a) := by
  cases a with
  | claim => exact s.claim_moves k e
  | release => exact s.release_moves k e
  | releaseAll => exact s.giveUpAll_moves k
  | anchor =>
    exact s.onContext_moves k _ fun c => ⟨rfl, rfl, by simp [Context.setAnchor, Function.comp_def]⟩
  | timerSet ms => exact s.onContext_moves k _ fun c => ⟨rfl, rfl, rfl⟩
  | timerStop => exact s.onContext_moves k _ fun c => ⟨rfl, rfl, rfl⟩
  | tap => exact s.onContext_moves k _ fun c => ⟨rfl, rfl, rfl⟩
  | tapClear => exact s.onContext_moves k _ fun c => ⟨rfl, rfl, rfl⟩
  | emit p code => exact s.emit_moves e.time k p code
  | accStart axis => exact s.onContext_moves k _ fun c => ⟨rfl, rfl, rfl⟩
  | accStop => exact s.onContext_moves k _ fun c => ⟨rfl, rfl, rfl⟩
  | pointerOn => exact s.pointerOn_moves k
  | pointerOff => exact s.pointerOff_moves k
  | button n press => exact s.button_moves e.time k n press

@[simp] theorem State.releaseButtons_pointer (time : Time) (c : ContextRef) :
    (s.releaseButtons time c).motion.pointer = s.motion.pointer := by
  unfold State.releaseButtons
  split <;> simp [State.offerClick]

theorem State.releaseButtons_buttons (time : Time) (c : ContextRef) :
    (s.releaseButtons time c).motion.buttons =
      s.motion.buttons.map fun b => if b = some c then none else b := by
  unfold State.releaseButtons
  split
  · simp [State.offerClick]
  next hnone =>
    refine ((List.map_congr_left fun b hb => ?_).trans (List.map_id _)).symm
    exact if_neg fun hbc => hnone (by simpa [hbc] using hb)


/-- What an ending context leaves vacant (R138): nobody in its slot holds the pointer or presses a button. -/
theorem State.vacant_of_let_go {s : State} {k : Nat} {c : Context} (h : s.motionHeld) (hc : s.context k = some c)
    (hpointer : s.holds k c.serial = false) (hbuttons : some ⟨k, c.serial⟩ ∉ s.motion.buttons) : s.vacant k := by
  obtain ⟨hholder, hpresser⟩ := h
  refine ⟨fun p hp hk => ?_, fun b hb d hbd hk => ?_⟩
  · obtain ⟨x, hx, hserial, -⟩ := hholder p hp
    rw [hk, hc] at hx
    cases hx
    obtain ⟨⟨slot, serial⟩, source⟩ := p
    simp only at hk hserial
    subst hk hserial
    simp [State.holds, hp] at hpointer
  · obtain ⟨x, hx, hserial⟩ := hpresser b hb d hbd
    rw [hk, hc] at hx
    cases hx
    obtain ⟨slot, serial⟩ := d
    simp only at hk hserial
    subst hk hserial
    exact hbuttons (hbd ▸ hb)

/-- A context ends with its claims, its pointer and its buttons gone (R138). -/
theorem State.endContext_moves (time : Time) (k : Nat) (h : held → s.motionHeld) :
    EngineMoves held s (s.endContext time k) := by
  unfold State.endContext
  split
  · exact .refl
  next c hc =>
    have hgiven : EngineMoves held s (s.giveUpAll k) := s.giveUpAll_moves k
    have hempty : (s.giveUpAll k).context k = some { c with claims := [] } := by
      simp [State.context_giveUpAll, hc]
    generalize s.giveUpAll k = s1 at hgiven hempty
    have hreleased : EngineMoves held s1 (if s1.holds k c.serial then s1.releasePointer else s1) := by
      split
      · exact s1.releasePointer_moves
      · exact .refl
    have hfree : (if s1.holds k c.serial then s1.releasePointer else s1).holds k c.serial = false := by
      split
      · rfl
      next hno => simpa using hno
    have hsame : (if s1.holds k c.serial then s1.releasePointer else s1).gestures = s1.gestures := by
      split <;> rfl
    dsimp only
    generalize (if s1.holds k c.serial then s1.releasePointer else s1) = s2 at hreleased hfree hsame
    have hquiet := (State.releaseButtons_moves (held := held) s2 time ⟨k, c.serial⟩).trans
      (State.autoCancel_moves _ time k c)
    have hbefore : EngineMoves held s _ := (hgiven.trans hreleased).trans hquiet
    have hcontext : ((s2.releaseButtons time ⟨k, c.serial⟩).autoCancel time k c).context k =
        some { c with claims := [] } := by
      rw [← hempty]
      exact State.context_of_gestures (by simp [hsame]) k
    refine hbefore.tail (.finish _ k (fun d hd => ?_) fun hheld => ?_)
    · rw [hcontext] at hd
      cases hd
      rfl
    · refine State.vacant_of_let_go (hbefore.motionHeld h hheld) hcontext ?_ ?_
      · simpa [State.holds] using hfree
      · simp only [State.autoCancel_motion, State.releaseButtons_buttons, List.mem_map, not_exists, not_and]
        intro b _ hb
        split at hb
        · cases hb
        next hne => exact hne hb

/-! ## Rows and events -/

theorem State.watchEntry_moves (k : Nat) (e : Event) : EngineMoves held s (s.watchEntry k e) := by
  unfold State.watchEntry
  split
  · exact .refl
  · split
    · exact s.offerSnapshot_moves _ _
    · exact .refl

theorem Handling.act_moves (trial : Bool) (k : Nat) (e : Event) (h : Handling) (a : Action) :
    EngineMoves held h.state (h.act trial k e a).state := by
  unfold Handling.act
  split
  · exact .refl
  · exact h.state.act_moves k e a

theorem Handling.enter_moves (trial : Bool) (k : Nat) (e : Event) (from_ next : Nat) (h : Handling) :
    EngineMoves held h.state (h.enter trial k e from_ next).state := by
  have hstate : EngineMoves held h.state (h.state.onContext k fun c => { c with state := next }) :=
    h.state.onContext_moves k _ fun c => ⟨rfl, rfl, rfl⟩
  simp only [Handling.enter]
  split
  · exact hstate
  · split
    · exact hstate
    · exact hstate.trans (State.watchEntry_moves _ k e)

theorem Handling.acts_moves (trial : Bool) (k : Nat) (e : Event) (l : List Action) (h : Handling) :
    EngineMoves held h.state (l.foldl (Handling.act trial k e) h).state := by
  induction l generalizing h with
  | nil => exact .refl
  | cons a l ih => exact (h.act_moves trial k e a).trans (ih _)

theorem Handling.fire_moves (trial : Bool) (k : Nat) (e : Event) (r : Row) (h : Handling)
    (hmotion : held → h.state.motionHeld) : EngineMoves held h.state (h.fire trial k e r).state := by
  have hacts := Handling.acts_moves (held := held) trial k e r.actions h
  simp only [Handling.fire]
  split
  · exact hacts.trans (State.endContext_moves _ e.time k (hacts.motionHeld hmotion))
  · exact hacts.trans (Handling.enter_moves trial k e _ _ _)

theorem Handling.handle_eq_some {trial : Bool} {k : Nat} {e : Event} {h h' : Handling}
    (hh : h.handle trial k e = some h') :
    ∃ c row, h.state.context k = some c ∧ h.state.firingRow c e = some row ∧ h' = h.fire trial k e row := by
  simp only [Handling.handle, Option.bind_eq_some_iff, Option.map_eq_some_iff] at hh
  obtain ⟨c, hc, row, hrow, rfl⟩ := hh
  exact ⟨c, row, hc, hrow, rfl⟩

theorem Handling.handle_moves {trial : Bool} {k : Nat} {e : Event} {h h' : Handling}
    (hh : h.handle trial k e = some h') (hmotion : held → h.state.motionHeld) :
    EngineMoves held h.state h'.state := by
  obtain ⟨c, row, -, -, rfl⟩ := Handling.handle_eq_some hh
  exact h.fire_moves trial k e row hmotion

theorem State.handle_moves {s t : State} {k : Nat} {e : Event} (h : s.handle k e = some t)
    (hmotion : held → s.motionHeld) : EngineMoves held s t := by
  simp only [State.handle, Option.map_eq_some_iff] at h
  obtain ⟨h', hh, rfl⟩ := h
  exact Handling.handle_moves hh hmotion

theorem State.deliver_moves (k : Nat) (e : Event) (hmotion : held → s.motionHeld) :
    EngineMoves held s (s.deliver k e) := by
  unfold State.deliver
  cases h : s.handle k e with
  | none => exact .refl
  | some t => exact State.handle_moves h hmotion

theorem State.deliverLift_moves (time : Time) (r : TrackRef) (hmotion : held → s.motionHeld) :
    EngineMoves held s (s.deliverLift time r) := by
  unfold State.deliverLift
  split
  · exact .refl
  next k e _ =>
    have hgiven := s.giveUp_moves (held := held) k r
    exact hgiven.trans (State.deliver_moves _ k _ (hgiven.motionHeld hmotion))

theorem State.deliverCancel_moves (time : Time) (r : TrackRef) (hmotion : held → s.motionHeld) :
    EngineMoves held s (s.deliverCancel time r) := by
  unfold State.deliverCancel
  split
  · exact .refl
  next k e _ =>
    have hgiven := s.giveUp_moves (held := held) k r
    have hmotion' := hgiven.motionHeld hmotion
    refine hgiven.trans ?_
    dsimp only
    cases h : (s.giveUp k r).handle k (claimEvent .cancel time e) with
    | none => exact State.endContext_moves _ time k hmotion'
    | some t => exact State.handle_moves h hmotion'

theorem State.deliverClaimed_moves (kind : EventKind) (time : Time) (r : TrackRef) (hmotion : held → s.motionHeld) :
    EngineMoves held s (s.deliverClaimed kind time r) := by
  unfold State.deliverClaimed
  split
  · exact .refl
  · exact s.deliver_moves _ _ hmotion

theorem State.deliverReleased_moves (time : Time) (r : TrackRef) (c : ContextRef) (hmotion : held → s.motionHeld) :
    EngineMoves held s (s.deliverReleased time r c) := by
  unfold State.deliverReleased
  split
  · exact .refl
  · split
    · exact s.deliver_moves _ _ hmotion
    · exact .refl

end

end Sys2Proof.Machine

/-! Trials, the offer chain, digests and the other items as sequences of the engine's moves (R126, R135 to R143). -/

namespace Sys2Proof.Machine

/-! ## What a trial does not reach (R136) -/

/-- Nobody holds the pointer or presses a button in the second state who did not in the first. -/
def State.motionShrinks (s t : State) : Prop :=
  (∀ p, t.motion.pointer = some p → s.motion.pointer = some p) ∧
    ∀ c, some c ∈ t.motion.buttons → some c ∈ s.motion.buttons

theorem State.motionShrinks_of_motion {s t : State} (h : t.motion = s.motion) : s.motionShrinks t :=
  ⟨fun p hp => by rw [← h, hp], fun c hc => by rwa [← h]⟩

theorem State.motionShrinks.trans {s t u : State} (hst : s.motionShrinks t) (htu : t.motionShrinks u) :
    s.motionShrinks u :=
  ⟨fun p hp => hst.1 p (htu.1 p hp), fun c hc => hst.2 c (htu.2 c hc)⟩

theorem State.motionShrinks.vacant {s t : State} (h : s.motionShrinks t) {k : Nat} (hs : s.vacant k) : t.vacant k :=
  ⟨fun p hp => hs.1 p (h.1 p hp), fun _ hb c hbc => hs.2 _ (h.2 c (hbc ▸ hb)) c rfl⟩

section
variable (s : State)

theorem State.motionShrinks_releasePointer : s.motionShrinks s.releasePointer :=
  ⟨fun _ hp => (nomatch hp), fun _ hc => hc⟩

theorem State.motionShrinks_giveUp (k : Nat) (r : TrackRef) : s.motionShrinks (s.giveUp k r) := by
  change s.motionShrinks (s.dropClaim k r)
  obtain ⟨c, -, -, h⟩ | ⟨-, h⟩ := s.dropClaim_motion_cases k r
  · exact s.motionShrinks_releasePointer.trans (State.motionShrinks_of_motion h)
  · exact State.motionShrinks_of_motion h

theorem State.motionShrinks_giveUpAll (k : Nat) : s.motionShrinks (s.giveUpAll k) := by
  unfold State.giveUpAll
  split
  · exact State.motionShrinks_of_motion rfl
  next c _ =>
    exact foldl_invariant (s.motionShrinks ·) _ (fun t e ht => ht.trans (t.motionShrinks_giveUp k e.track)) _ _
      (State.motionShrinks_of_motion rfl)

@[simp] theorem State.claim_motion (k : Nat) (e : Event) : (s.claim k e).motion = s.motion := by
  unfold State.claim
  split
  next c r _ _ =>
    split
    · rfl
    · split
      next s1 hs1 =>
        obtain ⟨x, -, -, -, rfl⟩ := s.claimTrack_spec s1 r k hs1
        rfl
      · rfl
  · rfl

theorem State.motionShrinks_release (k : Nat) (e : Event) : s.motionShrinks (s.release k e) := by
  unfold State.release
  split
  · split
    · exact s.motionShrinks_giveUp k _
    · exact State.motionShrinks_of_motion rfl
  · exact State.motionShrinks_of_motion rfl

theorem State.motionShrinks_releaseButtons (time : Time) (c : ContextRef) :
    s.motionShrinks (s.releaseButtons time c) := by
  refine ⟨fun p hp => by simpa using hp, fun d hd => ?_⟩
  simp only [State.releaseButtons_buttons, List.mem_map] at hd
  obtain ⟨b, hb, heq⟩ := hd
  split at heq
  · cases heq
  · exact heq ▸ hb

theorem State.motionShrinks_endContext (time : Time) (k : Nat) : s.motionShrinks (s.endContext time k) := by
  unfold State.endContext
  split
  · exact State.motionShrinks_of_motion rfl
  next c _ =>
    have hrelease (t : State) : t.motionShrinks (if t.holds k c.serial then t.releasePointer else t) := by
      split
      · exact t.motionShrinks_releasePointer
      · exact State.motionShrinks_of_motion rfl
    exact (((s.motionShrinks_giveUpAll k).trans (hrelease _)).trans
      (State.motionShrinks_releaseButtons _ time ⟨k, c.serial⟩)).trans (State.motionShrinks_of_motion (by simp))

/-- An action that a trial does leaves the motion unit to those who held and pressed there (R136). -/
theorem State.motionShrinks_act (k : Nat) (e : Event) (a : Action) (h : a.reachesOut = false) :
    s.motionShrinks (s.act k e a) := by
  cases a with
  | claim => exact State.motionShrinks_of_motion (by simp [State.act])
  | release => exact s.motionShrinks_release k e
  | releaseAll => exact s.motionShrinks_giveUpAll k
  | anchor | timerSet | timerStop | tap | tapClear | accStart | accStop => exact State.motionShrinks_of_motion rfl
  | emit | pointerOn | pointerOff | button => simp [Action.reachesOut] at h

end

theorem Handling.motionShrinks_acts (k : Nat) (e : Event) (l : List Action) (h : Handling) :
    h.state.motionShrinks (l.foldl (Handling.act true k e) h).state := by
  refine foldl_invariant (fun x : Handling => h.state.motionShrinks x.state) _ (fun x a hx => ?_) l h
    (State.motionShrinks_of_motion rfl)
  unfold Handling.act
  cases ha : a.reachesOut
  · exact hx.trans (x.state.motionShrinks_act k e a ha)
  · exact hx

theorem Handling.motionShrinks_fire (k : Nat) (e : Event) (r : Row) (h : Handling) :
    h.state.motionShrinks (h.fire true k e r).state := by
  have hacts := Handling.motionShrinks_acts k e r.actions h
  simp only [Handling.fire]
  split
  · exact hacts.trans (State.motionShrinks_endContext _ e.time k)
  · refine hacts.trans (State.motionShrinks_of_motion ?_)
    simp only [Handling.enter]
    split <;> rfl

/-! ## Trials and the offer chain (R135 to R137) -/

section
variable {held : Prop} (s : State)

theorem State.doHeld_moves (k : Nat) (e : Event) (h : Held) : EngineMoves held s (State.doHeld k e s h) := by
  cases h with
  | started r => exact s.offerSnapshot_moves _ r
  | action a => exact s.act_moves k e a
  | entered => exact s.watchEntry_moves k e

/-- The engine never changes the part state (R126). -/
theorem EngineMoves.part {s t : State} (h : EngineMoves held s t) : t.link.part = s.link.part := by
  refine h.keep (P := fun x => x.link.part = s.link.part) (fun x y hmove hx => ?_) rfl
  rw [← hx]
  have houtside {a b : State} (h : a.outside = b.outside) : a.link.part = b.link.part :=
    (congrArg (fun o : State => o.link.part) h :)
  cases hmove with
  | gesture time g => exact houtside (State.offerGesture_outside _ _ _)
  | snapshot time r => exact houtside (State.offerSnapshot_outside _ _ _)
  | pointer time m => exact houtside (State.offerPointer_outside _ _ _)
  | giveUp k r => exact houtside (State.giveUp_outside _ _ _)
  | aside | edit | place | claim | releasePointer | setPointer | press | unpress | residues | start | finish => rfl

theorem State.startTrial_moves {k : Nat} (hfree : s.context k = none) (hrun : s.link.part = .run) (template : Nat)
    (e : Event) : EngineMoves held s (s.startTrial k template e).state :=
  .head (.start s k (Context.start template s.gestures.serial e.time) hfree rfl hrun)
    (.single (.aside _ (serialAfter s.gestures.serial) _ _))

theorem State.discardTrial_moves (k : Nat) (hvacant : held → s.vacant k) :
    EngineMoves held s (s.discardTrial k) := by
  refine (s.giveUpAll_moves k).tail (.finish _ k (fun c hc => ?_) fun hheld =>
    (s.motionShrinks_giveUpAll k).vacant (hvacant hheld))
  rw [State.context_giveUpAll, if_pos rfl, Option.map_eq_some_iff] at hc
  obtain ⟨d, -, rfl⟩ := hc
  rfl

theorem State.runTrial_moves {k : Nat} (hfree : s.context k = none) (hpart : s.link.part = .run) (template : Nat)
    (d : Touch) (e : Event) (hmotion : held → s.motionHeld) : EngineMoves held s (s.runTrial k template d e).1 := by
  have hstart := s.startTrial_moves (held := held) hfree hpart template e
  generalize hs0 : s.startTrial k template e = h0 at hstart
  have hvacant : held → h0.state.vacant k := fun hheld => by
    rw [← hs0]
    exact (State.vacant_of_free (hmotion hheld) hfree)
  have hrun : EngineMoves held h0.state ((h0.handle true k e).getD h0).state ∧
      h0.state.motionShrinks ((h0.handle true k e).getD h0).state := by
    cases hh : h0.handle true k e with
    | none => exact ⟨.refl, State.motionShrinks_of_motion rfl⟩
    | some h1 =>
      obtain ⟨c, row, -, -, rfl⟩ := Handling.handle_eq_some hh
      exact ⟨h0.fire_moves true k e row (hstart.motionHeld hmotion), h0.motionShrinks_fire k e row⟩
  simp only [State.runTrial, hs0]
  generalize (h0.handle true k e).getD h0 = h1 at hrun
  have hran : EngineMoves held s h1.state := hstart.trans hrun.1
  split
  · exact hran.trans (EngineMoves.foldl (fun t a _ => t.doHeld_moves k e a) _ (hran.motionHeld hmotion))
  · exact hran.trans (State.discardTrial_moves _ k fun hheld => hrun.2.vacant (hvacant hheld))

theorem State.freeContext_spec {s : State} {k : Nat} (h : s.freeContext = some k) : s.context k = none := by
  simp only [State.freeContext, List.findIdx?_eq_some_iff_getElem] at h
  obtain ⟨hk, hnone, -⟩ := h
  simpa [State.context_eq, hk] using hnone

theorem State.tryTemplates_moves (d : Touch) (e : Event) (ts : List Nat) (hpart : s.link.part = .run)
    (hmotion : held → s.motionHeld) : EngineMoves held s (State.tryTemplates d e s ts) := by
  induction ts generalizing s with
  | nil => exact .refl
  | cons t ts ih =>
    simp only [State.tryTemplates]
    split
    · exact .refl
    next k hk =>
      have htrial := s.runTrial_moves (State.freeContext_spec hk) hpart t d e hmotion
      split
      · exact htrial
      · exact htrial.trans (ih _ (htrial.part.trans hpart) (htrial.motionHeld hmotion))

theorem State.offerTo_moves (k : Nat) (e : Event) (hmotion : held → s.motionHeld) :
    EngineMoves held s (s.offerTo k e).1 := by
  unfold State.offerTo
  split
  next h hh => exact Handling.handle_moves hh hmotion
  · exact .refl

theorem State.offerRunning_moves (time : Time) (d : Touch) (ks : List Nat) (hmotion : held → s.motionHeld) :
    EngineMoves held s (s.offerRunning time d ks).1 := by
  refine foldl_invariant (fun x : State × Bool => EngineMoves held s x.1) _ (fun x k hx => ?_) ks _ .refl
  split
  · exact hx
  · exact hx.trans (x.1.offerTo_moves k _ (hx.motionHeld hmotion))

theorem State.offerTouch_moves (time : Time) (d : Touch) (hmotion : held → s.motionHeld) :
    EngineMoves held s (s.offerTouch time d) := by
  have hrunning := s.offerRunning_moves time d (s.offerOrder d) hmotion
  simp only [State.offerTouch]
  split
  next hpart =>
    split
    · exact hrunning
    · exact hrunning.trans
        (State.tryTemplates_moves _ d _ _ (hrunning.part.trans hpart) (hrunning.motionHeld hmotion))
  · exact .refl

/-! ## Digests, PEN_INK and cancellations (R126, R140, R141) -/

theorem State.trackEvent_moves (u : Surface) (time : Time) (e : TrackEvent) (hmotion : held → s.motionHeld) :
    EngineMoves held s (State.trackEvent u time s e) := by
  cases e with
  | touchdown r cls pos zone => exact s.offerTouch_moves time _ hmotion
  | lift r => exact s.deliverLift_moves time r hmotion
  | reclass r c =>
    cases c with
    | none => exact s.deliverClaimed_moves .reclass time r hmotion
    | some c => exact s.deliverReleased_moves time r c hmotion
  | move r _ => exact s.deliverClaimed_moves .move time r hmotion
  | cancel r => exact s.deliverCancel_moves time r hmotion

theorem State.frameEvent_moves (time : Time) (k : Nat) (hmotion : held → s.motionHeld) :
    EngineMoves held s (State.frameEvent time s k) :=
  ((s.deliver_moves k _ hmotion).trans (State.pointerFrame_moves _ time k)).trans
    (State.accumulateFrame_moves _ time k)

theorem State.handleDigest_moves (d : Digest) (hmotion : held → s.motionHeld) :
    EngineMoves held s (s.handleDigest d) := by
  have hplaced : EngineMoves held s (s.placeClaims d) := .single (.place s d)
  have htold : EngineMoves held s (d.events.foldl (State.trackEvent d.surface d.time) (s.placeClaims d)) :=
    hplaced.trans (EngineMoves.foldl (fun t e ht => t.trackEvent_moves _ _ e ht) _ (hplaced.motionHeld hmotion))
  simp only [State.handleDigest]
  split
  · exact htold.trans (EngineMoves.foldl (fun t k ht => t.frameEvent_moves _ k ht) _ (htold.motionHeld hmotion))
  · exact htold

theorem State.handlePenInk_moves (p : PenInk) (hmotion : held → s.motionHeld) :
    EngineMoves held s (s.handlePenInk p) := by
  have hgone : EngineMoves held s { s with gestures := { s.gestures with penInk := none } } :=
    .single (.aside s _ none _)
  exact hgone.trans (EngineMoves.foldl (fun t k ht => t.deliver_moves k _ ht) _ (hgone.motionHeld hmotion))

theorem State.cancelContexts_moves (hmotion : held → s.motionHeld) : EngineMoves held s s.cancelContexts :=
  .tail (EngineMoves.foldl (fun t k ht => t.endContext_moves s.now k ht) (List.range Config.contextSlots) hmotion)
    (.aside _ _ none _)

end

end Sys2Proof.Machine

/-! What no move of the engine changes, and the contexts that an ending leaves (R121, R138). -/

namespace Sys2Proof.Machine

/-! ## The track table after a change of one slot -/

theorem TrackTable.onTrack_cases (t : TrackTable) (r : TrackRef) (f : Track → Option Track) :
    (∃ x, t.at r.slot = some x ∧ x.id = r.id ∧ t.onTrack r f = t.put r.slot (f x)) ∨
      ((∀ x, t.at r.slot = some x → x.id ≠ r.id) ∧ t.onTrack r f = t) := by
  unfold TrackTable.onTrack
  cases hx : t.at r.slot with
  | none => exact .inr ⟨fun _ h => (nomatch h), rfl⟩
  | some x =>
    by_cases hid : x.id = r.id
    · exact .inl ⟨x, rfl, hid, if_pos hid⟩
    · refine .inr ⟨fun y hy => ?_, if_neg hid⟩
      cases hy
      exact hid

/-- The record of a slot, by its place on its surface. -/
theorem TrackTable.at_eq_some {t : TrackTable} {n : Nat} {x : Track} : t.at n = some x ↔
    (t.slots.get (slotSurface n))[n - (slotSurface n).firstSlot]? = some (some x) := by
  simp only [TrackTable.at, List.getD]
  cases (t.slots.get (slotSurface n))[n - (slotSurface n).firstSlot]? <;> simp

/-- A change of one track's owner leaves the slots as they were but for owners. -/
theorem TrackTable.ownersOff_put {t : TrackTable} {n : Nat} {x : Track} (hx : t.at n = some x) (o : Option Nat)
    (u : Surface) :
    ownersOff ((t.put n (some { x with owner := o })).slots.get u) = ownersOff (t.slots.get u) := by
  rw [TrackTable.at_eq_some] at hx
  simp only [TrackTable.put, PerSurface.get_set]
  split
  next hu =>
    subst hu
    simp only [ownersOff, List.map_set, Option.map_some]
    apply List.ext_getElem?
    intro j
    rw [List.getElem?_set]
    split
    next hj =>
      subst hj
      have hlt := (List.getElem?_eq_some_iff.mp hx).1
      simp only [List.length_map, hlt, if_true, List.getElem?_map, hx, Option.map_some]
    · rfl
  · rfl

theorem TrackTable.onTrack_nextId (t : TrackTable) (r : TrackRef) (f : Track → Option Track) :
    (t.onTrack r f).nextId = t.nextId ∧ (t.onTrack r f).overflow = t.overflow := by
  obtain ⟨x, -, -, heq⟩ | ⟨-, heq⟩ := t.onTrack_cases r f <;> rw [heq] <;> exact ⟨rfl, rfl⟩

theorem TrackTable.ownersOff_onTrack (t : TrackTable) (r : TrackRef) (f : Track → Option Nat) (u : Surface) :
    ownersOff ((t.onTrack r fun x => some { x with owner := f x }).slots.get u) = ownersOff (t.slots.get u) := by
  obtain ⟨x, hx, -, heq⟩ | ⟨-, heq⟩ := t.onTrack_cases r fun x => some { x with owner := f x } <;> rw [heq]
  exact TrackTable.ownersOff_put hx _ u

/-- A release sets at most one track's owner (R50). -/
theorem State.releaseTrack_eq (s : State) (r : TrackRef) (k : Nat) :
    s.releaseTrack r k = { s with
      tracks := s.tracks.onTrack r (fun x => some { x with owner := if x.owner = some k then none else x.owner }) } := by
  have howner : (fun x : Track => some (if x.owner = some k then { x with owner := none } else x)) =
      fun x : Track => some { x with owner := if x.owner = some k then none else x.owner } := by
    funext x
    split <;> rfl
  simp only [State.releaseTrack, howner]

/-! ## What no move changes -/

theorem State.engineKeeps_of_outside {s t : State} (houtside : t.outside = s.outside)
    (hwatch : t.gestures.watch = s.gestures.watch)
    (hswitch : t.gestures.switchWaiting = s.gestures.switchWaiting)
    (hnext : t.tracks.nextId = s.tracks.nextId) (hoverflow : t.tracks.overflow = s.tracks.overflow)
    (hslots : ∀ u, ownersOff (t.tracks.slots.get u) = ownersOff (s.tracks.slots.get u)) : s.engineKeeps t := by
  have field {α : Type} (g : State → α) (h : g t.outside = g s.outside := by rw [houtside]) :
      g t.outside = g s.outside := h
  exact ⟨field State.pending, field State.linkOut, field State.now, field State.pinHeld, field State.intake,
    field State.blobOverflow, field State.engine, field State.base, hnext, hoverflow, hslots, field State.palm,
    field State.pen, field State.posture, field State.angle, field State.tables, hwatch, hswitch,
    field fun a => a.link.part, field fun a => a.link.waiting, field fun a => a.link.stopTag,
    field fun a => a.link.badWrites, field fun a => a.link.droppedWrites, field fun a => a.link.cause,
    field fun a => a.link.resetSeen⟩

theorem State.engineKeeps_of_same {s t : State} (houtside : t.outside = s.outside)
    (hwatch : t.gestures.watch = s.gestures.watch)
    (hswitch : t.gestures.switchWaiting = s.gestures.switchWaiting)
    (htracks : t.tracks = s.tracks) : s.engineKeeps t :=
  State.engineKeeps_of_outside houtside hwatch hswitch (by rw [htracks]) (by rw [htracks])
    (fun u => by rw [htracks])

theorem State.engineKeeps.refl (s : State) : s.engineKeeps s := State.engineKeeps_of_same rfl rfl rfl rfl

@[simp] theorem State.dropClaim_gestures_watch (s : State) (k : Nat) (r : TrackRef) :
    (s.dropClaim k r).gestures.watch = s.gestures.watch := by
  simp only [State.dropClaim]
  repeat' split
  all_goals rfl

@[simp] theorem State.dropClaim_gestures_switchWaiting (s : State) (k : Nat) (r : TrackRef) :
    (s.dropClaim k r).gestures.switchWaiting = s.gestures.switchWaiting := by
  simp only [State.dropClaim]
  repeat' split
  all_goals rfl

@[simp] theorem State.dropClaim_gestures_digests (s : State) (k : Nat) (r : TrackRef) :
    (s.dropClaim k r).gestures.digests = s.gestures.digests := by
  simp only [State.dropClaim]
  repeat' split
  all_goals rfl

theorem State.dropClaim_buttons (s : State) (k : Nat) (r : TrackRef) :
    (s.dropClaim k r).motion.buttons = s.motion.buttons := by
  obtain ⟨c, -, -, h⟩ | ⟨-, h⟩ := s.dropClaim_motion_cases k r <;> rw [h]

/-- Nothing outside the engine, the motion unit, the tracks' owners and the report queue changes (R126). -/
theorem EngineMove.keeps {held : Prop} {s t : State} (h : EngineMove held s t) : s.engineKeeps t := by
  cases h with
  | gesture time g => exact State.engineKeeps_of_same (by simp) (by simp) (by simp) (by simp)
  | snapshot time r => exact State.engineKeeps_of_same (by simp) (by simp) (by simp) (by simp)
  | pointer time m hm => exact State.engineKeeps_of_same (by simp) (by simp) (by simp) (by simp)
  | claim k c x e hc hnew hroom hx =>
    exact State.engineKeeps_of_outside rfl rfl rfl rfl rfl fun u => TrackTable.ownersOff_put hx _ u
  | giveUp k r =>
    have hnext := TrackTable.onTrack_nextId s.tracks r
    have htracks : (s.giveUp k r).tracks = s.tracks.onTrack r fun x =>
        some { x with owner := if x.owner = some k then none else x.owner } := by
      simp [State.giveUp, State.releaseTrack_eq]
    exact State.engineKeeps_of_outside (by simp) (s.dropClaim_gestures_watch k r)
      (s.dropClaim_gestures_switchWaiting k r) (by rw [htracks]; exact (hnext _).1)
      (by rw [htracks]; exact (hnext _).2) fun u => by rw [htracks, TrackTable.ownersOff_onTrack]
  | aside | edit | place | releasePointer | setPointer | press | unpress | residues | start | finish =>
    exact State.engineKeeps_of_same rfl rfl rfl rfl

theorem State.engineKeeps.trans {s t u : State} (hst : s.engineKeeps t) (htu : t.engineKeeps u) :
    s.engineKeeps u := by
  unfold State.engineKeeps at *
  simp_all

theorem EngineMoves.keeps {held : Prop} {s t : State} (h : EngineMoves held s t) : s.engineKeeps t :=
  h.keep (P := s.engineKeeps) (fun _ _ hmove hs => hs.trans hmove.keeps) (.refl s)

/-- The sizes of the engine's and the motion unit's lists, and the digest queue. -/
theorem EngineMove.lists {held : Prop} {s t : State} (h : EngineMove held s t) :
    t.gestures.contexts.length = s.gestures.contexts.length ∧ t.gestures.digests = s.gestures.digests ∧
      t.motion.buttons.length = s.motion.buttons.length := by
  cases h with
  | gesture | snapshot | pointer => simp
  | giveUp k r => simp [State.giveUp, State.releaseTrack, State.dropClaim_buttons]
  | aside | releasePointer | setPointer | residues => exact ⟨rfl, rfl, rfl⟩
  | edit | start | finish => exact ⟨List.length_set, rfl, rfl⟩
  | claim => exact ⟨List.length_set, rfl, rfl⟩
  | place => exact ⟨List.length_map .., rfl, rfl⟩
  | press => exact ⟨rfl, rfl, List.length_set⟩
  | unpress => exact ⟨rfl, rfl, List.length_map ..⟩

theorem EngineMoves.lists {held : Prop} {s t : State} (h : EngineMoves held s t) :
    t.gestures.contexts.length = s.gestures.contexts.length ∧ t.gestures.digests = s.gestures.digests ∧
      t.motion.buttons.length = s.motion.buttons.length := by
  induction h with
  | refl => exact ⟨rfl, rfl, rfl⟩
  | tail _ hlast ih =>
    obtain ⟨hc, hd, hb⟩ := hlast.lists
    exact ⟨hc.trans ih.1, hd.trans ih.2.1, hb.trans ih.2.2⟩

/-! ## The contexts an ending leaves (R138, R141) -/

/-- An ending frees its slot and leaves the other contexts alone (R138). -/
theorem State.context_endContext (s : State) (time : Time) (k j : Nat) :
    (s.endContext time k).context j = if j = k then none else s.context j := by
  unfold State.endContext
  cases hc : s.context k with
  | none => by_cases hjk : j = k <;> simp [hjk, hc]
  | some c =>
    have hsame : (if (s.giveUpAll k).holds k c.serial then (s.giveUpAll k).releasePointer
        else s.giveUpAll k).gestures = (s.giveUpAll k).gestures := by split <;> rfl
    dsimp only
    rw [State.context_setContext, ite_self]
    split
    · rfl
    next hjk =>
      rw [State.context_of_gestures (s := s.giveUpAll k) (by simp [hsame]), State.context_giveUpAll, if_neg hjk]

theorem State.context_endContexts (time : Time) (ks : List Nat) (s : State) (j : Nat) :
    (ks.foldl (fun acc k => acc.endContext time k) s).context j = if j ∈ ks then none else s.context j := by
  induction ks generalizing s with
  | nil => rfl
  | cons k ks ih =>
    rw [List.foldl_cons, ih, State.context_endContext]
    by_cases hjk : j = k <;> by_cases hj : j ∈ ks <;> simp [hjk, hj]

theorem State.context_cancelContexts (s : State) (j : Nat) :
    s.cancelContexts.context j = if j < 6 then none else s.context j := by
  have hended := State.context_endContexts s.now (List.range Config.contextSlots) s j
  simp only [List.mem_range] at hended
  simp only [State.cancelContexts]
  generalize (List.range Config.contextSlots).foldl (fun acc k => acc.endContext s.now k) s = t at hended ⊢
  exact hended

/-- A general cancellation leaves no context running (R141). -/
theorem State.context_cancelContexts_eq_none {s : State} (h : s.gestures.contexts.length = 6) (j : Nat) :
    s.cancelContexts.context j = none := by
  rw [State.context_cancelContexts]
  split
  · rfl
  next hj => simp [State.context_eq, List.getElem?_eq_none (by omega : s.gestures.contexts.length ≤ j)]

theorem State.contexts_cancelContexts {s : State} (h : s.gestures.contexts.length = 6) :
    s.cancelContexts.gestures.contexts = List.replicate 6 none := by
  have hlength := (s.cancelContexts_moves (held := False) nofun).lists.1
  rw [List.eq_replicate_iff]
  refine ⟨hlength.trans h, fun c hc => ?_⟩
  obtain ⟨j, hj⟩ := List.mem_iff_getElem?.mp hc
  have hnone := State.context_cancelContexts_eq_none h j
  rw [State.context_eq, hj] at hnone
  exact hnone

end Sys2Proof.Machine

/-! What the commands work on apart from reports, scan intake, the pen's own values and counters: `State.inner`, and
the operations that leave it alone. -/

namespace Sys2Proof.Machine

/-- The motion of a POINTER record. -/
def Record.motion? (r : Record) : Option Motion :=
  match r.payload with
  | .pointer m => some m
  | _ => none

/-- The motions of the POINTER records of a queue. -/
def pointersIn (q : List Record) : List Motion := q.filterMap Record.motion?

@[simp] theorem pointersIn_append (p q : List Record) : pointersIn (p ++ q) = pointersIn p ++ pointersIn q :=
  List.filterMap_append

theorem mem_pointersIn {q : List Record} {m : Motion} : m ∈ pointersIn q ↔ ∃ r ∈ q, r.payload = .pointer m := by
  have hmotion (r : Record) : r.motion? = some m ↔ r.payload = .pointer m := by
    unfold Record.motion?
    split <;> simp_all
  simp [pointersIn, hmotion]

/-- The values of a state that reports, scan intake, the pen and the counters have no part in. -/
structure Inner where
  pending : List Instr
  pinHeld : Bool
  op : Option Operation
  slots : PerSurface (List (Option Track))
  nextId : Nat
  palm : List PalmEntry
  contexts : List (Option Context)
  digests : List Digest
  watch : List Watch
  motion : MotionUnit
  templates : List Template
  pointers : List Motion

def State.inner (s : State) : Inner :=
  { pending := s.pending, pinHeld := s.pinHeld, op := s.engine.op, slots := s.tracks.slots,
    nextId := s.tracks.nextId, palm := s.palm, contexts := s.gestures.contexts, digests := s.gestures.digests,
    watch := s.gestures.watch, motion := s.motion, templates := s.tables.active.templates,
    pointers := pointersIn s.queue }

section
variable (s : State)

/-! ## Reports -/

theorem State.enqueue_inner (time : Time) (p : Payload) (h : ∀ m, p ≠ .pointer m) :
    (s.enqueue time p).inner = s.inner := by
  have hnone : pointersIn [{ time := time, payload := p, begun := false }] = [] := by
    cases p with
    | pointer m => exact absurd rfl (h m)
    | _ => rfl
  simp [State.inner, State.enqueue, hnone]

@[simp] theorem State.offerReply_inner (r : Reply) : (s.offerReply r).inner = s.inner := by
  obtain ⟨-, heq⟩ | ⟨-, heq⟩ := s.offerReply_cases r <;> rw [heq]
  · exact s.enqueue_inner _ _ nofun
  · rfl

@[simp] theorem State.offerNotice_inner (n : Notice) : (s.offerNotice n).inner = s.inner := by
  obtain ⟨-, heq⟩ | ⟨-, heq⟩ := s.offerNotice_cases n <;> rw [heq]
  · exact s.enqueue_inner _ _ nofun
  · rfl

theorem replaceHover_spec {q p : List Record} {time : Time} {r : PenReport} (h : replaceHover q time r = some p) :
    ∃ front old was, q = front ++ [old] ∧ old.begun = false ∧ old.payload = .pen was ∧ was.shown = .hover ∧
      p = front ++ [⟨time, .pen { r with recovered := r.recovered || was.recovered }, false⟩] := by
  unfold replaceHover at h
  split at h
  next t was hlast =>
    obtain ⟨front, rfl⟩ := List.getLast?_eq_some_iff.mp hlast
    dsimp only at h
    split at h
    next hhover =>
      simp only [List.dropLast_concat, Option.some.injEq] at h
      exact ⟨front, _, was, rfl, rfl, rfl, hhover, h.symm⟩
    · cases h
  · cases h

@[simp] theorem State.offerPen_inner (r : PenReport) : (s.offerPen r).inner = s.inner := by
  obtain ⟨-, q, hq, heq⟩ | ⟨-, heq⟩ | ⟨-, -, heq⟩ | ⟨-, -, heq⟩ := s.offerPen_cases r <;> rw [heq]
  · obtain ⟨front, old, was, hqueue, -, hold, -, rfl⟩ := replaceHover_spec hq
    have hnone : pointersIn [old] = [] := by simp [pointersIn, Record.motion?, hold]
    simp only [State.inner, hqueue, pointersIn_append, hnone]
    rfl
  · exact s.enqueue_inner _ _ nofun
  · rfl

@[simp] theorem State.noticeRises_inner (before : State) : (State.noticeRises before s).inner = s.inner := by
  simp [State.noticeRises, apply_ite State.inner]

@[simp] theorem State.done_inner (tag c : Byte) (b : List Byte) : (s.done tag c b).inner = s.inner :=
  s.offerReply_inner _

@[simp] theorem State.refuse_inner (tag c : Byte) (r : Reason) : (s.refuse tag c r).inner = s.inner :=
  s.offerReply_inner _

@[simp] theorem State.busy_inner (tag c : Byte) : (s.busy tag c).inner = s.inner := s.offerReply_inner _

@[simp] theorem State.reportPen_inner (p : PenShown) (l r : Bool) : (s.reportPen p l r).inner = s.inner :=
  s.offerPen_inner _

@[simp] theorem State.surfaceNotice_inner (u : Surface) : (s.surfaceNotice u).inner = s.inner :=
  s.offerNotice_inner _

/-! ## Single updates -/

@[simp] theorem State.onIntake_inner (u : Surface) (f : Intake → Intake) : (s.onIntake u f).inner = s.inner := rfl
@[simp] theorem State.setBase_inner (u : Surface) (b : Baseline) : (s.setBase u b).inner = s.inner := rfl
@[simp] theorem State.setWaitList_inner (w : List WaitItem) : (s.setWaitList w).inner = s.inner := rfl
@[simp] theorem State.setLinkOut_inner (o : LinkOut) : (s.setLinkOut o).inner = s.inner := rfl
@[simp] theorem State.setPart_inner (p : PartState) : (s.setPart p).inner = s.inner := rfl
@[simp] theorem State.setStopTag_inner (t : Option Byte) : (s.setStopTag t).inner = s.inner := rfl
@[simp] theorem State.setReceiver_inner (u : Surface) (r : Receiver) : (s.setReceiver u r).inner = s.inner := rfl
@[simp] theorem State.handPenInk_inner : s.handPenInk.inner = s.inner := rfl
@[simp] theorem State.clearAcquire_inner (u : Surface) : (s.clearAcquire u).inner = s.inner := rfl
@[simp] theorem State.setInHand_inner (b : Bool) : (s.setInHand b).inner = s.inner := rfl
@[simp] theorem State.joinWaitList_inner (w : WaitItem) : (s.joinWaitList w).inner = s.inner := rfl
@[simp] theorem State.clearCounters_inner : s.clearCounters.inner = s.inner := rfl
@[simp] theorem State.acceptCommit_inner (tag : Byte) : (s.acceptCommit tag).inner = s.inner := rfl

/-! ## Surfaces and scan intake -/

@[simp] theorem State.enterState_inner (u : Surface) (st : SurfaceState) : (s.enterState u st).inner = s.inner := by
  simp [State.enterState, apply_ite State.inner]

@[simp] theorem State.enterAcquire_inner (u : Surface) (k : Bool) : (s.enterAcquire u k).inner = s.inner := by
  simp [State.enterAcquire]

@[simp] theorem State.postClosing_inner (u : Surface) (o : ClosingOutcome) : (s.postClosing u o).inner = s.inner := by
  simp [State.postClosing]

@[simp] theorem State.recapture_inner (u : Surface) : (s.recapture u).inner = s.inner := by
  simp [State.recapture]

@[simp] theorem State.failSurface_inner (u : Surface) : (s.failSurface u).inner = s.inner := by
  simp [State.failSurface]

@[simp] theorem State.discardFrame_inner (u : Surface) : (s.discardFrame u).inner = s.inner := by
  simp [State.discardFrame, apply_ite State.inner]

@[simp] theorem State.makeReady_inner (u : Surface) (n : Half) (g : List (List Nat)) :
    (s.makeReady u n g).inner = s.inner := by
  simp [State.makeReady]

@[simp] theorem State.disposeFrame_inner (u : Surface) (n : Half) (g : List (List Nat)) :
    (s.disposeFrame u n g).inner = s.inner := by
  simp [State.disposeFrame, apply_ite State.inner]

@[simp] theorem State.takeFrameStart_inner (u : Surface) (n : Half) (c r : Byte) :
    (s.takeFrameStart u n c r).inner = s.inner := by
  simp [State.takeFrameStart, State.examineStart, apply_ite State.inner]

@[simp] theorem State.takeRowRecord_inner (u : Surface) (body : List Byte) :
    (s.takeRowRecord u body).inner = s.inner := by
  simp [State.takeRowRecord, apply_ite State.inner]

@[simp] theorem State.takeFrameEnd_inner (u : Surface) (n check : Half) :
    (s.takeFrameEnd u n check).inner = s.inner := by
  simp [State.takeFrameEnd, apply_ite State.inner]

@[simp] theorem State.disableSurface_inner (u : Surface) : (s.disableSurface u).inner = s.inner := by
  obtain ⟨-, -, heq⟩ | ⟨-, heq⟩ := s.disableSurface_cases u <;> simp [heq]

@[simp] theorem State.runSurface_inner (u : Surface) : (s.runSurface u).inner = s.inner := by
  simp [State.runSurface, apply_ite State.inner]

@[simp] theorem State.completeAcquire_inner (u : Surface) (sn : Snapshot) (f : ReadyFrame) :
    (s.completeAcquire u sn f).inner = s.inner := by
  simp [State.completeAcquire, apply_ite State.inner]

@[simp] theorem State.applyOutcome_inner (u : Surface) (o : ClosingOutcome) : (s.applyOutcome u o).inner = s.inner := by
  cases o <;> simp [State.applyOutcome]

/-! ## The pen -/

/-- The pen's own values are no part of the inner ones. -/
theorem State.withPen_inner (p : PenTracker) : State.inner { s with pen := p } = s.inner := rfl

@[simp] theorem State.penForcedExit_inner : s.penForcedExit.inner = s.inner := by
  simp [State.penForcedExit, apply_ite State.inner, State.withPen_inner]

@[simp] theorem State.takeValid_inner (h : PenHeld) (b : Bool) : (s.takeValid h b).inner = s.inner := by
  simp [State.takeValid, State.penInk, State.penHover, apply_ite State.inner, State.withPen_inner]

@[simp] theorem State.takeInvalid_inner : s.takeInvalid.inner = s.inner := by
  cases hmode : s.pen.mode <;>
    simp [State.takeInvalid, hmode, State.coastOn, apply_ite State.inner, State.withPen_inner]

@[simp] theorem State.outcomePen_inner (o : Operation) : (s.outcomePen o).inner = s.inner := by
  unfold State.outcomePen
  split <;> simp

/-! ## Link and management commands -/

@[simp] theorem State.countBadWrite_inner : s.countBadWrite.inner = s.inner := by
  rw [State.countBadWrite, State.noticeRises_inner]
  rfl

@[simp] theorem State.countDroppedWrite_inner : s.countDroppedWrite.inner = s.inner := by
  rw [State.countDroppedWrite, State.noticeRises_inner]
  rfl

@[simp] theorem State.endRead_inner (n : Nat) : (s.endRead n).inner = s.inner := by
  unfold State.endRead
  split
  · rfl
  next r rest hq =>
    have hmarked : pointersIn ({ r with begun := r.begun || decide (3 ≤ n) } :: rest) = pointersIn s.queue := by
      rw [hq]
      rfl
    simp only [State.inner, hmarked, State.setLinkOut]

@[simp] theorem State.endCommit_inner : s.endCommit.inner = s.inner := by
  unfold State.endCommit
  split
  · rfl
  · split
    · simp only [State.done_inner]
      rfl
    · rfl

@[simp] theorem State.stopDone_inner : s.stopDone.inner = s.inner := by
  unfold State.stopDone
  split <;> simp

@[simp] theorem State.takeLoad_inner (tag kind part : Byte) (offset : Half) (entries : List Byte) :
    (s.takeLoad tag kind part offset entries).inner = s.inner := by
  unfold State.takeLoad
  split
  · simp
  · split
    · simp
    · simp only [State.done_inner]
      rfl

@[simp] theorem State.takeDiscard_inner (tag : Byte) : (s.takeDiscard tag).inner = s.inner := by
  unfold State.takeDiscard
  split
  · simp
  · simp only [State.done_inner]
    rfl

@[simp] theorem State.takeCheck_inner (tag : Byte) : (s.takeCheck tag).inner = s.inner := s.done_inner _ _ _

@[simp] theorem State.answer_inner (tag selector : Byte) (body : List Byte) :
    (s.answer tag selector body).inner = s.inner := s.done_inner _ _ _

@[simp] theorem State.takeQueryTracks_inner (tag u : Byte) : (s.takeQueryTracks tag u).inner = s.inner := by
  unfold State.takeQueryTracks
  split <;> simp

@[simp] theorem State.takeQueryBaseline_inner (tag u r : Byte) : (s.takeQueryBaseline tag u r).inner = s.inner := by
  unfold State.takeQueryBaseline
  split <;> simp [apply_ite State.inner]

@[simp] theorem State.takeQueryRange_inner (tag kind part : Byte) (first count : Half) :
    (s.takeQueryRange tag kind part first count).inner = s.inner := by
  unfold State.takeQueryRange
  split <;> simp [apply_ite State.inner]

@[simp] theorem State.takeRun_inner (tag : Byte) : (s.takeRun tag).inner = s.inner := by
  unfold State.takeRun
  split <;> simp

@[simp] theorem State.takeStop_inner (tag : Byte) : (s.takeStop tag).inner = s.inner := by
  unfold State.takeStop
  split <;> simp [State.beginStop]

@[simp] theorem State.takeRecal_inner (tag u : Byte) : (s.takeRecal tag u).inner = s.inner := by
  unfold State.takeRecal
  split
  · simp
  · split <;> simp [apply_ite State.inner]

@[simp] theorem State.takeClear_inner (tag : Byte) : (s.takeClear tag).inner = s.inner := by
  simp [State.takeClear]

@[simp] theorem State.takeBadLength_inner (tag code : Byte) : (s.takeBadLength tag code).inner = s.inner := by
  obtain ⟨-, -, heq⟩ | ⟨-, heq⟩ := s.takeBadLength_cases tag code <;> simp [heq]

end

end Sys2Proof.Machine

/-! Every command as an opening, which replaces the operation in flight or the values it works on, and moves that
change the inner values one thing at a time (11.1). -/

namespace Sys2Proof.Machine

/-! ## Moves -/

/-- An operation with the snapshot, the surface and the frame of another; only a closing's outcome OFF may have
turned to ACQUIRE (R13, R15). -/
def Operation.continues (o o' : Operation) : Prop :=
  o'.snap = o.snap ∧ o'.surface = o.surface ∧
    (o'.work = o.work ∨ ∃ key, o.work = .closing key .off ∧ o'.work = .closing key .acquire)

theorem Operation.continues.refl (o : Operation) : o.continues o := ⟨rfl, rfl, .inl rfl⟩

theorem Operation.continues.trans {o o' o'' : Operation} (h : o.continues o') (h' : o'.continues o'') :
    o.continues o'' := by
  obtain ⟨hsnap, hsurface, hwork⟩ := h
  obtain ⟨hsnap', hsurface', hwork'⟩ := h'
  refine ⟨hsnap'.trans hsnap, hsurface'.trans hsurface, ?_⟩
  obtain hsame | ⟨key, hoff, hacquire⟩ := hwork <;> obtain hsame' | ⟨key', hoff', hacquire'⟩ := hwork'
  · exact .inl (hsame'.trans hsame)
  · exact .inr ⟨key', hsame ▸ hoff', hacquire'⟩
  · exact .inr ⟨key, hoff, hsame' ▸ hacquire⟩
  · rw [hacquire] at hoff'
    cases hoff'

theorem continues_turnInFlight (u : Surface) (o : Operation) : o.continues (turnInFlight u o) := by
  unfold turnInFlight
  split
  next key hwork =>
    split
    · exact ⟨rfl, rfl, .inr ⟨key, hwork, rfl⟩⟩
    · exact .refl o
  · exact .refl o

/-- No context runs. -/
def State.idle (s : State) : Prop := ∀ c ∈ s.gestures.contexts, c = none

/-- One move. `held` says that the pointer's holder and the pressers may be taken to run, and that only replies and
NOTICEs wait; `plain` that the active templates may be taken to change with no context running alone. -/
inductive Move (held plain : Prop) (s : State) : State → Prop
  | quiet {t : State} (h : t.inner = s.inner) : Move held plain s t
  | engine {t : State} (h : EngineMove held s t) : Move held plain s t
  | contact (time : Time) (u : Surface) (cause : ContactCause) (hidle : ∀ o, s.engine.op = some o → o.surface ≠ u) :
      Move held plain s (s.offerContact time { surface := u, cause := cause, entries := s.tracks.entries u })
  | unsent : Move held plain s s.offerUnsent
  | shed {t : State} (ms : List Motion) (h : t.inner = { s.inner with pointers := ms })
      (hms : held → ∀ m ∈ ms, m ∈ pointersIn s.queue) : Move held plain s t
  | working {t : State} (o o' : Operation) (hop : s.engine.op = some o) (hon : o.continues o')
      (h : t.inner = { s.inner with op := some o' }) : Move held plain s t
  | expire {t : State} (i : Nat) (h : t.inner = { s.inner with palm := s.palm.eraseIdx i }) : Move held plain s t
  | dropInHand : Move held plain s s.dropInHand
  | watch {t : State} (w : List Watch) (hw : s.gestures.watch.length ≤ 4 → w.length ≤ 4)
      (h : t.inner = { s.inner with watch := w }) : Move held plain s t
  | store {t : State} (l : List Template) (h : t.inner = { s.inner with templates := l })
      (hl : plain → l = s.tables.active.templates ∨ s.idle) : Move held plain s t

abbrev Moves (held plain : Prop) : State → State → Prop := Relation.ReflTransGen (Move held plain)

section
variable {held plain : Prop} {s t : State}

theorem Moves.of_quiet (h : t.inner = s.inner) : Moves held plain s t := .single (.quiet h)

theorem EngineMoves.moves (h : EngineMoves held s t) : Moves held plain s t :=
  Relation.ReflTransGen.mono (fun _ _ hmove => Move.engine hmove) _ _ h

theorem Moves.keep {P : State → Prop} (hmove : ∀ s t, Move held plain s t → P s → P t) (h : Moves held plain s t)
    (hs : P s) : P t := by
  induction h with
  | refl => exact hs
  | tail _ hlast ih => exact hmove _ _ hlast ih

end

/-- What is known of a state where a command's moves begin. -/
def State.ready (held plain : Prop) (s : State) : Prop :=
  (held → s.motionHeld ∧ ∀ r ∈ s.link.waiting, r.ordinary = false) ∧
    (plain → s.gestures.contexts.length = 6 ∧ (s.link.part = .hold → s.idle) ∧
      ∀ c, s.tables.commit = some c → c.frameSide.program = false)

section
variable {held plain : Prop} (s : State)

/-! ## Reports and departures -/

theorem State.reportContacts_moves (u : Surface) (cause : ContactCause)
    (hidle : ∀ o, s.engine.op = some o → o.surface ≠ u) : Moves held plain s (s.reportContacts u cause) :=
  .single (.contact s.now u cause hidle)

theorem State.engineHas_eq_false_iff {s : State} {u : Surface} : s.engineHas u = false ↔
    (∀ w ∈ s.engine.waitList, w.surface ≠ u) ∧ ∀ o, s.engine.op = some o → o.surface ≠ u := by
  cases hop : s.engine.op <;> simp [State.engineHas, hop]

theorem State.catchUp_moves (u : Surface) : Moves held plain s (s.catchUp u) := by
  unfold State.catchUp
  split
  next h =>
    rw [Bool.and_eq_true, Bool.not_eq_true'] at h
    exact s.reportContacts_moves u _ (State.engineHas_eq_false_iff.mp h.2).2
  · exact .refl

theorem State.abortReport_moves (u : Surface) (hop : s.engine.op = none) : Moves held plain s (s.abortReport u) := by
  unfold State.abortReport
  split
  · exact s.reportContacts_moves u _ (by simp [hop])
  · exact .refl

theorem pointersIn_of_unordinary {q : List Record} (h : ∀ r ∈ q, r.ordinary = false) : pointersIn q = [] := by
  simp only [pointersIn, List.filterMap_eq_nil_iff]
  intro r hr
  have hno := h r hr
  unfold Record.ordinary at hno
  unfold Record.motion?
  split at hno <;> simp_all

@[simp] theorem State.issueOwed_inner : s.issueOwed.inner = s.inner := by
  have hsurface (s : State) : s.issueSurface.inner = s.inner := by
    unfold State.issueSurface
    split
    · split
      · exact State.enqueue_inner _ _ _ nofun
      · rfl
    · rfl
  have hposture (s : State) : s.issuePosture.inner = s.inner := by
    unfold State.issuePosture
    split
    · exact State.enqueue_inner _ _ _ nofun
    · rfl
  have hfault (s : State) : s.issueFault.inner = s.inner := by
    unfold State.issueFault
    split
    · exact State.enqueue_inner _ _ _ nofun
    · rfl
  have hloss (s : State) : s.issueLoss.inner = s.inner := by
    unfold State.issueLoss
    split
    · exact State.enqueue_inner _ _ _ nofun
    · rfl
  rw [State.issueOwed, hloss, hfault, hposture, hsurface]

theorem State.admitWaiting_moves (h : held → ∀ r ∈ s.link.waiting, r.ordinary = false) :
    Moves held plain s s.admitWaiting := by
  refine .single (.shed (pointersIn s.admitWaiting.queue) rfl fun hheld m hm => ?_)
  simp only [State.admitWaiting, pointersIn_append] at hm
  rwa [pointersIn_of_unordinary fun r hr => h hheld r (List.mem_of_mem_take hr), List.append_nil] at hm

theorem State.departure_moves (h : held → ∀ r ∈ s.link.waiting, r.ordinary = false) :
    Moves held plain s s.departure := by
  refine (s.admitWaiting_moves h).trans ?_
  refine .head (.quiet (State.issueOwed_inner _)) ?_
  exact (State.catchUp_moves _ .pad).trans ((State.catchUp_moves _ .panel).trans (.single .unsent))

theorem State.takeRead_moves (extra : Nat) (h : held → ∀ r ∈ s.link.waiting, r.ordinary = false) :
    Moves held plain s (s.takeRead extra) := by
  unfold State.takeRead
  dsimp only
  split
  · exact .of_quiet rfl
  next r rest hq =>
    refine .head (.shed (pointersIn rest) rfl fun _ m hm => ?_) (State.departure_moves _ h)
    simp only [pointersIn, hq, List.filterMap_cons]
    split
    · exact hm
    · exact List.mem_cons_of_mem _ hm

/-! ## Postures and tables -/

theorem State.enableSurface_moves (u : Surface) : Moves held plain s (s.enableSurface u) := by
  unfold State.enableSurface
  split
  · split
    · cases hop : s.engine.op with
      | none => exact .of_quiet (by simp only [State.inner, hop]; rfl)
      | some o =>
        exact .single (.working o (turnInFlight u o) hop (continues_turnInFlight u o) rfl)
    · split
      · exact .of_quiet (s.enterAcquire_inner u false)
      · exact .refl
  · exact .refl

theorem State.applySurface_moves (e : PostureEntry) (u : Surface) : Moves held plain s (s.applySurface e u) := by
  unfold State.applySurface
  split
  · exact s.enableSurface_moves u
  · exact .of_quiet (s.disableSurface_inner u)

theorem State.applyEntry_moves : Moves held plain s s.applyEntry := by
  have hsurfaces := (s.applySurface_moves (held := held) (plain := plain) s.entry .pad).trans
    (State.applySurface_moves _ s.entry .panel)
  unfold State.applyEntry
  dsimp only
  split
  · exact hsurfaces
  · exact hsurfaces.trans (Moves.of_quiet (State.penForcedExit_inner _))

theorem State.setPosture_moves (tag : Byte) (p : Posture) : Moves held plain s (s.setPosture tag p) := by
  unfold State.setPosture
  split
  · exact .of_quiet (s.done_inner _ _ _)
  · have hchange : Moves held plain s (s.changePosture p) :=
      .head (.quiet (State.offerNotice_inner { s with posture := p } _)) (State.applyEntry_moves _)
    refine hchange.trans (Moves.of_quiet ?_)
    rw [State.postureDone, State.done_inner, State.noticeRises_inner]

theorem State.takePostureCode_moves (tag : Byte) (value : Half) :
    Moves held plain s (s.takePostureCode tag value) := by
  unfold State.takePostureCode
  split
  · exact s.setPosture_moves tag _
  · exact .of_quiet (s.refuse_inner _ _ _)

theorem State.takePostureAngle_moves (tag : Byte) (value : Half) :
    Moves held plain s (s.takePostureAngle tag value) :=
  .head (.quiet (t := { s with angle := min value.toNat 360 }) rfl)
    (State.setPosture_moves _ tag (s.postureFor (min value.toNat 360)))

/-- Only a program brings templates along (R169). -/
theorem Tables.takeKinds_templates (t from_ : Tables) {ks : KindSet} (h : ks.program = false) :
    (t.takeKinds from_ ks).templates = t.templates := by
  have hkind (k : Kind) (x : Tables) :
      (if ks.has k then x.takeKind from_ k else x).templates = x.templates := by
    split
    next hk =>
      cases k with
      | program => simp [KindSet.has, h] at hk
      | _ => rfl
    · rfl
  exact foldl_keeps _ Tables.templates (fun x k => hkind k x) _ _

theorem State.switchFrameSide_moves
    (h : plain → s.idle ∨ ∀ c, s.tables.commit = some c → c.frameSide.program = false) :
    Moves held plain s s.switchFrameSide := by
  unfold State.switchFrameSide
  split
  · exact .refl
  next c hc =>
    split
    · exact .refl
    · have hstore : Move held plain s { s with tables := { s.tables with
          active := s.tables.active.takeKinds s.tables.staging c.frameSide
          commit := some { c with frameSide := KindSet.empty } } } :=
        .store _ rfl fun hplain => (h hplain).symm.imp_left fun hside => Tables.takeKinds_templates _ _ (hside c hc)
      dsimp only
      split
      · exact .head hstore (State.applyEntry_moves _)
      · exact .single hstore

theorem State.installProgram_moves (h : plain → s.idle) : Moves held plain s s.installProgram :=
  .single (.store _ rfl fun hplain => .inr (h hplain))

theorem State.switchProgram_moves (h : plain → s.idle) : Moves held plain s s.switchProgram := by
  unfold State.switchProgram
  split
  · exact s.installProgram_moves h
  · exact .refl

@[simp] theorem State.applyEntry_contexts : s.applyEntry.gestures = s.gestures := by simp

end

end Sys2Proof.Machine

/-! The operations that replace the operation in flight or many values at once, and every command as one of these
openings followed by moves. -/

namespace Sys2Proof.Machine

section
variable {held plain : Prop} (s : State)

/-! ## Cancellations -/

theorem State.generalCancel_moves (h : held → s.motionHeld) : Moves held plain s s.generalCancel := by
  have hcancel := (s.cancelContexts_moves h).moves (plain := plain)
  unfold State.generalCancel
  dsimp only
  split
  · exact hcancel.tail .dropInHand
  · exact hcancel

theorem State.idle_cancelContexts (h : s.gestures.contexts.length = 6) : s.cancelContexts.idle := by
  intro c hc
  rw [State.contexts_cancelContexts h] at hc
  exact List.eq_of_mem_replicate hc

theorem State.idle_of_contexts {s t : State} (h : t.gestures.contexts = s.gestures.contexts) (hs : s.idle) : t.idle := by
  unfold State.idle
  rwa [h]

theorem State.generalCancel_contexts : s.generalCancel.gestures.contexts = s.cancelContexts.gestures.contexts := by
  unfold State.generalCancel
  generalize s.cancelContexts = t
  dsimp only
  split <;> rfl

theorem State.idle_generalCancel (h : s.gestures.contexts.length = 6) : s.generalCancel.idle :=
  State.idle_of_contexts s.generalCancel_contexts (s.idle_cancelContexts h)

theorem State.switchAtHold_moves (h : plain → s.idle) : Moves held plain s s.switchAtHold :=
  (s.switchFrameSide_moves fun hplain => .inl (h hplain)).trans
    (State.switchProgram_moves _ fun hplain => State.idle_of_contexts (by simp) (h hplain))

theorem State.noticeRises_moves {before s t : State} (h : Moves held plain s t) :
    Moves held plain s (State.noticeRises before t) :=
  h.tail (.quiet (t.noticeRises_inner before))

theorem State.completeStop_moves (h : held → s.motionHeld) (hlist : plain → s.gestures.contexts.length = 6) :
    Moves held plain s s.completeStop := by
  have hcancel : Moves held plain s (s.generalCancel.setPart .hold) :=
    (s.generalCancel_moves h).tail (.quiet (State.setPart_inner _ _))
  have hswitch : Moves held plain s (s.generalCancel.setPart .hold).switchAtHold :=
    hcancel.trans (State.switchAtHold_moves _ fun hplain =>
      State.idle_of_contexts (s := s.generalCancel) (by simp) (s.idle_generalCancel (hlist hplain)))
  have hnoticed := State.noticeRises_moves (before := s) hswitch
  unfold State.completeStop
  exact hnoticed.tail (.quiet (by rw [State.stopDone_inner, State.endCommit_inner]))

@[simp] theorem State.abortReport_gestures (u : Surface) : (s.abortReport u).gestures = s.gestures := by
  unfold State.abortReport
  split <;> simp

@[simp] theorem State.abortReport_motion (u : Surface) : (s.abortReport u).motion = s.motion := by
  unfold State.abortReport
  split <;> simp

@[simp] theorem State.abortReport_engine (u : Surface) : (s.abortReport u).engine = s.engine := by
  unfold State.abortReport
  split <;> simp

theorem State.windUp_moves (hop : s.engine.op = none) (h : held → s.motionHeld) : Moves held plain s s.windUp := by
  have hreports : Moves held plain s ((s.abortReport .pad).abortReport .panel).penForcedExit :=
    ((s.abortReport_moves .pad hop).trans (State.abortReport_moves _ .panel (by simp [hop]))).tail (.quiet (State.penForcedExit_inner _))
  exact (hreports.trans (State.generalCancel_moves _ fun hheld =>
    State.motionHeld_of_same (h hheld) (by simp) (by simp) (by simp))).tail
    (.quiet (State.setPart_inner _ _))

theorem State.idle_windUp (h : s.gestures.contexts.length = 6) : s.windUp.idle :=
  State.idle_of_contexts (congrArg Gestures.contexts (State.setPart_gestures _ _))
    (State.idle_generalCancel ((s.abortReport .pad).abortReport .panel).penForcedExit (by simpa using h))

/-- The values of a part that ABORT has wound down: engine, tracks and palm memory (R19, R63, R85). -/
def State.wound : State := s.abortEngine.abortTracks.abortStores

theorem State.windDown_inner : s.windDown.inner = s.wound.inner := by
  simp [State.windDown, State.wound]

@[simp] theorem State.windDown_gestures : s.windDown.gestures = s.gestures := by
  simp [State.windDown, State.abortStores, State.abortTracks, State.abortEngine]

@[simp] theorem State.windDown_motion : s.windDown.motion = s.motion := by
  simp [State.windDown, State.abortStores, State.abortTracks, State.abortEngine]

theorem State.takeAbort_moves (tag : Byte) (hpart : s.link.part ≠ .hold) (h : held → s.motionHeld)
    (hlist : plain → s.gestures.contexts.length = 6) : Moves held plain s.wound (s.takeAbort tag) := by
  have hmotion : held → s.windDown.motionHeld := fun hheld =>
    State.motionHeld_of_same (h hheld) (by simp) (by simp) (by simp)
  have hwound : Moves held plain s.wound s.windDown.windUp :=
    .head (.quiet s.windDown_inner) (s.windDown.windUp_moves (congrArg Inner.op s.windDown_inner) hmotion)
  have hall : Moves held plain s.wound s.abortAll :=
    (State.noticeRises_moves (hwound.trans (State.switchAtHold_moves _ fun hplain =>
      s.windDown.idle_windUp (by simpa using hlist hplain)))).tail (.quiet (State.endCommit_inner _))
  have hdone : s.takeAbort tag = s.abortAll.stopDone.done tag 0x07 [] := by
    unfold State.takeAbort
    split
    next hhold => exact absurd hhold hpart
    · rfl
    · rfl
  rw [hdone]
  exact hall.tail (.quiet (by rw [State.done_inner, State.stopDone_inner]))

/-! ## Commits and the watch list -/

theorem KindSet.frameSide_program (k : KindSet) : k.frameSide.program = false := rfl

theorem State.switchAtCommit_moves (hhold : plain → s.link.part = .hold → s.idle)
    (h : plain → ∀ c, s.tables.commit = some c → c.frameSide.program = false) :
    Moves held plain s s.switchAtCommit := by
  unfold State.switchAtCommit
  split
  next hpart => exact s.switchAtHold_moves fun hplain => hhold hplain hpart
  · dsimp only
    split
    · exact (s.switchFrameSide_moves fun hplain => .inr (h hplain)).tail (.quiet rfl)
    · exact .single (.quiet rfl)

theorem State.takeCommit_moves (tag : Byte) (hhold : plain → s.link.part = .hold → s.idle) :
    Moves held plain s (s.takeCommit tag) := by
  unfold State.takeCommit
  split
  · exact .of_quiet (s.busy_inner _ _)
  · split
    · exact .of_quiet (s.done_inner _ _ _)
    · split
      · exact .of_quiet (s.offerReply_inner _)
      · have haccept : Moves held plain s (s.acceptCommit tag).switchAtCommit :=
          .head (.quiet (s.acceptCommit_inner tag)) (State.switchAtCommit_moves _ hhold fun _ c hc => by
            cases hc
            exact KindSet.frameSide_program _)
        exact (State.noticeRises_moves haccept).tail (.quiet (State.endCommit_inner _))

theorem State.takeWatch_moves (tag template state : Byte) :
    Moves held plain s (s.takeWatch tag template state) := by
  unfold State.takeWatch
  dsimp only
  split
  · exact .of_quiet (s.refuse_inner _ _ _)
  · split
    · exact .of_quiet (s.done_inner _ _ _)
    · split
      next hroom =>
        refine .single (.watch _ (fun _ => ?_) (State.done_inner _ _ _ _))
        simpa [Config.watchCapacity] using hroom
      · exact .of_quiet (s.refuse_inner _ _ _)

theorem State.takeUnwatch_moves (tag template state : Byte) :
    Moves held plain s (s.takeUnwatch tag template state) :=
  .single (.watch _ (fun h => (List.length_erase_le).trans h) (State.done_inner _ _ _ _))

/-! ## Completions -/

/-- The state in which a live completion offers its CONTACT report: digest, forced releases, tracks, palm memory and
counters have taken hold (R16, R79, R88). -/
def State.liveSettled (u : Surface) (sn : Snapshot) (f : ReadyFrame) : State :=
  let r := liveWork sn u f
  let s1 := (slotChanges u r.before r.after).foldl (fun acc c => acc.forceRelease c.1 c.2.1 c.2.2) s
  let s2 := s1.handDigest (s.liveDigest u sn f r)
  { s2 with
    base := s2.base.set u (liveBase sn u r.extraction.boxes f.samples)
    tracks := liveTable s.tracks u sn r
    palm := palmAfter u (palmHold sn.tables.tune) s.now r.before r.after r.opening.hits s.palm
    pen := { s2.pen with vote := voteAfter sn u s2.pen.vote r.before r.after }
    blobOverflow := s2.blobOverflow.set u
      (if r.extraction.overflow then countUp (s.blobOverflow.get u) else s.blobOverflow.get u) }

/-- The CONTACT report of a live completion, offered when its contact mode asks for it (R61, R68). -/
def State.liveReport (u : Surface) (sn : Snapshot) (f : ReadyFrame) : State :=
  let r := liveWork sn u f
  if buildsReport (contactMode sn.tables.tune) (s.tracks.entries u)
      (liveChanged (slop sn.tables.tune) r.before r.after) then
    s.offerContact f.time { surface := u, cause := .frame f.frame, entries := s.tracks.entries u }
  else s

theorem State.completeLive_eq (u : Surface) (sn : Snapshot) (f : ReadyFrame) : s.completeLive u sn f =
    let t := (s.liveSettled u sn f).liveReport u sn f
    if antiTouch sn f.samples && (t.intake.get u).state == .live && !t.shut u then t.recapture u else t := rfl

theorem State.liveReport_moves (hop : s.engine.op = none) (u : Surface) (sn : Snapshot) (f : ReadyFrame) :
    Moves held plain s (s.liveReport u sn f) := by
  unfold State.liveReport
  dsimp only
  split
  · exact .single (.contact _ _ _ (by simp [hop]))
  · exact .refl

@[simp] theorem State.forceRelease_engine (n : Nat) (b e : Option Track) :
    (s.forceRelease n b e).engine = s.engine := by
  unfold State.forceRelease
  split <;> simp

@[simp] theorem State.liveSettled_engine (u : Surface) (sn : Snapshot) (f : ReadyFrame) :
    (s.liveSettled u sn f).engine = s.engine :=
  foldl_keeps _ State.engine (fun x _ => x.forceRelease_engine _ _ _) _ s

theorem State.completeLive_moves (hop : s.engine.op = none) (u : Surface) (sn : Snapshot) (f : ReadyFrame) :
    Moves held plain (s.liveSettled u sn f) (s.completeLive u sn f) := by
  have hreport := (s.liveSettled u sn f).liveReport_moves (held := held) (plain := plain)
    ((congrArg Engine.op (s.liveSettled_engine u sn f)).trans hop) u sn f
  rw [State.completeLive_eq]
  dsimp only
  split
  · exact hreport.tail (.quiet (State.recapture_inner _ u))
  · exact hreport

/-- A surface's tracks ended by a closing, with its digest (R62, R64). -/
def State.tracksClosed (u : Surface) (sn : Snapshot) (key : Time) : State :=
  let before := sn.tracks.slots.get u
  let events := before.zipIdx.filterMap fun (b, i) => cancelEvent (u.firstSlot + i) b
  let s1 := s.handDigest
    { joined := s.now, surface := u, kind := .closing, time := key, events := events, positions := [] }
  let slots := (before.zip (s.tracks.slots.get u)).map fun (b, c) => closedSlot b c
  { s1 with tracks := { s1.tracks with slots := s1.tracks.slots.set u slots } }

/-- Palm memory without a surface's entries (R85). -/
def State.palmCleared (u : Surface) : State := { s with palm := s.palm.filter fun e => e.surface != u }

/-- The state in which a closing offers its CONTACT report and its outcome is applied (R18, R62, R85). -/
def State.closeSettled (u : Surface) (sn : Snapshot) (key : Time) : State :=
  (if hasOpenTracks sn u then s.tracksClosed u sn key else s).palmCleared u

theorem State.closeTracks_eq (u : Surface) (sn : Snapshot) (key : Time) : s.closeTracks u sn key =
    let t := s.tracksClosed u sn key
    if buildsReport (contactMode sn.tables.tune) (t.tracks.entries u) false then
      t.offerContact key { surface := u, cause := .closing, entries := t.tracks.entries u }
    else t := rfl

theorem State.palmCleared_offerContact (u : Surface) (time : Time) (r : ContactReport) :
    (s.offerContact time r).palmCleared u = (s.palmCleared u).offerContact time r := by
  unfold State.offerContact State.palmCleared
  dsimp only
  split <;> rfl

theorem State.completeClosing_moves (hop : s.engine.op = none) (u : Surface) (sn : Snapshot) (key : Time) (out : ClosingOutcome) :
    Moves held plain (s.closeSettled u sn key) (s.completeClosing u sn key out) := by
  have hquiet (t : State) : Move held plain t ((t.clearAcquire u).applyOutcome u out) :=
    .quiet (by rw [State.applyOutcome_inner, State.clearAcquire_inner])
  suffices h : Moves held plain (s.closeSettled u sn key)
      ((if hasOpenTracks sn u then s.closeTracks u sn key else s).palmCleared u) from h.tail (hquiet _)
  unfold State.closeSettled
  split
  · rw [State.closeTracks_eq]
    dsimp only
    split
    · rw [State.palmCleared_offerContact]
      exact .single (.contact _ _ _ fun o ho => nomatch hop.symm.trans ho)
    · exact .refl
  · exact .refl

end

end Sys2Proof.Machine

/-! Every command as an opening followed by moves, and what follows for the waiting commands, the reset pin and the
operation in flight. -/

namespace Sys2Proof.Machine

/-- What a command does before its moves: it begins an operation, completes one, winds the part down, or none of
these. -/
inductive Opened (s : State) : State → Prop
  | same : Opened s s
  | begun {t : State} (o : Operation) (hop : s.engine.op = none) (htracks : o.snap.tracks = s.tracks)
      (h : t.inner = { s.inner with op := some o }) : Opened s t
  | dropped : Opened s (s.setOp none)
  | live (o : Operation) (f : ReadyFrame) (hop : s.engine.op = some o) (hwork : o.work = .frame f)
      (hlive : o.snap.state = .live) (hroom : s.gestures.digests.length < 4) :
      Opened s ((s.setOp none).liveSettled o.surface o.snap f)
  | closed (o : Operation) (key : Time) (out : ClosingOutcome) (hop : s.engine.op = some o)
      (hwork : o.work = .closing key out)
      (hroom : hasOpenTracks o.snap o.surface = true → s.gestures.digests.length < 4) :
      Opened s ((s.setOp none).closeSettled o.surface o.snap key)
  | wound : Opened s s.wound

/-- A command leads from one state to another by an opening and moves, or resets the part. -/
inductive Effect (held plain : Prop) (s t : State) : Prop
  | moves (a : State) (hopened : Opened s a) (hmoves : Moves held plain a t)
  | afterReset (cause : ResetCause) (h : t = State.afterReset cause s.pending)
  | atReset (cause : ResetCause) (h : t = State.atReset cause true s.pending)

/-- A management command leads by moves alone, winds the part down first, or resets it. -/
def WriteEffect (held plain : Prop) (s t : State) : Prop :=
  Moves held plain s t ∨ Moves held plain s.wound t ∨ t = State.afterReset .command s.pending

section
variable {held plain : Prop} {s t : State}

theorem Effect.of_moves (h : Moves held plain s t) : Effect held plain s t := .moves s .same h

theorem Effect.of_quiet (h : t.inner = s.inner) : Effect held plain s t := .of_moves (.of_quiet h)

theorem WriteEffect.effect (h : WriteEffect held plain (s.setLinkOut .zeros) t) : Effect held plain s t := by
  obtain hmoves | hwound | rfl := h
  · exact .of_moves (.head (.quiet (t := s.setLinkOut .zeros) rfl) hmoves)
  · exact .moves _ .wound (.head (.quiet (t := (s.setLinkOut .zeros).wound) rfl) hwound)
  · exact .afterReset _ rfl

theorem WriteEffect.of_quiet (h : t.inner = s.inner) : WriteEffect held plain s t := .inl (.of_quiet h)

theorem Effect.unlessHeld {f : State → State} (h : Effect held plain s (f s)) : Effect held plain s (s.unlessHeld f) := by
  obtain ⟨-, heq⟩ | ⟨-, heq⟩ := s.unlessHeld_cases f <;> rw [heq]
  · exact .of_moves .refl
  · exact h

theorem Effect.inWrite {f : State → State} (h : WriteEffect held plain (s.setLinkOut .zeros) (f (s.setLinkOut .zeros))) :
    Effect held plain s (s.inWrite f) := Effect.unlessHeld h.effect

theorem Effect.takeWrite {f : State → State} (hready : s.ready held plain)
    (h : ∀ r : State, r.ready held plain → WriteEffect held plain r (f r)) : Effect held plain s (s.takeWrite f) := by
  refine Effect.inWrite ?_
  split
  · exact h _ hready
  · exact .of_quiet (State.countDroppedWrite_inner _)

theorem State.takeAbort_effect (hready : s.ready held plain) (tag : Byte) :
    WriteEffect held plain s (s.takeAbort tag) := by
  obtain ⟨hheld, hplain⟩ := hready
  by_cases hpart : s.link.part = .hold
  · have hdone : s.takeAbort tag = s.done tag 0x07 [] := by simp only [State.takeAbort, hpart]
    exact .of_quiet (by rw [hdone, State.done_inner])
  · exact .inr (.inl (s.takeAbort_moves tag hpart (fun h => (hheld h).1) fun h => (hplain h).1))

theorem State.takeCommit_effect (hready : s.ready held plain) (tag : Byte) :
    WriteEffect held plain s (s.takeCommit tag) :=
  .inl (s.takeCommit_moves tag fun h => (hready.2 h).2.1)

theorem State.runMgmt_effect (hready : s.ready held plain) (m : Mgmt) : WriteEffect held plain s (s.runMgmt m) := by
  cases m with
  | abort tag => exact s.takeAbort_effect hready tag
  | reset tag => exact .inr (.inr rfl)
  | commit tag => exact s.takeCommit_effect hready tag
  | postureCode tag v => exact .inl (s.takePostureCode_moves tag v)
  | postureAngle tag v => exact .inl (s.takePostureAngle_moves tag v)
  | watch tag t st => exact .inl (s.takeWatch_moves tag t st)
  | unwatch tag t st => exact .inl (s.takeUnwatch_moves tag t st)
  | _ => exact .of_quiet (by simp [State.runMgmt, State.takePostureBadForm])

theorem State.takeRecord_effect (hready : s.ready held plain) (record : List Byte) :
    WriteEffect held plain s (s.takeRecord record) := by
  unfold State.takeRecord
  split
  · exact s.runMgmt_effect hready _
  · exact .of_quiet rfl

/-! ## The frame engine -/

theorem State.takeItem_effect (hop : s.engine.op = none) (w : WaitItem) : Effect held plain s (s.takeItem w) := by
  unfold State.takeItem
  dsimp only
  split
  next o hwork => exact .moves _ (.begun _ hop rfl rfl) .refl
  · split
    · exact .of_quiet rfl
    next f hready => exact .moves _ (.begun _ hop rfl rfl) .refl

theorem State.applyOperation_effect {o : Operation} (hop : s.engine.op = some o)
    (hroom : o.makesDigest = true → s.gestures.digests.length < 4) :
    ∃ a, Opened s a ∧ Moves held plain a ((s.setOp none).applyOperation o) := by
  unfold State.applyOperation
  split
  next key out hwork =>
    exact ⟨_, .closed o key out hop hwork fun hopen => hroom (by simpa [Operation.makesDigest, hwork] using hopen),
      State.completeClosing_moves _ rfl _ _ _ _⟩
  next f hwork =>
    split
    · exact ⟨_, .dropped, .of_quiet (State.completeAcquire_inner _ _ _ _)⟩
    next hlive =>
      exact ⟨_, .live o f hop hwork hlive (hroom (by simp [Operation.makesDigest, hwork, hlive])),
        State.completeLive_moves _ rfl _ _ _⟩
    · exact ⟨_, .dropped, .refl⟩
    · exact ⟨_, .dropped, .refl⟩

theorem State.completeOperation_effect (hready : s.ready held plain) {o : Operation} (hop : s.engine.op = some o)
    (hroom : o.makesDigest = true → s.gestures.digests.length < 4) :
    Effect held plain s (s.completeOperation o) := by
  obtain ⟨a, hopened, hmoves⟩ := State.applyOperation_effect (held := held) (plain := plain) hop hroom
  have hpen := Relation.ReflTransGen.tail hmoves (.quiet (State.outcomePen_inner _ o))
  have hswitch := hpen.trans (State.switchFrameSide_moves _ fun hplain => .inr fun c hc =>
    (hready.2 hplain).2.2 c (by simpa using hc))
  exact .moves a hopened ((State.noticeRises_moves hswitch).tail (.quiet (State.endCommit_inner _)))

/-! ## Every command -/

theorem exec_effect (hready : s.ready held plain) (i : Instr) : ∃ t, exec i s = .next t ∧ Effect held plain s t := by
  obtain ⟨hheld, hplain⟩ := id hready
  have hmotion : held → s.motionHeld := fun h => (hheld h).1
  cases i
  all_goals refine ⟨_, rfl, ?_⟩
  case load | discard | check | run | stop | recal | clear | postureBadForm | unknownCommand | queryCondition
      | queryTrackTable | queryContexts | queryPen | queryPosture | queryBaselineRow | queryTableRange
      | queryBadSelector =>
    exact .takeWrite hready fun r _ => .of_quiet (by simp [State.takePostureBadForm])
  case commit => exact .takeWrite hready fun r hr => r.takeCommit_effect hr _
  case abort => exact .takeWrite hready fun r hr => r.takeAbort_effect hr _
  case reset => exact .takeWrite hready fun r _ => .inr (.inr rfl)
  case postureCode => exact .takeWrite hready fun r _ => .inl (r.takePostureCode_moves _ _)
  case postureAngle => exact .takeWrite hready fun r _ => .inl (r.takePostureAngle_moves _ _)
  case watch => exact .takeWrite hready fun r _ => .inl (r.takeWatch_moves _ _ _)
  case unwatch => exact .takeWrite hready fun r _ => .inl (r.takeUnwatch_moves _ _ _)
  case writeTransfer =>
    split
    · exact .takeWrite hready fun r hr => r.takeRecord_effect hr _
    · exact .inWrite (.of_quiet (by simp))
  case frameOperationBegin =>
    split
    · exact .of_moves .refl
    next hidle =>
      split
      · exact State.takeItem_effect (Option.not_isSome_iff_eq_none.mp hidle) _
      · exact .of_moves .refl
  case frameOperationComplete =>
    split
    · exact .of_moves .refl
    next o hop =>
      split
      · exact .of_moves .refl
      · split
        · exact .of_moves (.single (.working o { o with held := true } hop ⟨rfl, rfl, .inl rfl⟩ rfl))
        next hfull =>
          refine State.completeOperation_effect hready hop fun hdigest => ?_
          simpa [hdigest, State.digestsFull, Config.digestCapacity] using hfull
  case heldOperationComplete =>
    split
    · exact .of_moves .refl
    next o hop =>
      split
      next hroom =>
        refine State.completeOperation_effect hready hop fun _ => ?_
        simp only [Bool.and_eq_true, Bool.not_eq_true', State.digestsFull, Config.digestCapacity,
          decide_eq_false_iff_not] at hroom
        omega
      · exact .of_moves .refl
  case digestTaken =>
    split
    · exact .of_moves .refl
    next d _ _ =>
      split
      · have hhandled := ((s.setInHand true).handleDigest_moves (held := held) d hmotion).moves (plain := plain)
        exact .of_moves (State.noticeRises_moves (.head (.quiet (s.setInHand_inner true)) hhandled))
      · exact .of_moves .refl
  case penInkTaken =>
    split
    · exact .of_moves .refl
    next p _ =>
      split
      · exact .of_moves (State.noticeRises_moves (s.handlePenInk_moves p hmotion).moves)
      · exact .of_moves .refl
  case timerDeadlineReached k =>
    split
    · exact .of_moves .refl
    next timer _ =>
      split
      · exact .of_moves (s.onContext_moves k (fun c => { c with timer := some { timer with waiting := some timer.deadline } })
          fun c => ⟨rfl, rfl, rfl⟩).moves
      · exact .of_moves .refl
  case timerExpiryTaken k =>
    split
    · exact .of_moves .refl
    next timer _ =>
      split
      · have hgone : EngineMoves held s (s.onContext k fun c => { c with timer := none }) :=
          s.onContext_moves k _ fun c => ⟨rfl, rfl, rfl⟩
        have hdelivered : EngineMoves held s _ := hgone.trans (State.deliver_moves _ k (plainEvent .timer timer.deadline) fun h =>
          hgone.motionHeld hmotion h)
        exact .of_moves (State.noticeRises_moves hdelivered.moves)
      · exact .of_moves .refl
  case digestHandlingEnd =>
    split
    · exact .of_moves (.single .dropInHand)
    · exact .of_moves .refl
  case programSwitch =>
    split
    · have hcancel := (s.cancelContexts_moves hmotion).moves (plain := plain)
      have hswitch := hcancel.trans (State.installProgram_moves _ fun h => s.idle_cancelContexts (hplain h).1)
      exact .of_moves ((State.noticeRises_moves hswitch).tail (.quiet (State.endCommit_inner _)))
    · exact .of_moves .refl
  case stopComplete =>
    split
    · exact .of_moves (s.completeStop_moves hmotion fun h => (hplain h).1)
    · exact .of_moves .refl
  case palmMemoryExpiry i =>
    split
    · split
      · exact .of_moves (.single (.expire i rfl))
      · exact .of_moves .refl
    · exact .of_moves .refl
  case penGuardExpiry =>
    split
    · exact .of_quiet rfl
    · exact .of_moves .refl
  case frameTimeout =>
    split
    · exact .of_quiet (by simp)
    · exact .of_moves .refl
  case frameStart | rowRecord | frameEnd | readEndedEarly | badTransferKind =>
    exact .unlessHeld (.of_quiet (by simp))
  case penSample =>
    exact .unlessHeld (.of_quiet (by simp [apply_ite State.inner]))
  case readTransfer => exact .unlessHeld (.of_moves (s.takeRead_moves _ fun h => (hheld h).2))
  case unknownScanRecord => exact .of_moves .refl
  case powerOn =>
    split
    · exact .atReset _ rfl
    · exact .afterReset _ rfl
  case resetPinAssert =>
    split
    · exact .of_moves .refl
    · exact .atReset _ rfl
  case resetPinRelease =>
    split
    · exact .afterReset _ rfl
    · exact .of_moves .refl

theorem step_effect (hready : s.ready held plain) : ∃ t a, step s = .next t ∧ Effect held plain a t ∧
    ∃ rest, a = { s with pending := rest } := by
  unfold step
  split
  · refine ⟨_, s, rfl, .of_quiet ?_, s.pending, rfl⟩
    unfold State.tick
    split <;> rfl
  next i rest _ =>
    obtain ⟨t, heq, heffect⟩ := exec_effect (s := { s with pending := rest }) hready i
    exact ⟨t, _, heq, heffect, rest, rfl⟩

end

end Sys2Proof.Machine

/-! The waiting commands, the reset pin and the operation in flight through every command: O2, O5, O19. -/

namespace Sys2Proof.Machine

section
variable {held plain : Prop} {s t : State}

/-! ## The waiting commands and the reset pin -/

theorem Move.pending_pinHeld (h : Move held plain s t) : t.pending = s.pending ∧ t.pinHeld = s.pinHeld := by
  have hinner {l : Inner} (h : t.inner = l) : t.pending = l.pending ∧ t.pinHeld = l.pinHeld :=
    ⟨congrArg Inner.pending h, congrArg Inner.pinHeld h⟩
  cases h with
  | engine hmove =>
    obtain ⟨hpending, -, -, hpin, -⟩ := hmove.keeps
    exact ⟨hpending, hpin⟩
  | contact => simp
  | unsent => simp
  | dropInHand => exact ⟨rfl, rfl⟩
  | quiet h | shed _ h | working _ _ _ _ h | expire _ h | watch _ _ h | store _ h => exact hinner h

theorem Moves.pending_pinHeld (h : Moves held plain s t) : t.pending = s.pending ∧ t.pinHeld = s.pinHeld :=
  h.keep (P := fun x => x.pending = s.pending ∧ x.pinHeld = s.pinHeld)
    (fun _ _ hmove ⟨hpending, hpin⟩ =>
      ⟨hmove.pending_pinHeld.1.trans hpending, hmove.pending_pinHeld.2.trans hpin⟩) ⟨rfl, rfl⟩

@[simp] theorem State.forceRelease_pending (s : State) (n : Nat) (b e : Option Track) :
    (s.forceRelease n b e).pending = s.pending := by
  unfold State.forceRelease
  split <;> simp

@[simp] theorem State.forceRelease_pinHeld (s : State) (n : Nat) (b e : Option Track) :
    (s.forceRelease n b e).pinHeld = s.pinHeld := by
  unfold State.forceRelease
  split <;> simp

theorem Opened.pending_pinHeld (h : Opened s t) : t.pending = s.pending ∧ t.pinHeld = s.pinHeld := by
  cases h with
  | same => exact ⟨rfl, rfl⟩
  | begun o hop htracks h => exact ⟨congrArg Inner.pending h, congrArg Inner.pinHeld h⟩
  | dropped => exact ⟨rfl, rfl⟩
  | live o f =>
    exact ⟨foldl_keeps _ State.pending (fun x _ => x.forceRelease_pending _ _ _) _ (s.setOp none),
      foldl_keeps _ State.pinHeld (fun x _ => x.forceRelease_pinHeld _ _ _) _ (s.setOp none)⟩
  | closed o key out =>
    unfold State.closeSettled
    split
    · exact ⟨rfl, rfl⟩
    · exact ⟨rfl, rfl⟩
  | wound => exact ⟨rfl, rfl⟩

theorem Effect.pending (h : Effect held plain s t) : t.pending = s.pending := by
  cases h with
  | moves a hopened hmoves => exact hmoves.pending_pinHeld.1.trans hopened.pending_pinHeld.1
  | afterReset cause h => rw [h]; rfl
  | atReset cause h => rw [h]; rfl

/-- A part whose pin is held after a command held it before, or has its reset values. -/
theorem Effect.pinHeld (h : Effect held plain s t) (hpin : t.pinHeld = true) :
    s.pinHeld = true ∨ ∃ cause, t = State.atReset cause true s.pending := by
  cases h with
  | moves a hopened hmoves =>
    exact .inl (by rw [← hpin, hmoves.pending_pinHeld.2, hopened.pending_pinHeld.2])
  | afterReset cause h => rw [h] at hpin; cases hpin
  | atReset cause h => exact .inr ⟨cause, h⟩

theorem State.ready_false (s : State) : s.ready False False := ⟨nofun, nofun⟩

theorem exec_effect_false (i : Instr) (s : State) : ∃ t, exec i s = .next t ∧ Effect False False s t :=
  exec_effect s.ready_false i

end

/-- Settles O2: an opening and moves leave the waiting commands as they are. -/
theorem everyCommandCompletes : Obligations.EveryCommandCompletes := by
  intro i s
  obtain ⟨t, heq, heffect⟩ := exec_effect_false i s
  exact ⟨t, heq, heffect.pending⟩

/-! ## The reset pin held -/

/-- With its reset values and the pin held the part answers no command but a power-on and the pin's release. -/
theorem exec_atReset_held (c : ResetCause) (q : List Instr) (i : Instr) (hpower : i ≠ .powerOn)
    (hrelease : i ≠ .resetPinRelease) : exec i (State.atReset c true q) = .next (State.atReset c true q) := by
  cases i
  case powerOn => exact absurd rfl hpower
  case resetPinRelease => exact absurd rfl hrelease
  case writeTransfer bytes =>
    show Host.Outcome.next _ = _
    cases goodRecord bytes <;> rfl
  case timerDeadlineReached k | timerExpiryTaken k =>
    have hfree : (State.atReset c true q).context k = none :=
      (State.context_eq _ k).trans (by simp [State.atReset, Gestures.reset, List.getElem?_replicate]; split <;> rfl)
    simp only [exec, execTimerDeadlineReached, execTimerExpiryTaken, hfree, Option.bind_none]
  case frameTimeout u => cases u <;> rfl
  all_goals rfl

theorem step_heldAtReset {s t : State} (h : s.heldAtReset) (hstep : step s = .next t) : t.heldAtReset := by
  intro hpin
  unfold step at hstep
  split at hstep
  next hpending =>
    cases hstep
    have htick : s.tick = if s.pinHeld then s else { s with now := s.now + 1 } := rfl
    by_cases hheld : s.pinHeld = true
    · rw [htick, if_pos hheld]
      exact h hheld
    · rw [htick, if_neg hheld] at hpin
      exact absurd hpin hheld
  next i rest hpending =>
    obtain ⟨t', heq, heffect⟩ := exec_effect_false i { s with pending := rest }
    obtain rfl : t' = t := Host.Outcome.next.inj (heq.symm.trans hstep)
    obtain hheld | ⟨cause, hreset⟩ := heffect.pinHeld hpin
    · obtain ⟨c, hs⟩ := h hheld
      have hrest : { s with pending := rest } = State.atReset c true rest := by rw [hs]; rfl
      rw [hrest] at hstep
      by_cases hpower : i = .powerOn
      · subst hpower
        cases hstep
        exact ⟨.power, rfl⟩
      · by_cases hrelease : i = .resetPinRelease
        · subst hrelease
          cases hstep
          cases hpin
        · rw [exec_atReset_held c rest i hpower hrelease] at hstep
          cases hstep
          exact ⟨c, rfl⟩
    · exact ⟨cause, by rw [heffect.pending, hreset]⟩

/-- Settles O5. -/
theorem heldPinHoldsThePart : Obligations.HeldPinHoldsThePart :=
  ⟨fun _ _ h hstep => step_heldAtReset h hstep,
    fun c q i hpower hrelease => ⟨exec_atReset_held c q i hpower hrelease, rfl⟩⟩

/-! ## The operation in flight -/

section
variable {held plain : Prop} {s t : State}

/-- The operation in flight goes on, as it was taken, or is over. -/
def State.opContinues (s t : State) : Prop :=
  t.engine.op = none ∨ ∃ o o', s.engine.op = some o ∧ t.engine.op = some o' ∧ o.continues o'

theorem State.opContinues_of_eq (h : t.engine.op = s.engine.op) : s.opContinues t := by
  cases hop : s.engine.op with
  | none => exact .inl (h.trans hop)
  | some o => exact .inr ⟨o, o, hop, h.trans hop, .refl o⟩

theorem State.opContinues.trans {u : State} (hst : s.opContinues t) (htu : t.opContinues u) : s.opContinues u := by
  obtain hnone | ⟨o', o'', ho', ho'', hon'⟩ := htu
  · exact .inl hnone
  · obtain hnone | ⟨o, x, ho, hx, hon⟩ := hst
    · rw [hnone] at ho'
      cases ho'
    · obtain rfl : x = o' := Option.some.inj (hx.symm.trans ho')
      exact .inr ⟨o, o'', ho, ho'', hon.trans hon'⟩

theorem Move.opContinues (h : Move held plain s t) : s.opContinues t := by
  have hinner {l : Inner} (h : t.inner = l) (hl : l.op = s.engine.op) : s.opContinues t :=
    State.opContinues_of_eq ((congrArg Inner.op h).trans hl)
  cases h with
  | engine hmove =>
    obtain ⟨-, -, -, -, -, -, hengine, -⟩ := hmove.keeps
    exact State.opContinues_of_eq (congrArg Engine.op hengine)
  | contact => exact State.opContinues_of_eq (by simp)
  | unsent => exact State.opContinues_of_eq (by simp)
  | dropInHand => exact State.opContinues_of_eq rfl
  | working o o' hop hon h => exact .inr ⟨o, o', hop, congrArg Inner.op h, hon⟩
  | quiet h | shed _ h | expire _ h | watch _ _ h | store _ h => exact hinner h rfl

theorem Moves.opContinues (h : Moves held plain s t) : s.opContinues t :=
  h.keep (P := s.opContinues) (fun _ _ hmove hs => hs.trans hmove.opContinues) (State.opContinues_of_eq rfl)

@[simp] theorem State.closeSettled_engine (s : State) (u : Surface) (sn : Snapshot) (key : Time) :
    (s.closeSettled u sn key).engine = s.engine := by
  unfold State.closeSettled
  split <;> rfl

theorem Opened.opContinues (h : Opened s t) (hop : s.engine.op ≠ none) : s.opContinues t := by
  cases h with
  | same => exact State.opContinues_of_eq rfl
  | begun o hidle => exact absurd hidle hop
  | dropped => exact .inl rfl
  | live o f => exact .inl (by simp)
  | closed o key out => exact .inl (by simp)
  | wound => exact .inl rfl

theorem Effect.opContinues (h : Effect held plain s t) (hop : s.engine.op ≠ none) : s.opContinues t := by
  cases h with
  | moves a hopened hmoves => exact (hopened.opContinues hop).trans hmoves.opContinues
  | afterReset cause h => rw [h]; exact .inl rfl
  | atReset cause h => rw [h]; exact .inl rfl

end

/-- Settles O19: every move leaves the operation in flight as it was taken, every completion ends it. -/
theorem snapshotsStayAsTaken : Obligations.SnapshotsStayAsTaken := by
  intro c s t o hop hexec
  obtain ⟨t', heq, heffect⟩ := exec_effect_false c s
  obtain rfl : t' = t := Host.Outcome.next.inj (heq.symm.trans hexec)
  obtain hnone | ⟨x, o', hx, ho', hsnap, hsurface, hwork⟩ := heffect.opContinues (by simp [hop])
  · exact .inl hnone
  · obtain rfl : x = o := Option.some.inj (hx.symm.trans hop)
    exact .inr ⟨o', ho', hsnap, hsurface, hwork⟩

end Sys2Proof.Machine

/-! Admission to the report queue (R145, R154, R176 to R178): which record a GESTURE, a PEN report or a POINTER
record replaces. -/

namespace Sys2Proof.Machine

/-! ## Records that may go -/

theorem Record.evictable_iff (r : Record) : r.evictable = true ↔ r.mayGo := by
  unfold Record.evictable Record.mayGo
  cases hp : r.payload <;> simp [ContactReport.allOngoing]

theorem evictOldest_append {front : List Record} (h : ∀ x ∈ front, ¬ x.mayGo) (l : List Record) :
    evictOldest (front ++ l) = (evictOldest l).map (front ++ ·) := by
  induction front with
  | nil => simp
  | cons x front ih =>
    obtain ⟨hx, hfront⟩ := List.forall_mem_cons.mp h
    have hstay : ¬ x.evictable = true := fun hgo => hx (x.evictable_iff.mp hgo)
    rw [List.cons_append, evictOldest, if_neg hstay, ih hfront, Option.map_map]
    rfl

theorem evictOldest_of_first {a b : List Record} {r : Record} (hr : r.mayGo) (ha : ∀ x ∈ a, ¬ x.mayGo) :
    evictOldest (a ++ r :: b) = some (a ++ b) := by
  rw [evictOldest_append ha, evictOldest, if_pos (r.evictable_iff.mpr hr)]
  rfl

theorem evictOldest_eq_none {q : List Record} (h : ∀ r ∈ q, ¬ r.mayGo) : evictOldest q = none := by
  simpa [evictOldest] using evictOldest_append h []

/-! ## PEN records -/

theorem replaceHover_of_tail {q : List Record} {time : Time} {old : PenReport} (hold : old.shown = .hover) (now : Time)
    (r : PenReport) : replaceHover (q ++ [⟨time, .pen old, false⟩]) now r =
      some (q ++ [⟨now, .pen { r with recovered := r.recovered || old.recovered }, false⟩]) := by
  simp [replaceHover, hold]

theorem replaceHover_eq_none {q : List Record} {now : Time} {r : PenReport}
    (h : ∀ old, ¬ ∃ front time, q = front ++ [⟨time, .pen old, false⟩] ∧ old.shown = .hover) :
    replaceHover q now r = none := by
  cases hp : replaceHover q now r with
  | none => rfl
  | some p =>
    obtain ⟨front, ⟨time, payload, begun⟩, was, rfl, rfl, rfl, hhover, -⟩ := replaceHover_spec hp
    exact absurd ⟨front, time, rfl, hhover⟩ (h was)

/-! ## POINTER records -/

theorem Record.openPointer_eq_some {r : Record} {m : Motion} :
    r.openPointer = some m ↔ r.begun = false ∧ r.payload = .pointer m := by
  unfold Record.openPointer
  cases r.begun <;> cases r.payload <;> simp

theorem Record.openPointer_eq_none {r : Record} : r.openPointer = none ↔ ¬ r.maySoak := by
  simp only [Option.eq_none_iff_forall_ne_some, ne_eq, Record.openPointer_eq_some, Record.maySoak, not_and,
    not_exists]
  exact ⟨fun h hbegun m => h m hbegun, fun h m hbegun => h hbegun m⟩

theorem absorbNewest_append {front : List Record} (h : ∀ x ∈ front, ¬ x.maySoak) (time : Time) (m : Motion)
    (l : List Record) : absorbNewest time m (front ++ l) = (absorbNewest time m l).map (front ++ ·) := by
  induction front with
  | nil => simp
  | cons x front ih =>
    obtain ⟨hx, hfront⟩ := List.forall_mem_cons.mp h
    have hclosed : x.openPointer = none := Record.openPointer_eq_none.mpr hx
    simp only [List.cons_append, absorbNewest, hclosed, ih hfront, Option.map_map]
    rfl

/-- The newest POINTER record that is not begun absorbs a motion, unless both carry the click mark (R154). -/
theorem absorbPointer_of_newest {a b : List Record} {r : Record} {old : Motion} (hr : r.begun = false)
    (hold : r.payload = .pointer old) (hb : ∀ x ∈ b, ¬ x.maySoak) (time : Time) (m : Motion) :
    absorbPointer time m (a ++ r :: b) = if old.click && m.click then none
      else some (a ++ ⟨time, .pointer (old.join m), false⟩ :: b) := by
  have hopen : r.openPointer = some old := Record.openPointer_eq_some.mpr ⟨hr, hold⟩
  have hback : ∀ x ∈ b.reverse, ¬ x.maySoak := fun x hx => hb x (List.mem_reverse.mp hx)
  rw [absorbPointer, List.reverse_append, List.reverse_cons, List.append_assoc, absorbNewest_append hback]
  simp only [List.singleton_append, absorbNewest, hopen]
  split <;> simp

theorem absorbPointer_eq_none {q : List Record} (h : ∀ x ∈ q, ¬ x.maySoak) (time : Time) (m : Motion) :
    absorbPointer time m q = none := by
  have hback : ∀ x ∈ q.reverse, ¬ x.maySoak := fun x hx => h x (List.mem_reverse.mp hx)
  have hnone := absorbNewest_append hback time m []
  rw [List.append_nil] at hnone
  simp [absorbPointer, hnone, absorbNewest]

/-- A queue holds no POINTER record that may take in a motion, or a newest one. -/
theorem maySoak_cases (q : List Record) : (∀ x ∈ q, ¬ x.maySoak) ∨
    ∃ a r b old, q = a ++ r :: b ∧ r.begun = false ∧ r.payload = .pointer old ∧ ∀ x ∈ b, ¬ x.maySoak := by
  induction q using List.reverseRecOn with
  | nil => simp
  | append_singleton q r ih =>
    by_cases hr : r.maySoak
    · obtain ⟨hbegun, old, hold⟩ := hr
      exact .inr ⟨q, r, [], old, rfl, hbegun, hold, by simp⟩
    · obtain hnone | ⟨a, x, b, old, rfl, hbegun, hold, hb⟩ := ih
      · exact .inl (by simpa [or_imp, forall_and] using ⟨hnone, hr⟩)
      · refine .inr ⟨a, x, b ++ [r], old, by simp, hbegun, hold, ?_⟩
        simpa [or_imp, forall_and] using ⟨hb, hr⟩

theorem Motion.join_eq (old new : Motion) : old.join new = joinedMotion old new := rfl

/-- A queue that absorbs a motion differs in the record that takes it in. -/
theorem absorbPointer_spec {time : Time} {m : Motion} {q p : List Record} (h : absorbPointer time m q = some p) :
    ∃ a r b old, q = a ++ r :: b ∧ r.begun = false ∧ r.payload = .pointer old ∧ (∀ x ∈ b, ¬ x.maySoak) ∧
      ¬ (old.click = true ∧ m.click = true) ∧ p = a ++ ⟨time, .pointer (old.join m), false⟩ :: b := by
  obtain hnone | ⟨a, r, b, old, rfl, hbegun, hold, hb⟩ := maySoak_cases q
  · rw [absorbPointer_eq_none hnone] at h
    cases h
  · rw [absorbPointer_of_newest hbegun hold hb] at h
    split at h
    · cases h
    next hclick => exact ⟨a, r, b, old, rfl, hbegun, hold, hb, by simpa using hclick, (Option.some.inj h).symm⟩

/-! ## Each offer -/

theorem hasRoom_eq_false_iff (q : List Record) :
    hasRoom q = false ↔ ¬ (ordinaryCount q < 28 ∧ q.length < 32) := by
  rw [← hasRoom_iff, Bool.not_eq_true]

section
variable (s : State)

theorem State.offerSnapshot_eq (time : Time) (r : SnapshotReport) : s.offerSnapshot time r =
    if ordinaryCount s.queue < 28 ∧ s.queue.length < 32 then s.enqueue time (.snapshot r) else s.lose := by
  unfold State.offerSnapshot
  exact if_congr (hasRoom_iff _) rfl rfl

theorem State.offerGesture_eq (time : Time) (g : GestureReport) : s.offerGesture time g =
    if ordinaryCount s.queue < 28 ∧ s.queue.length < 32 then s.enqueue time (.gesture g)
    else match evictOldest s.queue with
      | some q => { s with queue := q }.enqueue time (.gesture g)
      | none => s.lose := by
  unfold State.offerGesture
  exact if_congr (hasRoom_iff _) rfl rfl

theorem State.offerPen_of_hover {r : PenReport} (h : r.shown = .hover) : s.offerPen r =
    match replaceHover s.queue s.now r with
    | some q => { s with queue := q }
    | none => if hasRoom s.queue then s.enqueue s.now (.pen r) else s := by
  unfold State.offerPen
  rw [h] <;> rfl

theorem State.offerPen_of_other {r : PenReport} (h : r.shown ≠ .hover) : s.offerPen r =
    if hasRoom s.queue then s.enqueue s.now (.pen r) else s.lose := by
  unfold State.offerPen
  split
  next hhover => exact absurd hhover h
  · rfl
  · rfl

/-- A POINTER record is absorbed, admitted or held as unsent motion (R154). -/
theorem State.offerPointer_admits (time : Time) (m : Motion) :
    (∀ a r b old, s.queue = a ++ r :: b → r.begun = false → r.payload = .pointer old → (∀ x ∈ b, ¬ x.maySoak) →
      ¬ (old.click = true ∧ (s.motion.takeIn m).click = true) →
      s.offerPointer time m = { s.setUnsent none with queue :=
        a ++ ⟨time, .pointer (joinedMotion old (s.motion.takeIn m)), false⟩ :: b }) ∧
    ((∀ old, ¬ ∃ a r b, s.queue = a ++ r :: b ∧ r.begun = false ∧ r.payload = .pointer old ∧
        (∀ x ∈ b, ¬ x.maySoak) ∧ ¬ (old.click = true ∧ (s.motion.takeIn m).click = true)) →
      (ordinaryCount s.queue < 28 ∧ s.queue.length < 32 → s.offerPointer time m =
        { s.setUnsent none with queue := s.queue ++ [⟨time, .pointer (s.motion.takeIn m), false⟩] }) ∧
      (¬ (ordinaryCount s.queue < 28 ∧ s.queue.length < 32) →
        s.offerPointer time m = s.setUnsent (some (s.motion.takeIn m)))) := by
  refine ⟨fun a r b old hq hbegun hold hb hclick => ?_, fun hno => ?_⟩
  · have habsorb := absorbPointer_of_newest (a := a) hbegun hold hb time (s.motion.takeIn m)
    rw [← hq, if_neg (by simpa using hclick)] at habsorb
    simp only [State.offerPointer, State.setUnsent_queue, habsorb]
    rfl
  · have habsorb : absorbPointer time (s.motion.takeIn m) s.queue = none := by
      cases hp : absorbPointer time (s.motion.takeIn m) s.queue with
      | none => rfl
      | some p =>
        obtain ⟨a, r, b, old, hq, hbegun, hold, hb, hclick, -⟩ := absorbPointer_spec hp
        exact absurd ⟨a, r, b, hq, hbegun, hold, hb, hclick⟩ (hno old)
    simp only [State.offerPointer, State.setUnsent_queue, habsorb]
    exact ⟨fun hroom => if_pos ((hasRoom_iff _).mpr hroom), fun hroom => if_neg fun h => hroom ((hasRoom_iff _).mp h)⟩

end

/-- Settles O45, from what eviction, replacement and absorption do to a queue. -/
theorem admissionsChangeTheQueue : Obligations.AdmissionsChangeTheQueue := by
  refine ⟨fun s time r => ⟨fun hord hlen => ?_, fun hfull => ?_⟩, fun s time g => ?_, fun s r => ?_,
    fun s time m => ?_, fun s => ⟨fun hnone => ?_, fun m hm => ?_⟩⟩
  · rw [s.offerSnapshot_eq, if_pos ⟨hord, hlen⟩]
    rfl
  · rw [s.offerSnapshot_eq, if_neg (by omega)]
    rfl
  · dsimp only
    rw [s.offerGesture_eq]
    refine ⟨fun hroom => ?_, fun a r b hroom hq hr ha => ?_, fun hroom hnone => ?_⟩
    · rw [if_pos hroom]
      rfl
    · rw [if_neg hroom, hq, evictOldest_of_first hr ha]
      rfl
    · rw [if_neg hroom, evictOldest_eq_none hnone]
      rfl
  · dsimp only
    refine ⟨fun q time old hshown hq hold => ?_, fun hshown hno => ?_, fun hshown => ?_⟩
    · rw [s.offerPen_of_hover hshown, hq, replaceHover_of_tail hold]
    · rw [s.offerPen_of_hover hshown, replaceHover_eq_none hno]
      refine ⟨fun hroom => ?_, fun hroom => ?_⟩
      · exact if_pos ((hasRoom_iff _).mpr hroom)
      · exact if_neg fun h => hroom ((hasRoom_iff _).mp h)
    · rw [s.offerPen_of_other hshown]
      refine ⟨fun hroom => ?_, fun hroom => ?_⟩
      · exact if_pos ((hasRoom_iff _).mpr hroom)
      · exact if_neg fun h => hroom ((hasRoom_iff _).mp h)
  · exact s.offerPointer_admits time m
  · simp only [State.offerUnsent, hnone]
  · simp only [State.offerUnsent, hm]
    rfl

end Sys2Proof.Machine

/-! The pointer, the buttons and the counts of motion through every step: O59 (R147 to R155). -/

namespace Sys2Proof.Machine

section
variable {held plain : Prop} {s t : State}

/-! ## Who holds the pointer -/

theorem State.motionHeld_of_inner (h : s.motionHeld) (hcontexts : t.inner.contexts = s.inner.contexts)
    (hmotion : t.inner.motion = s.inner.motion) : t.motionHeld :=
  State.motionHeld_of_same h hcontexts (congrArg MotionUnit.pointer hmotion) (congrArg MotionUnit.buttons hmotion)

theorem Move.motionHeld (hheld : held) (hmove : Move held plain s t) (h : s.motionHeld) : t.motionHeld := by
  have hinner {l : Inner} (heq : t.inner = l) (hcontexts : l.contexts = s.gestures.contexts)
      (hmotion : l.motion = s.motion) : t.motionHeld :=
    State.motionHeld_of_inner h ((congrArg Inner.contexts heq).trans hcontexts)
      ((congrArg Inner.motion heq).trans hmotion)
  cases hmove with
  | engine hmove => exact hmove.motionHeld hheld h
  | contact => exact State.motionHeld_of_same h (by simp) (by simp) (by simp)
  | unsent =>
    unfold State.offerUnsent
    split
    · exact h
    · exact State.motionHeld_of_same h (by simp) (by simp) (by simp)
  | dropInHand => exact State.motionHeld_of_same h rfl rfl rfl
  | quiet heq | shed _ heq | working _ _ _ _ heq | expire _ heq | watch _ _ heq | store _ heq =>
    exact hinner heq rfl rfl

theorem State.motionHeld_forceRelease (h : s.motionHeld) (n : Nat) (b e : Option Track) :
    (s.forceRelease n b e).motionHeld := by
  unfold State.forceRelease
  split
  · exact State.motionHeld_dropClaim h _ _
  · exact h

theorem State.motionHeld_liveSettled (h : s.motionHeld) (u : Surface) (sn : Snapshot) (f : ReadyFrame) :
    (s.liveSettled u sn f).motionHeld := by
  have hreleased := foldl_invariant State.motionHeld _
    (fun x (c : Nat × Option Track × Option Track) hx => State.motionHeld_forceRelease hx c.1 c.2.1 c.2.2)
    (slotChanges u (liveWork sn u f).before (liveWork sn u f).after) s h
  exact State.motionHeld_of_same hreleased rfl rfl rfl

theorem Opened.motionHeld (hopened : Opened s t) (h : s.motionHeld) : t.motionHeld := by
  cases hopened with
  | same => exact h
  | begun o hop htracks heq =>
    exact State.motionHeld_of_inner h ((congrArg Inner.contexts heq).trans rfl) ((congrArg Inner.motion heq).trans rfl)
  | dropped => exact h
  | live o f => exact State.motionHeld_liveSettled (s := s.setOp none) h _ _ _
  | closed o key out =>
    unfold State.closeSettled
    split
    · exact State.motionHeld_of_same h rfl rfl rfl
    · exact State.motionHeld_of_same h rfl rfl rfl
  | wound => exact State.motionHeld_of_same h rfl rfl rfl

theorem State.motionHeld_atReset (cause : ResetCause) (b : Bool) (q : List Instr) :
    (State.atReset cause b q).motionHeld := by
  refine ⟨nofun, fun b hb c hc => ?_⟩
  simp only [State.atReset, MotionUnit.reset, List.mem_cons, List.not_mem_nil, or_false, or_self] at hb
  rw [hb] at hc
  cases hc

theorem Effect.motionHeld (hheld : held) (heffect : Effect held plain s t) (h : s.motionHeld) : t.motionHeld := by
  cases heffect with
  | moves a hopened hmoves =>
    exact hmoves.keep (fun _ _ hmove => hmove.motionHeld hheld) (hopened.motionHeld h)
  | afterReset cause heq =>
    rw [heq]
    exact State.motionHeld_of_same (State.motionHeld_atReset cause false s.pending) rfl rfl rfl
  | atReset cause heq => rw [heq]; exact State.motionHeld_atReset cause true _

/-! ## Counts and residues -/

/-- The residues, the unsent motion and the POINTER records' motions keep their ranges. -/
def Inner.motionWithin (l : Inner) : Prop :=
  l.motion.residueX.natAbs ≤ 1023 ∧ l.motion.residueY.natAbs ≤ 1023 ∧
    (∀ m, l.motion.unsent = some m → m.within) ∧ ∀ m ∈ l.pointers, m.within

theorem State.motionWithin_iff : s.motionWithin ↔ s.inner.motionWithin := by
  have hpointers : (∀ r ∈ s.queue, ∀ m, r.payload = .pointer m → m.within) ↔ ∀ m ∈ pointersIn s.queue, m.within :=
    ⟨fun h m hm => by
      obtain ⟨r, hr, hpayload⟩ := mem_pointersIn.mp hm
      exact h r hr m hpayload,
    fun h r hr m hpayload => h m (mem_pointersIn.mpr ⟨r, hr, hpayload⟩)⟩
  rw [State.motionWithin, hpointers]
  rfl

/-- The residues and the unsent motion are as they were and no POINTER record joined. -/
theorem State.motionWithin_of_less (h : s.motionWithin) (hmotion : t.motion = s.motion)
    (hpointers : ∀ m ∈ pointersIn t.queue, m ∈ pointersIn s.queue) : t.motionWithin := by
  have hinner : t.inner.motion = s.inner.motion := hmotion
  rw [State.motionWithin_iff] at h ⊢
  obtain ⟨hx, hy, hunsent, hqueue⟩ := h
  rw [Inner.motionWithin, hinner]
  exact ⟨hx, hy, hunsent, fun m hm => hqueue m (hpointers m hm)⟩

theorem pointersIn_enqueue (time : Time) (p : Payload) (hp : ∀ m, p ≠ .pointer m) :
    pointersIn (s.enqueue time p).queue = pointersIn s.queue := congrArg Inner.pointers (s.enqueue_inner time p hp)

theorem Motion.within_takeIn {u : MotionUnit} {m : Motion} (hm : m.within) : (u.takeIn m).within := by
  unfold MotionUnit.takeIn
  split
  · exact hm
  · exact Motion.within_join _ _

theorem State.motionWithin_offerPointer (h : s.motionWithin) (time : Time) {m : Motion} (hm : m.within) :
    (s.offerPointer time m).motionWithin := by
  rw [State.motionWithin_iff] at h ⊢
  obtain ⟨hx, hy, hunsent, hqueue⟩ := h
  have hnew : (s.motion.takeIn m).within := Motion.within_takeIn hm
  obtain ⟨q, hq, heq⟩ | ⟨-, -, heq⟩ | ⟨-, -, heq⟩ := s.offerPointer_cases time m <;> rw [heq]
  · obtain ⟨a, r, b, old, hold, -, -, -, -, rfl⟩ := absorbPointer_spec hq
    refine ⟨hx, hy, nofun, fun x hxmem => ?_⟩
    obtain ⟨y, hy, hpayload⟩ := mem_pointersIn.mp hxmem
    rw [List.mem_append, List.mem_cons] at hy
    obtain hfront | rfl | hback := hy
    · exact hqueue x (mem_pointersIn.mpr ⟨y, by simp [hold, hfront], hpayload⟩)
    · cases hpayload
      exact Motion.within_join _ _
    · exact hqueue x (mem_pointersIn.mpr ⟨y, by simp [hold, hback], hpayload⟩)
  · refine ⟨hx, hy, nofun, fun x hxmem => ?_⟩
    obtain ⟨y, hy, hpayload⟩ := mem_pointersIn.mp hxmem
    obtain hold | hfresh := List.mem_append.mp hy
    · exact hqueue x (mem_pointersIn.mpr ⟨y, hold, hpayload⟩)
    · obtain rfl := List.mem_singleton.mp hfresh
      cases hpayload
      exact hnew
  · refine ⟨hx, hy, fun x hx => ?_, hqueue⟩
    cases hx
    exact hnew

theorem State.motionWithin_offerGesture (h : s.motionWithin) (time : Time) (g : GestureReport) :
    (s.offerGesture time g).motionWithin := by
  refine State.motionWithin_of_less h (by simp) fun m hm => ?_
  obtain ⟨-, heq⟩ | ⟨-, q, hq, heq⟩ | ⟨-, -, heq⟩ := s.offerGesture_cases time g <;> rw [heq] at hm
  · rwa [pointersIn_enqueue time (.gesture g) nofun] at hm
  · rw [pointersIn_enqueue time (.gesture g) nofun] at hm
    obtain ⟨r, hr, hpayload⟩ := mem_pointersIn.mp hm
    exact mem_pointersIn.mpr ⟨r, (evictOldest_spec _ _ hq).2.2 r hr, hpayload⟩
  · exact hm

theorem State.motionWithin_of_inner (h : s.motionWithin) (heq : t.inner = s.inner) : t.motionWithin := by
  rwa [State.motionWithin_iff, heq, ← State.motionWithin_iff]

theorem State.offerSnapshot_inner (time : Time) (r : SnapshotReport) : (s.offerSnapshot time r).inner = s.inner := by
  obtain ⟨-, heq⟩ | ⟨-, heq⟩ := s.offerSnapshot_cases time r <;> rw [heq]
  · exact s.enqueue_inner _ _ nofun
  · rfl

theorem State.motionWithin_releasePointer (h : s.motionWithin) : s.releasePointer.motionWithin := by
  obtain ⟨-, -, hrest⟩ := h
  exact ⟨by simp [State.releasePointer], by simp [State.releasePointer], hrest⟩

theorem State.motionWithin_dropClaim (h : s.motionWithin) (k : Nat) (r : TrackRef) : (s.dropClaim k r).motionWithin := by
  have hunsent : (s.dropClaim k r).motion.unsent = s.motion.unsent := by
    obtain ⟨c, -, -, hmotion⟩ | ⟨-, hmotion⟩ := s.dropClaim_motion_cases k r <;> rw [hmotion]
  obtain ⟨hx, hy, hrest, hqueue⟩ := h
  refine ⟨?_, ?_, by rwa [hunsent], by simpa using hqueue⟩
  · obtain ⟨c, -, -, hmotion⟩ | ⟨-, hmotion⟩ := s.dropClaim_motion_cases k r <;> simp [hmotion, hx]
  · obtain ⟨c, -, -, hmotion⟩ | ⟨-, hmotion⟩ := s.dropClaim_motion_cases k r <;> simp [hmotion, hy]

theorem EngineMove.motionWithin (hmove : EngineMove held s t) (h : s.motionWithin) : t.motionWithin := by
  have hsame (t : State) (hmotion : t.motion = s.motion) (hqueue : t.queue = s.queue) : t.motionWithin :=
    State.motionWithin_of_less h hmotion (by simp [hqueue])
  cases hmove with
  | gesture time g => exact State.motionWithin_offerGesture h time g
  | snapshot time r => exact State.motionWithin_of_inner h (State.offerSnapshot_inner time r)
  | pointer time m hm => exact State.motionWithin_offerPointer h time hm
  | giveUp k r => exact State.motionWithin_dropClaim h k r
  | releasePointer => exact State.motionWithin_releasePointer h
  | residues x y hx hy =>
    obtain ⟨-, -, hrest⟩ := h
    exact ⟨hx, hy, hrest⟩
  | setPointer =>
    obtain ⟨-, -, hrest⟩ := h
    exact ⟨Nat.zero_le _, Nat.zero_le _, hrest⟩
  | press | unpress => exact h
  | aside | edit | place | claim | start | finish => exact hsame _ rfl rfl

theorem State.motionWithin_offerUnsent (h : s.motionWithin) : s.offerUnsent.motionWithin := by
  unfold State.offerUnsent
  split
  · exact h
  next m hm =>
    obtain ⟨hx, hy, hunsent, hqueue⟩ := h
    exact State.motionWithin_offerPointer (s := s.setUnsent none) ⟨hx, hy, nofun, hqueue⟩ _ (hunsent m hm)

theorem State.motionWithin_offerContact (h : s.motionWithin) (time : Time) (r : ContactReport) :
    (s.offerContact time r).motionWithin := by
  refine State.motionWithin_of_less h (by simp) fun m hm => ?_
  obtain ⟨-, heq⟩ | ⟨-, heq⟩ := s.offerContact_cases time r <;> rw [heq] at hm
  · exact pointersIn_enqueue time (.contact r) nofun ▸ hm
  · exact hm

theorem Move.motionWithin (hheld : held) (hmove : Move held plain s t) (h : s.motionWithin) : t.motionWithin := by
  have hinner {l : Inner} (heq : t.inner = l) (hl : l.motionWithin) : t.motionWithin := by
    rwa [State.motionWithin_iff, heq]
  have hbefore := State.motionWithin_iff.mp h
  cases hmove with
  | engine hmove => exact hmove.motionWithin h
  | contact time u cause => exact State.motionWithin_offerContact h time _
  | unsent => exact State.motionWithin_offerUnsent h
  | dropInHand => exact h
  | shed ms heq hms =>
    obtain ⟨hx, hy, hunsent, hqueue⟩ := hbefore
    exact hinner heq ⟨hx, hy, hunsent, fun m hm => hqueue m (hms hheld m hm)⟩
  | quiet heq | working _ _ _ _ heq | expire _ heq | watch _ _ heq | store _ heq => exact hinner heq hbefore

theorem State.motionWithin_forceRelease (h : s.motionWithin) (n : Nat) (b e : Option Track) :
    (s.forceRelease n b e).motionWithin := by
  unfold State.forceRelease
  split
  · exact State.motionWithin_dropClaim h _ _
  · exact h

theorem Opened.motionWithin (hopened : Opened s t) (h : s.motionWithin) : t.motionWithin := by
  cases hopened with
  | same => exact h
  | begun o hop htracks heq => rw [State.motionWithin_iff, heq]; exact State.motionWithin_iff.mp h
  | dropped => exact h
  | live o f =>
    have hreleased := foldl_invariant State.motionWithin _
      (fun x (c : Nat × Option Track × Option Track) hx => State.motionWithin_forceRelease hx c.1 c.2.1 c.2.2)
      (slotChanges o.surface (liveWork o.snap o.surface f).before (liveWork o.snap o.surface f).after)
      (s.setOp none) h
    exact State.motionWithin_of_less hreleased rfl fun _ hm => hm
  | closed o key out =>
    unfold State.closeSettled
    split
    · exact h
    · exact h
  | wound => exact h

theorem State.motionWithin_atReset (cause : ResetCause) (b : Bool) (q : List Instr) :
    (State.atReset cause b q).motionWithin := by
  have hmotion : (State.atReset cause b q).motion = MotionUnit.reset := rfl
  have hqueue : (State.atReset cause b q).queue = [] := rfl
  simp [State.motionWithin, hmotion, hqueue, MotionUnit.reset]

theorem State.motionWithin_afterReset (cause : ResetCause) (q : List Instr) :
    (State.afterReset cause q).motionWithin :=
  State.motionWithin_of_less (State.motionWithin_atReset cause false q) rfl fun m hm => by
    have hnone : pointersIn (State.afterReset cause q).queue = [] := rfl
    rw [hnone] at hm
    cases hm

theorem Effect.motionWithin (hheld : held) (heffect : Effect held plain s t) (h : s.motionWithin) : t.motionWithin := by
  cases heffect with
  | moves a hopened hmoves =>
    exact hmoves.keep (fun _ _ hmove => hmove.motionWithin hheld) (hopened.motionWithin h)
  | afterReset cause heq => rw [heq]; exact State.motionWithin_afterReset cause _
  | atReset cause heq => rw [heq]; exact State.motionWithin_atReset cause true _

/-- A step's effect starts from the state without the command at the front of the queue. -/
theorem effect_of_step (hready : s.ready held plain) (hstep : step s = .next t) :
    ∃ rest, Effect held plain { s with pending := rest } t := by
  obtain ⟨t', a, heq, heffect, rest, rfl⟩ := step_effect hready
  obtain rfl : t' = t := Host.Outcome.next.inj (heq.symm.trans hstep)
  exact ⟨rest, heffect⟩

end

/-- Settles O59: every opening and every move keeps the holder, the pressers and the ranges. -/
theorem pointerStaysHeldAndWithin : Obligations.PointerStaysHeldAndWithin := by
  intro s t ⟨_, _, hwaiting⟩ hwithin hheld hstep
  have hready : s.ready True False := ⟨fun _ => ⟨hheld, hwaiting⟩, nofun⟩
  obtain ⟨rest, heffect⟩ := effect_of_step hready hstep
  exact ⟨heffect.motionWithin trivial hwithin, heffect.motionHeld trivial hheld⟩

end Sys2Proof.Machine

/-! Palm memory (R78 to R84): what each step of a completion's decisions does, its bounds, and that its entries stay
disjoint. -/

namespace Sys2Proof.Machine

/-! ## The first entry that satisfies a test -/

theorem takeFirst_of_first {α : Type} {p : α → Bool} {front back : List α} {a : α} (ha : p a = true)
    (hfront : ∀ x ∈ front, p x = false) : takeFirst p (front ++ a :: back) = some (a, front ++ back) := by
  induction front with
  | nil => simp [takeFirst, ha]
  | cons x front ih =>
    obtain ⟨hx, hfront⟩ := List.forall_mem_cons.mp hfront
    simp [takeFirst, hx, ih hfront]

theorem takeFirst_eq_none {α : Type} {p : α → Bool} {l : List α} (h : ∀ x ∈ l, p x = false) :
    takeFirst p l = none := by
  induction l with
  | nil => rfl
  | cons x l ih =>
    obtain ⟨hx, hl⟩ := List.forall_mem_cons.mp h
    simp [takeFirst, hx, ih hl]

/-- A list has no entry that satisfies a test, or a first one. -/
theorem first_cases {α : Type} (p : α → Bool) (l : List α) : (∀ x ∈ l, p x = false) ∨
    ∃ front a back, l = front ++ a :: back ∧ p a = true ∧ ∀ x ∈ front, p x = false := by
  cases h : l.find? p with
  | none => exact .inl (by simpa using h)
  | some a =>
    obtain ⟨ha, front, back, rfl, hfront⟩ := List.find?_eq_some_iff_append.mp h
    exact .inr ⟨front, a, back, rfl, ha, by simpa using hfront⟩

theorem bindFirst_of_first {p : PalmEntry → Bool} {front back : List PalmEntry} {e : PalmEntry} (he : p e = true)
    (hfront : ∀ x ∈ front, p x = false) (r : TrackRef) :
    bindFirst p r (front ++ e :: back) = some (e.bind r :: (front ++ back)) := by
  simp [bindFirst, takeFirst_of_first he hfront]

theorem bindFirst_eq_none {p : PalmEntry → Bool} {m : List PalmEntry} (h : ∀ x ∈ m, p x = false) (r : TrackRef) :
    bindFirst p r m = none := by
  simp [bindFirst, takeFirst_eq_none h]

/-! ## The unbinding step (R80) -/

theorem unbindFrom_of_stranger {deadline : Option Time} {r : TrackRef} {e : PalmEntry} (h : r ∉ e.bound) :
    unbindFrom deadline r e = some e := by
  simp [unbindFrom, h]

theorem unbindFrom_of_others {deadline : Option Time} {r : TrackRef} {e : PalmEntry} (h : r ∈ e.bound)
    (hothers : ∃ x ∈ e.bound, x ≠ r) :
    unbindFrom deadline r e = some { e with bound := e.bound.filter fun x => x != r } := by
  have hleft : (e.bound.filter fun x => x != r).isEmpty = false := by
    obtain ⟨x, hx, hne⟩ := hothers
    simpa using ⟨x, hx, hne⟩
  simp [unbindFrom, h, hleft]

theorem unbindFrom_of_last {deadline : Option Time} {r : TrackRef} {e : PalmEntry} (h : r ∈ e.bound)
    (hall : ∀ x ∈ e.bound, x = r) :
    unbindFrom deadline r e = deadline.map fun d => { e with bound := [], deadline := some d } := by
  have hnone : (e.bound.filter fun x => x != r).isEmpty = true := by simpa using hall
  simp only [unbindFrom, List.contains_eq_mem, h, decide_true, if_true, hnone]
  cases deadline <;> rfl

/-- An entry left by the unbinding step keeps its surface and its box, and has a deadline when nothing is bound to it. -/
theorem unbindFrom_spec {deadline : Option Time} {r : TrackRef} {e e' : PalmEntry}
    (h : unbindFrom deadline r e = some e') :
    e'.surface = e.surface ∧ e'.box = e.box ∧ (∀ x ∈ e'.bound, x ∈ e.bound ∧ x ≠ r) ∧
      e'.bound.Sublist e.bound ∧ ((e.bound = [] ↔ e.deadline ≠ none) → (e'.bound = [] ↔ e'.deadline ≠ none)) := by
  by_cases hr : r ∈ e.bound
  · by_cases hothers : ∃ x ∈ e.bound, x ≠ r
    · rw [unbindFrom_of_others hr hothers] at h
      cases h
      refine ⟨rfl, rfl, fun x hx => by simpa using hx, List.filter_sublist, fun htimed => ?_⟩
      have hheld : e.bound ≠ [] := List.ne_nil_of_mem hr
      obtain ⟨x, hx, hne⟩ := hothers
      have hleft : (e.bound.filter fun x => x != r) ≠ [] := List.ne_nil_of_mem (List.mem_filter.mpr ⟨hx, by simpa⟩)
      rw [← htimed]
      simp [hleft, hheld]
    · push Not at hothers
      rw [unbindFrom_of_last hr hothers] at h
      cases deadline with
      | none => cases h
      | some d =>
        cases h
        exact ⟨rfl, rfl, nofun, List.nil_sublist _, fun _ => by simp⟩
  · rw [unbindFrom_of_stranger hr] at h
    cases h
    exact ⟨rfl, rfl, fun x hx => ⟨hx, fun heq => hr (heq ▸ hx)⟩, .refl _, id⟩

/-! ## The hit step (R81) -/

theorem isHit_iff {h e : PalmEntry} : isHit h e = true ↔ e.surface = h.surface ∧ e.box = h.box := by
  simp [isHit]

/-- One hit handled: the memory and the tracks passed on, after it. -/
def hitOne (acc : List PalmEntry × List TrackRef) (h : TrackRef × PalmEntry) : List PalmEntry × List TrackRef :=
  match bindFirst (isHit h.2) h.1 acc.1 with
  | some m' => (m', acc.2)
  | none => (acc.1, acc.2 ++ [h.1])

theorem hitStep_eq_foldl (hits : List (TrackRef × PalmEntry)) (m : List PalmEntry) :
    hitStep hits m = hits.foldl hitOne (m, []) := rfl

theorem hitStep_concat (hits : List (TrackRef × PalmEntry)) (h : TrackRef × PalmEntry) (m : List PalmEntry) :
    hitStep (hits ++ [h]) m = hitOne (hitStep hits m) h := by
  rw [hitStep_eq_foldl, hitStep_eq_foldl, List.foldl_append, List.foldl_cons, List.foldl_nil]

theorem hitOne_of_first {acc : List PalmEntry × List TrackRef} {front back : List PalmEntry} {e h : PalmEntry}
    (hacc : acc.1 = front ++ e :: back) (he : isHit h e = true) (hfront : ∀ x ∈ front, isHit h x = false)
    (r : TrackRef) : hitOne acc (r, h) = (e.bind r :: (front ++ back), acc.2) := by
  simp [hitOne, hacc, bindFirst_of_first he hfront]

theorem hitOne_of_none {acc : List PalmEntry × List TrackRef} {h : PalmEntry} (hno : ∀ x ∈ acc.1, isHit h x = false)
    (r : TrackRef) : hitOne acc (r, h) = (acc.1, acc.2 ++ [r]) := by
  simp [hitOne, bindFirst_eq_none hno]

/-! ## The new-palm step (R82) -/

theorem overlaps_iff {a b : Box} : a.overlaps b = true ↔ a.meets b := by
  simp [Box.overlaps, Box.meets]

theorem Box.meets_comm {a b : Box} : a.meets b ↔ b.meets a := by
  unfold Box.meets
  omega

/-- A palm's box covers a cell of an entry of its surface (R82). -/
def PalmEntry.covers (u : Surface) (box : Box) (e : PalmEntry) : Bool := e.surface == u && e.box.overlaps box

theorem PalmEntry.covers_iff {u : Surface} {box : Box} {e : PalmEntry} :
    e.covers u box = true ↔ e.surface = u ∧ e.box.meets box := by
  simp [PalmEntry.covers, overlaps_iff]

theorem placePalm_of_first {u : Surface} {box : Box} {front back : List PalmEntry} {e : PalmEntry}
    (he : e.covers u box = true) (hfront : ∀ x ∈ front, x.covers u box = false) (r : TrackRef) :
    placePalm u box r (front ++ e :: back) = e.bind r :: (front ++ back) := by
  have hbind : bindFirst (fun e => e.surface == u && e.box.overlaps box) r (front ++ e :: back) =
      some (e.bind r :: (front ++ back)) := bindFirst_of_first he hfront r
  simp only [placePalm, hbind]

/-- A palm that covers no entry is offered an entry of its own at the head (R82). -/
theorem placePalm_of_none {u : Surface} {box : Box} {m : List PalmEntry} (h : ∀ e ∈ m, e.covers u box = false)
    (r : TrackRef) : placePalm u box r m =
      if m.length < 8 then { surface := u, box := box, bound := [r], deadline := none } :: m
      else match dropUnbound m with
        | some m' => { surface := u, box := box, bound := [r], deadline := none } :: m'
        | none => m := by
  have hbind : bindFirst (fun e => e.surface == u && e.box.overlaps box) r m = none := bindFirst_eq_none h r
  simp only [placePalm, hbind, Config.palmCapacity] <;> rfl

theorem dropUnbound_of_last {front back : List PalmEntry} {e : PalmEntry} (he : e.bound = [])
    (hback : ∀ x ∈ back, x.bound ≠ []) : dropUnbound (front ++ e :: back) = some (front ++ back) := by
  have hfirst : takeFirst (fun e : PalmEntry => e.bound.isEmpty) (back.reverse ++ e :: front.reverse) =
      some (e, back.reverse ++ front.reverse) :=
    takeFirst_of_first (by simp [he]) fun x hx => by simpa using hback x (List.mem_reverse.mp hx)
  simp [dropUnbound, hfirst]

theorem dropUnbound_eq_none {m : List PalmEntry} (h : ∀ e ∈ m, e.bound ≠ []) : dropUnbound m = none := by
  have hnone : takeFirst (fun e : PalmEntry => e.bound.isEmpty) m.reverse = none :=
    takeFirst_eq_none fun x hx => by simpa using h x (List.mem_reverse.mp hx)
  simp [dropUnbound, hnone]

/-- The memory has no unbound entry, or loses the one nearest the tail (R82). -/
theorem dropUnbound_cases (m : List PalmEntry) : dropUnbound m = none ∨
    ∃ front e back, m = front ++ e :: back ∧ dropUnbound m = some (front ++ back) := by
  obtain hnone | ⟨back, e, front, hm, he, hback⟩ := first_cases (fun e : PalmEntry => e.bound.isEmpty) m.reverse
  · exact .inl (dropUnbound_eq_none fun e he => by simpa using hnone e (List.mem_reverse.mpr he))
  · obtain rfl : m = front.reverse ++ e :: back.reverse := by
      rw [← m.reverse_reverse, hm]
      simp
    exact .inr ⟨_, e, _, rfl, dropUnbound_of_last (by simpa using he) fun x hx => by
      simpa using hback x (List.mem_reverse.mp hx)⟩

/-! ## The follow step (R83) -/

theorem followTracks_of_other {u : Surface} {slots : List (Option Track)} {e : PalmEntry} (h : e.surface ≠ u) :
    followTracks u slots e = e := if_neg h

theorem followTracks_of_unbound {u : Surface} {slots : List (Option Track)} {e : PalmEntry} (h : e.bound = []) :
    followTracks u slots e = e := by
  unfold followTracks
  rw [h]
  split <;> rfl

/-- The follow step changes a box alone, and that of an entry of the surface with a bound track (R83). -/
theorem followTracks_cases (u : Surface) (slots : List (Option Track)) (e : PalmEntry) :
    followTracks u slots e = e ∨
      (e.surface = u ∧ e.bound ≠ [] ∧ ∃ box, followTracks u slots e = { e with box := box }) := by
  by_cases hsurface : e.surface = u
  · by_cases hbound : e.bound = []
    · exact .inl (followTracks_of_unbound hbound)
    · unfold followTracks
      rw [if_pos hsurface]
      split
      · exact .inl rfl
      · exact .inr ⟨hsurface, hbound, _, rfl⟩
  · exact .inl (followTracks_of_other hsurface)

/-- A box holds another, and each of its sides is a side of one of the boxes. -/
def Box.spans (box : Box) (boxes : List Box) : Prop :=
  (∀ b ∈ boxes, box.c0 ≤ b.c0 ∧ b.c1 ≤ box.c1 ∧ box.r0 ≤ b.r0 ∧ b.r1 ≤ box.r1) ∧
    (∃ b ∈ boxes, b.c0 = box.c0) ∧ (∃ b ∈ boxes, b.c1 = box.c1) ∧ (∃ b ∈ boxes, b.r0 = box.r0) ∧
    ∃ b ∈ boxes, b.r1 = box.r1

theorem Box.spans_singleton (b : Box) : b.spans [b] := by simp [Box.spans]

theorem exists_mem_concat_of_min {α : Type} {boxes : List α} {f : α → Nat} {b : α} {n : Nat}
    (h : ∃ x ∈ boxes, f x = n) : ∃ x ∈ boxes ++ [b], f x = min n (f b) := by
  obtain ⟨x, hx, hn⟩ := h
  obtain hle | hle := Nat.le_total n (f b)
  · exact ⟨x, by simp [hx], by omega⟩
  · exact ⟨b, by simp, by omega⟩

theorem exists_mem_concat_of_max {α : Type} {boxes : List α} {f : α → Nat} {b : α} {n : Nat}
    (h : ∃ x ∈ boxes, f x = n) : ∃ x ∈ boxes ++ [b], f x = max n (f b) := by
  obtain ⟨x, hx, hn⟩ := h
  obtain hle | hle := Nat.le_total n (f b)
  · exact ⟨b, by simp, by omega⟩
  · exact ⟨x, by simp [hx], by omega⟩

theorem Box.spans_union {box : Box} {boxes : List Box} (h : box.spans boxes) (b : Box) :
    (box.union b).spans (boxes ++ [b]) := by
  obtain ⟨hall, hc0, hc1, hr0, hr1⟩ := h
  refine ⟨fun x hx => ?_, exists_mem_concat_of_min (f := Box.c0) hc0, exists_mem_concat_of_max (f := Box.c1) hc1,
    exists_mem_concat_of_min (f := Box.r0) hr0, exists_mem_concat_of_max (f := Box.r1) hr1⟩
  simp only [Box.union]
  obtain hold | hnew := List.mem_append.mp hx
  · have hx' := hall x hold
    omega
  · obtain rfl := List.mem_singleton.mp hnew
    omega

theorem Box.spans_foldl (boxes rest : List Box) {box : Box} (h : box.spans boxes) :
    (rest.foldl Box.union box).spans (boxes ++ rest) := by
  induction rest generalizing boxes box with
  | nil => simpa using h
  | cons b rest ih => simpa using ih _ (Box.spans_union h b)

theorem followTracks_of_bound {u : Surface} {slots : List (Option Track)} {e : PalmEntry} (hsurface : e.surface = u)
    (hboxes : e.bound.filterMap (boundBox u slots) ≠ []) :
    ∃ box, followTracks u slots e = { e with box := box } ∧ box.spans (e.bound.filterMap (boundBox u slots)) := by
  unfold followTracks
  rw [if_pos hsurface]
  split
  next hnone => exact absurd hnone hboxes
  next b bs heq =>
    refine ⟨_, rfl, ?_⟩
    rw [heq]
    exact Box.spans_foldl [b] bs (Box.spans_singleton b)

/-! ## The merge step (R83) -/

/-- Two entries of a surface that share no cell (R78). -/
def PalmEntry.apart (u : Surface) (a b : PalmEntry) : Prop := a.surface = u → b.surface = u → ¬ a.box.meets b.box

theorem PalmEntry.apart_symm {u : Surface} {a b : PalmEntry} (h : a.apart u b) : b.apart u a :=
  fun hb ha hmeets => h ha hb (Box.meets_comm.mp hmeets)

/-- The test by which an entry finds the one it merges with. -/
theorem merges_iff {u : Surface} {e x : PalmEntry} (he : e.surface = u) :
    (x.surface == u && x.box.overlaps e.box) = true ↔ ¬ e.apart u x := by
  simp only [Bool.and_eq_true, beq_iff_eq, overlaps_iff, PalmEntry.apart, he, true_implies, not_forall, not_not,
    exists_prop, Box.meets_comm]

theorem merges_eq_false_iff {u : Surface} {e x : PalmEntry} (he : e.surface = u) :
    (x.surface == u && x.box.overlaps e.box) = false ↔ e.apart u x := by
  rw [← not_iff_not, Bool.not_eq_false, merges_iff he]

theorem mergeOnce_eq_none {u : Surface} {m : List PalmEntry} (h : m.Pairwise (PalmEntry.apart u)) :
    mergeOnce u m = none := by
  induction m with
  | nil => rfl
  | cons e m ih =>
    obtain ⟨he, hm⟩ := List.pairwise_cons.mp h
    unfold mergeOnce
    split
    next hsurface =>
      rw [takeFirst_eq_none fun x hx => (merges_eq_false_iff hsurface).mpr (he x hx), ih hm]
      rfl
    · rw [ih hm]
      rfl

/-- The overlapping pair nearest the head is merged (R83). -/
theorem mergeOnce_of_pair {u : Surface} {front mid back : List PalmEntry} {a b : PalmEntry} (ha : a.surface = u)
    (hb : b.surface = u) (hmeets : a.box.meets b.box) (hfront : front.Pairwise (PalmEntry.apart u))
    (hbefore : ∀ x ∈ front, ∀ y ∈ a :: (mid ++ b :: back), x.apart u y) (hmid : ∀ y ∈ mid, a.apart u y) :
    mergeOnce u (front ++ a :: (mid ++ b :: back)) = some (front ++ a.merge b :: (mid ++ back)) := by
  induction front with
  | nil =>
    have hpair : takeFirst (fun x => x.surface == u && x.box.overlaps a.box) (mid ++ b :: back) =
        some (b, mid ++ back) :=
      takeFirst_of_first ((merges_iff ha).mpr fun hapart => hapart ha hb hmeets) fun x hx =>
        (merges_eq_false_iff ha).mpr (hmid x hx)
    simp [mergeOnce, ha, hpair]
  | cons x front ih =>
    obtain ⟨hx, hfront⟩ := List.pairwise_cons.mp hfront
    obtain ⟨hxrest, hbefore⟩ := List.forall_mem_cons.mp hbefore
    have hrest := ih hfront hbefore
    rw [List.cons_append, mergeOnce]
    split
    next hsurface =>
      have hno : takeFirst (fun y => y.surface == u && y.box.overlaps x.box) (front ++ a :: (mid ++ b :: back)) =
          none := takeFirst_eq_none fun y hy => by
        obtain hy | hy := List.mem_append.mp hy
        · exact (merges_eq_false_iff hsurface).mpr (hx y hy)
        · exact (merges_eq_false_iff hsurface).mpr (hxrest y hy)
      rw [hno, hrest]
      rfl
    · rw [hrest]
      rfl

/-- A memory holds no overlapping pair of a surface, or one nearest the head. -/
theorem pair_cases (u : Surface) (m : List PalmEntry) : m.Pairwise (PalmEntry.apart u) ∨
    ∃ front a mid b back, m = front ++ a :: (mid ++ b :: back) ∧ a.surface = u ∧ b.surface = u ∧
      a.box.meets b.box ∧ front.Pairwise (PalmEntry.apart u) ∧
      (∀ x ∈ front, ∀ y ∈ a :: (mid ++ b :: back), x.apart u y) ∧ ∀ y ∈ mid, a.apart u y := by
  induction m with
  | nil => exact .inl .nil
  | cons e m ih =>
    by_cases hsurface : e.surface = u
    · obtain hno | ⟨mid, b, back, rfl, hb, hmid⟩ := first_cases (fun x => x.surface == u && x.box.overlaps e.box) m
      · have he : ∀ x ∈ m, e.apart u x := fun x hx => (merges_eq_false_iff hsurface).mp (hno x hx)
        obtain hapart | ⟨front, a, mid, b, back, rfl, ha, hb, hmeets, hfront, hbefore, hmid⟩ := ih
        · exact .inl (List.pairwise_cons.mpr ⟨he, hapart⟩)
        · refine .inr ⟨e :: front, a, mid, b, back, rfl, ha, hb, hmeets, ?_, ?_, hmid⟩
          · exact List.pairwise_cons.mpr ⟨fun x hx => he x (by simp [hx]), hfront⟩
          · exact List.forall_mem_cons.mpr ⟨fun y hy => he y (List.mem_append_right _ hy), hbefore⟩
      · have hmeets := (merges_iff hsurface).mp hb
        simp only [PalmEntry.apart, not_forall, not_not] at hmeets
        obtain ⟨-, hbsurface, hmeets⟩ := hmeets
        exact .inr ⟨[], e, mid, b, back, rfl, hsurface, hbsurface, hmeets, .nil, by simp, fun y hy =>
          (merges_eq_false_iff hsurface).mp (hmid y hy)⟩
    · have he : ∀ x ∈ m, e.apart u x := fun x _ h => absurd h hsurface
      obtain hapart | ⟨front, a, mid, b, back, rfl, ha, hb, hmeets, hfront, hbefore, hmid⟩ := ih
      · exact .inl (List.pairwise_cons.mpr ⟨he, hapart⟩)
      · refine .inr ⟨e :: front, a, mid, b, back, rfl, ha, hb, hmeets, ?_, ?_, hmid⟩
        · exact List.pairwise_cons.mpr ⟨fun x hx => he x (by simp [hx]), hfront⟩
        · exact List.forall_mem_cons.mpr ⟨fun y hy => he y (List.mem_append_right _ hy), hbefore⟩

/-- A merge turns the overlapping pair nearest the head into one entry in the place of the first (R83). -/
theorem mergeOnce_spec {u : Surface} {m m' : List PalmEntry} (h : mergeOnce u m = some m') :
    ∃ front a mid b back, m = front ++ a :: (mid ++ b :: back) ∧ a.surface = u ∧ b.surface = u ∧
      a.box.meets b.box ∧ m' = front ++ a.merge b :: (mid ++ back) := by
  obtain hapart | ⟨front, a, mid, b, back, rfl, ha, hb, hmeets, hfront, hbefore, hmid⟩ := pair_cases u m
  · rw [mergeOnce_eq_none hapart] at h
    cases h
  · rw [mergeOnce_of_pair ha hb hmeets hfront hbefore hmid] at h
    exact ⟨front, a, mid, b, back, rfl, ha, hb, hmeets, (Option.some.inj h).symm⟩

theorem mergeAll_of_apart {u : Surface} {m : List PalmEntry} (h : m.Pairwise (PalmEntry.apart u)) (n : Nat) :
    mergeAll u n m = m := by
  cases n with
  | zero => rfl
  | succ n => rw [mergeAll, mergeOnce_eq_none h]

theorem mergeAll_succ_of_some {u : Surface} {m m' : List PalmEntry} (h : mergeOnce u m = some m') (n : Nat) :
    mergeAll u (n + 1) m = mergeAll u n m' := by
  rw [mergeAll, h]

/-- What every merge keeps, merging until there is none keeps. -/
theorem mergeAll_keep {u : Surface} {P : List PalmEntry → Prop}
    (hmerge : ∀ m m', mergeOnce u m = some m' → P m → P m') (n : Nat) {m : List PalmEntry} (h : P m) :
    P (mergeAll u n m) := by
  induction n generalizing m with
  | zero => exact h
  | succ n ih =>
    cases hm : mergeOnce u m with
    | none => rwa [mergeAll, hm]
    | some m' =>
      rw [mergeAll_succ_of_some hm]
      exact ih (hmerge m m' hm h)

theorem mergeAll_apart (u : Surface) (n : Nat) {m : List PalmEntry} (h : m.length ≤ n) :
    (mergeAll u n m).Pairwise (PalmEntry.apart u) := by
  induction n generalizing m with
  | zero => rw [List.eq_nil_of_length_eq_zero (Nat.le_zero.mp h)]; exact .nil
  | succ n ih =>
    obtain hapart | ⟨front, a, mid, b, back, rfl, ha, hb, hmeets, hfront, hbefore, hmid⟩ := pair_cases u m
    · rwa [mergeAll_of_apart hapart]
    · rw [mergeAll_succ_of_some (mergeOnce_of_pair ha hb hmeets hfront hbefore hmid)]
      apply ih
      simp only [List.length_append, List.length_cons] at h ⊢
      omega

end Sys2Proof.Machine

/-! The palm decisions of a completion: their length, the boxes they keep, and the disjointness they leave; O31. -/

namespace Sys2Proof.Machine

/-! ## The four steps together (R79) -/

theorem slotChanges_eq {u : Surface} {before after : List (Option Track)} (hb : before.length = 10)
    (ha : after.length = 10) : slotChanges u before after =
      (List.range 10).map fun i => (u.firstSlot + i, before.getD i none, after.getD i none) := by
  apply List.ext_getElem
  · simp [slotChanges, hb, ha]
  · intro i h1 h2
    have hi : i < 10 := by simpa using h2
    simp [slotChanges, List.getD, hb, ha, hi]

/-- The entries after the unbinding step (R80). -/
def palmUnbound (u : Surface) (deadline : Option Time) (before after : List (Option Track)) (m : List PalmEntry) :
    List PalmEntry :=
  (unboundTracks u before after).foldl (fun acc r => acc.filterMap (unbindFrom deadline r)) m

/-- The entries after the unbinding, the hit and the new-palm step (R80 to R82). -/
def palmPlaced (u : Surface) (deadline : Option Time) (before after : List (Option Track))
    (hits : List (TrackRef × PalmEntry)) (m : List PalmEntry) : List PalmEntry :=
  let hit := hitStep hits (palmUnbound u deadline before after m)
  (newPalms u before after hits hit.2).foldl (fun acc p => placePalm u p.2 p.1 acc) hit.1

/-- The deadline that an entry takes with its last track gone (R80). -/
def palmDeadline (hold : Nat) (now : Time) : Option Time := if hold = 0 then none else some (now + msTicks hold)

theorem palmAfter_eq (u : Surface) (hold : Nat) (now : Time) (before after : List (Option Track))
    (hits : List (TrackRef × PalmEntry)) (m : List PalmEntry) : palmAfter u hold now before after hits m =
      mergeAll u ((palmPlaced u (palmDeadline hold now) before after hits m).map (followTracks u after)).length
        ((palmPlaced u (palmDeadline hold now) before after hits m).map (followTracks u after)) := rfl

theorem unboundHere_iff (b e : Option Track) : unboundHere b e = true ↔ ∃ x, b = some x ∧
    ((x.state = .active ∨ x.state = .missing) ∧ goesOn b e = true ∧ e.map Track.state = some (.ended .lift) ∨
      x.state = .tentative ∧ goesOn b e = false) := by
  cases b with
  | none => simp [unboundHere, liftedHere]
  | some x =>
    simp only [unboundHere, liftedHere, Bool.or_eq_true, Bool.and_eq_true, Option.any_some, Track.confirmed,
      beq_iff_eq, Bool.not_eq_true', Option.some.injEq, exists_eq_left', Option.map_eq_some_iff]
    refine or_congr ⟨?_, ?_⟩ Iff.rfl
    · rintro ⟨⟨hgoes, hstate⟩, hlift⟩
      cases e with
      | none => simp at hlift
      | some y => exact ⟨hstate, hgoes, y, rfl, by simpa using hlift⟩
    · rintro ⟨hstate, hgoes, y, rfl, hlift⟩
      exact ⟨⟨hgoes, hstate⟩, by simpa using hlift⟩

theorem becamePalm_some (b : Option Track) (y : Track) : becamePalm b (some y) = true ↔
    y.cls = .palm ∧ ¬ (goesOn b (some y) = true ∧ b.map Track.cls = some .palm) := by
  cases b with
  | none => simp [becamePalm]
  | some x =>
    simp only [becamePalm, Option.any_some, Option.map_some, Option.some.injEq, Bool.and_eq_true, beq_iff_eq,
      Bool.not_eq_true', Bool.and_eq_false_iff, beq_eq_false_iff_ne, not_and, ne_eq]
    cases goesOn (some x) (some y) <;> simp

/-- The tracks that left their binding, slot by slot (R80). -/
theorem unboundTracks_eq {u : Surface} {before after : List (Option Track)} (hb : before.length = 10)
    (ha : after.length = 10) : unboundTracks u before after =
      (List.range 10).filterMap fun i => (before.getD i none).bind fun x =>
        let y := after.getD i none
        if (x.state = .active ∨ x.state = .missing) ∧ goesOn (some x) y = true ∧
            y.map Track.state = some (.ended .lift) ∨ x.state = .tentative ∧ goesOn (some x) y = false then
          some (⟨u.firstSlot + i, x.id⟩ : TrackRef) else none := by
  rw [unboundTracks, slotChanges_eq hb ha, List.filterMap_map]
  refine List.filterMap_congr fun i _ => ?_
  dsimp only [Function.comp_apply]
  cases hx : before.getD i none with
  | none => simp
  | some x => simp [unboundHere_iff]

/-- The tracks that the new-palm step handles, slot by slot (R82). -/
theorem newPalms_eq {u : Surface} {before after : List (Option Track)} (hb : before.length = 10)
    (ha : after.length = 10) (hits : List (TrackRef × PalmEntry)) (passed : List TrackRef) :
    newPalms u before after hits passed = (List.range 10).filterMap fun i => (after.getD i none).bind fun y =>
      let x := before.getD i none
      let r : TrackRef := ⟨u.firstSlot + i, y.id⟩
      if y.cls = .palm ∧ ¬ (goesOn x (some y) = true ∧ x.map Track.cls = some .palm) ∧
          (r ∈ passed ∨ ∀ h ∈ hits, h.1 ≠ r) then some (r, y.feat.box) else none := by
  rw [newPalms, slotChanges_eq hb ha, List.filterMap_map]
  refine List.filterMap_congr fun i _ => ?_
  dsimp only [Function.comp_apply]
  cases hy : after.getD i none with
  | none => rfl
  | some y =>
    dsimp only [Option.bind_some]
    refine if_congr ?_ rfl rfl
    rw [Bool.and_eq_true, becamePalm_some, and_assoc]
    refine and_congr_right fun _ => and_congr_right fun _ => ?_
    simp only [Bool.not_eq_true', Bool.and_eq_false_iff, List.any_eq_false, beq_iff_eq, List.contains_eq_mem,
      Bool.not_eq_false', decide_eq_true_eq]
    exact or_comm

/-! ## What the steps keep -/

section
variable {P : List PalmEntry → Prop} {u : Surface} {deadline : Option Time} {before after : List (Option Track)}
  {hits : List (TrackRef × PalmEntry)} {m : List PalmEntry}

theorem palmUnbound_keep (hunbind : ∀ (r : TrackRef) m, P m → P (m.filterMap (unbindFrom deadline r))) (h : P m) :
    P (palmUnbound u deadline before after m) :=
  foldl_invariant P _ (fun m r hm => hunbind r m hm) _ _ h

theorem hitStep_keep (hbind : ∀ front e back r, P (front ++ e :: back) → P (PalmEntry.bind e r :: (front ++ back)))
    (h : P m) : P (hitStep hits m).1 := by
  rw [hitStep_eq_foldl]
  refine foldl_invariant (fun acc : List PalmEntry × List TrackRef => P acc.1) _ ?_ _ _ h
  rintro acc ⟨r, e⟩ hacc
  obtain hno | ⟨front, x, back, hm, hx, hfront⟩ := first_cases (isHit e) acc.1
  · rwa [hitOne_of_none hno]
  · rw [hitOne_of_first hm hx hfront]
    exact hbind front x back r (hm ▸ hacc)

theorem placePalm_keep {box : Box} {r : TrackRef}
    (hbind : ∀ front e back, e.surface = u → P (front ++ e :: back) → P (PalmEntry.bind e r :: (front ++ back)))
    (hnew : ∀ m, m.length < 8 → P m → P ({ surface := u, box := box, bound := [r], deadline := none } :: m))
    (hreplace : ∀ front e back, P (front ++ e :: back) →
      P ({ surface := u, box := box, bound := [r], deadline := none } :: (front ++ back))) (h : P m) :
    P (placePalm u box r m) := by
  obtain hno | ⟨front, e, back, rfl, he, hfront⟩ := first_cases (PalmEntry.covers u box) m
  · rw [placePalm_of_none hno]
    split
    next hroom => exact hnew m hroom h
    · obtain hnone | ⟨front, e, back, rfl, hdrop⟩ := dropUnbound_cases m
      · rwa [hnone]
      · rw [hdrop]
        exact hreplace front e back h
  · rw [placePalm_of_first he hfront]
    exact hbind front e back (PalmEntry.covers_iff.mp he).1 h

end

/-! ## Capacity (R78) -/

theorem palm_length_replace {front back : List PalmEntry} {e e' : PalmEntry} (h : (front ++ e :: back).length ≤ 8) :
    (e' :: (front ++ back)).length ≤ 8 := by
  simp only [List.length_append, List.length_cons] at h ⊢
  omega

theorem palmUnbound_length (u : Surface) (deadline : Option Time) (before after : List (Option Track))
    {m : List PalmEntry} (h : m.length ≤ 8) : (palmUnbound u deadline before after m).length ≤ 8 :=
  palmUnbound_keep (P := fun m => m.length ≤ 8) (fun _ _ hm => (List.length_filterMap_le _ _).trans hm) h

theorem palmPlaced_length (u : Surface) (deadline : Option Time) (before after : List (Option Track))
    (hits : List (TrackRef × PalmEntry)) {m : List PalmEntry} (h : m.length ≤ 8) :
    (palmPlaced u deadline before after hits m).length ≤ 8 := by
  have hhit : (hitStep hits (palmUnbound u deadline before after m)).1.length ≤ 8 :=
    hitStep_keep (P := fun m => m.length ≤ 8) (fun front e back r hm => palm_length_replace hm)
      (palmUnbound_length u deadline before after h)
  refine foldl_invariant (fun m : List PalmEntry => m.length ≤ 8) _ (fun m p hm => ?_) _ _ hhit
  exact placePalm_keep (P := fun m => m.length ≤ 8) (fun front e back _ hm => palm_length_replace hm)
    (fun m hroom _ => hroom) (fun front e back hm => palm_length_replace hm) hm

theorem mergeAll_length (u : Surface) (n : Nat) (m : List PalmEntry) : (mergeAll u n m).length ≤ m.length := by
  refine mergeAll_keep (P := fun x => x.length ≤ m.length) (fun x x' hmerge hx => ?_) n (Nat.le_refl _)
  obtain ⟨front, a, mid, b, back, rfl, -, -, -, rfl⟩ := mergeOnce_spec hmerge
  simp only [List.length_append, List.length_cons] at hx ⊢
  omega

theorem palmAfter_length (u : Surface) (hold : Nat) (now : Time) (before after : List (Option Track))
    (hits : List (TrackRef × PalmEntry)) {m : List PalmEntry} (h : m.length ≤ 8) :
    (palmAfter u hold now before after hits m).length ≤ 8 := by
  rw [palmAfter_eq]
  refine (mergeAll_length _ _ _).trans ?_
  rw [List.length_map]
  exact palmPlaced_length u _ before after hits h

theorem palmAfter_apart (u : Surface) (hold : Nat) (now : Time) (before after : List (Option Track))
    (hits : List (TrackRef × PalmEntry)) (m : List PalmEntry) :
    (palmAfter u hold now before after hits m).Pairwise (PalmEntry.apart u) := mergeAll_apart u _ (Nat.le_refl _)

/-! ## The other surface's entries -/

/-- The entries of the other surface have the boxes of entries of `m`. -/
def palmElsewhere (u : Surface) (m x : List PalmEntry) : Prop :=
  ∀ e ∈ x, e.surface ≠ u → ∃ old ∈ m, old.surface = e.surface ∧ old.box = e.box

theorem palmElsewhere_map {u : Surface} {m x : List PalmEntry} {f : PalmEntry → Option PalmEntry}
    (hf : ∀ e e', f e = some e' → e'.surface ≠ u → e'.surface = e.surface ∧ e'.box = e.box)
    (h : palmElsewhere u m x) : palmElsewhere u m (x.filterMap f) := by
  intro e' he' hsurface
  obtain ⟨e, he, heq⟩ := List.mem_filterMap.mp he'
  obtain ⟨hsame, hbox⟩ := hf e e' heq hsurface
  rw [hsame, hbox]
  exact h e he (hsame ▸ hsurface)

theorem palmElsewhere_cons {u : Surface} {m x : List PalmEntry} {e : PalmEntry}
    (he : e.surface ≠ u → ∃ old ∈ m, old.surface = e.surface ∧ old.box = e.box) (h : palmElsewhere u m x) :
    palmElsewhere u m (e :: x) := List.forall_mem_cons.mpr ⟨he, h⟩

theorem palmElsewhere_rest {u : Surface} {m front back : List PalmEntry} {e : PalmEntry}
    (h : palmElsewhere u m (front ++ e :: back)) : palmElsewhere u m (front ++ back) :=
  fun x hx => h x (by rw [List.mem_append, List.mem_cons]; exact (List.mem_append.mp hx).imp_right .inr)

theorem palmElsewhere_bind {u : Surface} {m front back : List PalmEntry} {e : PalmEntry} {r : TrackRef}
    (h : palmElsewhere u m (front ++ e :: back)) : palmElsewhere u m (e.bind r :: (front ++ back)) :=
  palmElsewhere_cons (fun hsurface => h e (by simp) hsurface) (palmElsewhere_rest h)

theorem palmAfter_elsewhere (u : Surface) (hold : Nat) (now : Time) (before after : List (Option Track))
    (hits : List (TrackRef × PalmEntry)) (m : List PalmEntry) :
    palmElsewhere u m (palmAfter u hold now before after hits m) := by
  have hunbound : palmElsewhere u m (palmUnbound u (palmDeadline hold now) before after m) :=
    palmUnbound_keep (P := palmElsewhere u m) (fun r x hx => palmElsewhere_map (fun e e' heq _ => by
      obtain ⟨hsurface, hbox, -⟩ := unbindFrom_spec heq
      exact ⟨hsurface, hbox⟩) hx) fun e he _ => ⟨e, he, rfl, rfl⟩
  have hplaced : palmElsewhere u m (palmPlaced u (palmDeadline hold now) before after hits m) := by
    refine foldl_invariant (palmElsewhere u m) _ (fun x p hx => ?_) _ _
      (hitStep_keep (fun _ _ _ _ => palmElsewhere_bind) hunbound)
    exact placePalm_keep (fun _ _ _ _ => palmElsewhere_bind)
      (fun x _ hx => palmElsewhere_cons (fun hne => absurd rfl hne) hx)
      (fun front e back hx => palmElsewhere_cons (fun hne => absurd rfl hne) (palmElsewhere_rest hx)) hx
  rw [palmAfter_eq]
  refine mergeAll_keep (P := palmElsewhere u m) (fun x x' hmerge hx => ?_) _ ?_
  · obtain ⟨front, a, mid, b, back, rfl, ha, -, -, rfl⟩ := mergeOnce_spec hmerge
    intro e he hsurface
    rw [List.mem_append, List.mem_cons, List.mem_append] at he
    obtain hfront | rfl | hmid | hback := he
    · exact hx e (by simp [hfront]) hsurface
    · exact absurd ha hsurface
    · exact hx e (by simp [hmid]) hsurface
    · exact hx e (by simp [hback]) hsurface
  · intro e he hsurface
    obtain ⟨x, hx, rfl⟩ := List.mem_map.mp he
    obtain hsame | ⟨hu, -, box, heq⟩ := followTracks_cases u after x
    · rw [hsame] at hsurface ⊢
      exact hplaced x hx hsurface
    · rw [heq] at hsurface
      exact absurd hu hsurface

/-! ## Disjointness (R78) -/

/-- Two entries of one surface share no cell, but that a bound one of `u` may (R83). -/
def PalmEntry.loose (u : Surface) (a b : PalmEntry) : Prop :=
  a.surface = b.surface → (a.surface = u → a.bound = [] ∧ b.bound = []) → ¬ a.box.meets b.box

/-- An entry has a deadline exactly while nothing is bound to it (R78). -/
def PalmEntry.timed (e : PalmEntry) : Prop := e.bound = [] ↔ e.deadline ≠ none

theorem PalmEntry.loose_symm {u : Surface} {a b : PalmEntry} (h : a.loose u b) : b.loose u a :=
  fun hsurface hbound hmeets => h hsurface.symm (fun ha => (hbound (hsurface.trans ha)).symm) (Box.meets_comm.mp hmeets)

/-- The entries are loosely apart and timed. -/
def palmLoose (u : Surface) (m : List PalmEntry) : Prop := m.Pairwise (PalmEntry.loose u) ∧ ∀ e ∈ m, e.timed

theorem palmLoose_perm {u : Surface} {m m' : List PalmEntry} (hperm : m.Perm m') (h : palmLoose u m) : palmLoose u m' :=
  ⟨(hperm.pairwise_iff fun h => PalmEntry.loose_symm h).mp h.1, fun e he => h.2 e (hperm.mem_iff.mpr he)⟩

theorem palmLoose_cons {u : Surface} {e : PalmEntry} {m : List PalmEntry} :
    palmLoose u (e :: m) ↔ (∀ x ∈ m, e.loose u x) ∧ e.timed ∧ palmLoose u m := by
  simp only [palmLoose, List.pairwise_cons, List.forall_mem_cons]
  tauto

/-- A bound entry in the place of one of its surface and its box, or of any of the surface `u`, stays loosely apart. -/
theorem palmLoose_bound {u : Surface} {front back : List PalmEntry} {e e' : PalmEntry} (hsurface : e'.surface = e.surface)
    (hbox : e'.box = e.box ∨ e.surface = u) (hbound : e'.bound ≠ []) (hdeadline : e'.deadline = none)
    (h : palmLoose u (front ++ e :: back)) : palmLoose u (e' :: (front ++ back)) := by
  obtain ⟨he, -, hrest⟩ := palmLoose_cons.mp (palmLoose_perm List.perm_middle h)
  refine palmLoose_cons.mpr ⟨fun x hx hsame hunbound => ?_, by simp [PalmEntry.timed, hbound, hdeadline], hrest⟩
  by_cases hu : e'.surface = u
  · exact absurd (hunbound hu).1 hbound
  · obtain hbox | hbox := hbox
    · rw [hbox]
      exact he x hx (hsurface ▸ hsame) fun heu => absurd (hsurface.trans heu) hu
    · exact absurd (hsurface.trans hbox) hu

theorem palmLoose_bind {u : Surface} {front back : List PalmEntry} {e : PalmEntry} (r : TrackRef)
    (h : palmLoose u (front ++ e :: back)) : palmLoose u (e.bind r :: (front ++ back)) :=
  palmLoose_bound (e := e) rfl (.inl rfl) (by simp [PalmEntry.bind]) rfl h

theorem palmLoose_fresh {u : Surface} {m : List PalmEntry} (box : Box) (r : TrackRef) (h : palmLoose u m) :
    palmLoose u ({ surface := u, box := box, bound := [r], deadline := none } :: m) :=
  palmLoose_cons.mpr ⟨fun _ _ _ hunbound => absurd (hunbound rfl).1 (List.cons_ne_nil _ _), by simp [PalmEntry.timed], h⟩

theorem palmLoose_rest {u : Surface} {front back : List PalmEntry} {e : PalmEntry}
    (h : palmLoose u (front ++ e :: back)) : palmLoose u (front ++ back) :=
  (palmLoose_cons.mp (palmLoose_perm List.perm_middle h)).2.2

theorem palmLoose_follow {u : Surface} {slots : List (Option Track)} {m : List PalmEntry} (h : palmLoose u m) :
    palmLoose u (m.map (followTracks u slots)) := by
  obtain ⟨hpair, htimed⟩ := h
  have hfollow (e : PalmEntry) : (followTracks u slots e).surface = e.surface ∧
      (followTracks u slots e).bound = e.bound ∧ (followTracks u slots e).deadline = e.deadline ∧
      ((e.surface = u → e.bound = []) → followTracks u slots e = e) := by
    obtain hsame | ⟨hu, hbound, box, heq⟩ := followTracks_cases u slots e
    · rw [hsame]
      exact ⟨rfl, rfl, rfl, fun _ => rfl⟩
    · rw [heq]
      exact ⟨rfl, rfl, rfl, fun h => absurd (h hu) hbound⟩
  refine ⟨List.pairwise_map.mpr (hpair.imp fun {a b} hab hsame hunbound => ?_), fun e he => ?_⟩
  · obtain ⟨hasurface, habound, -, ha⟩ := hfollow a
    obtain ⟨hbsurface, hbbound, -, hb⟩ := hfollow b
    rw [hasurface, hbsurface] at hsame
    rw [hasurface, habound, hbbound] at hunbound
    rw [ha fun hu => (hunbound hu).1, hb fun hu => (hunbound (hsame.trans hu)).2]
    exact hab hsame hunbound
  · obtain ⟨x, hx, rfl⟩ := List.mem_map.mp he
    obtain ⟨-, hbound, hdeadline, -⟩ := hfollow x
    rw [PalmEntry.timed, hbound, hdeadline]
    exact htimed x hx

theorem palmLoose_merge {u : Surface} {m m' : List PalmEntry} (hmerge : mergeOnce u m = some m') (h : palmLoose u m) :
    palmLoose u m' := by
  obtain ⟨front, a, mid, b, back, rfl, ha, hb, hmeets, rfl⟩ := mergeOnce_spec hmerge
  obtain ⟨hapair, -, hrest⟩ := palmLoose_cons.mp (palmLoose_perm List.perm_middle h)
  have hbound : (a.merge b).bound ≠ [] := by
    intro hnone
    obtain ⟨hanone, hbnone⟩ := List.append_eq_nil_iff.mp hnone
    exact hapair b (by simp) (ha.trans hb.symm) (fun _ => ⟨hanone, hbnone⟩) hmeets
  have hwithout : palmLoose u (front ++ (mid ++ back)) := by
    rw [← List.append_assoc]
    exact palmLoose_rest (e := b) (by simpa using hrest)
  refine palmLoose_perm List.perm_middle.symm (palmLoose_cons.mpr ⟨fun x _ _ hunbound => ?_, ?_, hwithout⟩)
  · exact absurd (hunbound ha).1 hbound
  · rw [PalmEntry.timed]
    exact ⟨fun hnone => absurd hnone hbound, fun hnone => absurd rfl hnone⟩

/-- Entries of a memory are apart, and timed (R78). -/
def palmSound (m : List PalmEntry) : Prop :=
  m.Pairwise (fun a b => a.surface = b.surface → ¬ a.box.meets b.box) ∧ ∀ e ∈ m, e.timed

theorem palmSound_unbind {deadline : Option Time} {r : TrackRef} {m : List PalmEntry} (h : palmSound m) :
    palmSound (m.filterMap (unbindFrom deadline r)) := by
  obtain ⟨hpair, htimed⟩ := h
  refine ⟨List.pairwise_filterMap.mpr (hpair.imp fun {a b} hab a' ha b' hb => ?_), fun e' he' => ?_⟩
  · obtain ⟨hasurface, habox, -⟩ := unbindFrom_spec ha
    obtain ⟨hbsurface, hbbox, -⟩ := unbindFrom_spec hb
    rwa [hasurface, habox, hbsurface, hbbox]
  · obtain ⟨e, he, heq⟩ := List.mem_filterMap.mp he'
    obtain ⟨-, -, -, -, hkept⟩ := unbindFrom_spec heq
    exact hkept (htimed e he)

theorem palmSound_palmAfter (u : Surface) (hold : Nat) (now : Time) (before after : List (Option Track))
    (hits : List (TrackRef × PalmEntry)) {m : List PalmEntry} (h : palmSound m) :
    palmSound (palmAfter u hold now before after hits m) := by
  have hunbound : palmSound (palmUnbound u (palmDeadline hold now) before after m) :=
    palmUnbound_keep (P := palmSound) (fun r x hx => palmSound_unbind hx) h
  have hloose : palmLoose u (palmUnbound u (palmDeadline hold now) before after m) :=
    ⟨hunbound.1.imp fun hab hsame _ => hab hsame, hunbound.2⟩
  have hplaced : palmLoose u (palmPlaced u (palmDeadline hold now) before after hits m) := by
    refine foldl_invariant (palmLoose u) _ (fun x p hx => ?_) _ _
      (hitStep_keep (fun _ _ _ r => palmLoose_bind r) hloose)
    exact placePalm_keep (fun _ _ _ _ => palmLoose_bind _) (fun x _ hx => palmLoose_fresh _ _ hx)
      (fun front e back hx => palmLoose_fresh _ _ (palmLoose_rest hx)) hx
  have hend : palmLoose u (palmAfter u hold now before after hits m) := by
    rw [palmAfter_eq]
    exact mergeAll_keep (fun x x' hmerge hx => palmLoose_merge hmerge hx) _ (palmLoose_follow hplaced)
  refine ⟨(hend.1.and (palmAfter_apart u hold now before after hits m)).imp fun {a b} hab hsame => ?_, hend.2⟩
  obtain ⟨hloose, hapart⟩ := hab
  by_cases ha : a.surface = u
  · exact hapart ha (hsame ▸ ha)
  · exact hloose hsame fun hu => absurd hu ha

/-! ## Every step -/

section
variable {held plain : Prop} {s t : State}

theorem State.palmApart_iff : s.palmApart ↔ palmSound s.palm := Iff.rfl

theorem palmSound_sublist {m m' : List PalmEntry} (hsub : m'.Sublist m) (h : palmSound m) : palmSound m' :=
  ⟨h.1.sublist hsub, fun e he => h.2 e (hsub.subset he)⟩

theorem Move.keeps_palmSound (h : Move held plain s t) (hs : palmSound s.palm) : palmSound t.palm := by
  have hinner {l : Inner} (heq : t.inner = l) (hl : l.palm = s.palm) : palmSound t.palm := by
    have hpalm : t.palm = s.palm := (congrArg Inner.palm heq).trans hl
    rwa [hpalm]
  cases h with
  | engine hmove =>
    obtain ⟨-, -, -, -, -, -, -, -, -, -, -, hpalm, -⟩ := hmove.keeps
    rwa [hpalm]
  | contact => simpa using hs
  | unsent => simpa using hs
  | dropInHand => exact hs
  | expire i heq =>
    have hpalm : t.palm = s.palm.eraseIdx i := congrArg Inner.palm heq
    rw [hpalm]
    exact palmSound_sublist (List.eraseIdx_sublist _ _) hs
  | quiet heq | shed _ heq | working _ _ _ _ heq | watch _ _ heq | store _ heq => exact hinner heq rfl

theorem Opened.keeps_palmSound (h : Opened s t) (hs : palmSound s.palm) : palmSound t.palm := by
  cases h with
  | same => exact hs
  | begun o hop htracks heq =>
    have hpalm : t.palm = s.palm := (congrArg Inner.palm heq).trans rfl
    rwa [hpalm]
  | dropped => exact hs
  | live o f => exact palmSound_palmAfter _ _ _ _ _ _ hs
  | closed o key out =>
    have hpalm : ((s.setOp none).closeSettled o.surface o.snap key).palm =
        s.palm.filter fun e => e.surface != o.surface := by
      unfold State.closeSettled
      split <;> rfl
    rw [hpalm]
    exact palmSound_sublist List.filter_sublist hs
  | wound => exact ⟨.nil, nofun⟩

theorem Effect.palmApart (h : Effect held plain s t) (hs : s.palmApart) : t.palmApart := by
  rw [State.palmApart_iff] at hs ⊢
  cases h with
  | moves a hopened hmoves => exact hmoves.keep (fun _ _ hmove => hmove.keeps_palmSound) (hopened.keeps_palmSound hs)
  | afterReset cause heq => rw [heq]; exact ⟨.nil, nofun⟩
  | atReset cause heq => rw [heq]; exact ⟨.nil, nofun⟩

end

/-- Settles O31: between the unbinding and the merges the entries of a surface are apart but for bound ones, and the
merges end with none that overlap. -/
theorem palmMemoryStaysDisjoint : Obligations.PalmMemoryStaysDisjoint := by
  refine ⟨fun s t hs hstep => ?_, fun u hold now before after hits m hm => ?_,
    fun u hold now before after hits m hb ha => ?_, fun deadline r e => ?_, fun hits r h m => ?_, fun u box r m => ?_,
    fun u slots e => ?_, fun u n => ?_⟩
  · obtain ⟨rest, heffect⟩ := effect_of_step s.ready_false hstep
    exact heffect.palmApart hs
  · exact ⟨palmAfter_length u hold now before after hits hm, palmAfter_apart u hold now before after hits m,
      palmAfter_elsewhere u hold now before after hits m⟩
  · dsimp only
    rw [palmAfter_eq, palmPlaced, palmUnbound, unboundTracks_eq hb ha, newPalms_eq hb ha]
    rfl
  · exact ⟨unbindFrom_of_stranger, unbindFrom_of_others, unbindFrom_of_last⟩
  · dsimp only
    simp only [hitStep_concat]
    refine ⟨rfl, fun front e back hm he hfront => ?_, fun hno => ?_⟩
    · exact hitOne_of_first hm (isHit_iff.mpr he) (fun x hx => by
        rw [Bool.eq_false_iff, ne_eq, isHit_iff]
        exact hfront x hx) r
    · exact hitOne_of_none (fun x hx => by
        rw [Bool.eq_false_iff, ne_eq, isHit_iff]
        exact hno x hx) r
  · dsimp only
    refine ⟨fun front e back hm he hfront => ?_, fun hno => ?_⟩
    · rw [hm]
      exact placePalm_of_first (PalmEntry.covers_iff.mpr he) (fun x hx => by
        rw [Bool.eq_false_iff, ne_eq, PalmEntry.covers_iff]
        exact hfront x hx) r
    · rw [placePalm_of_none fun x hx => by
        rw [Bool.eq_false_iff, ne_eq, PalmEntry.covers_iff]
        exact hno x hx]
      refine ⟨fun hroom => if_pos hroom, fun front e back hfull hm he hback => ?_, fun hfull hall => ?_⟩
      · rw [if_neg (Nat.not_lt.mpr hfull), hm, dropUnbound_of_last he hback]
      · rw [if_neg (Nat.not_lt.mpr hfull), dropUnbound_eq_none hall]
  · refine ⟨fun hno => hno.elim followTracks_of_other followTracks_of_unbound, fun hsurface hboxes => ?_⟩
    exact followTracks_of_bound hsurface hboxes
  · refine ⟨fun m hm => mergeAll_of_apart hm n, fun front a mid b back ha hb hmeets hfront hbefore hmid => ?_⟩
    exact mergeAll_succ_of_some (mergeOnce_of_pair ha hb hmeets hfront hbefore hmid) n

end Sys2Proof.Machine

/-! The lifecycle of a track in a live frame (R54, R55, R57, R71 to R75): what a match, a vote and a miss do to its
record. -/

namespace Sys2Proof.Machine

/-! ## The raw class (R71) -/

/-- A blob fits a shape rule: it satisfies every part (R71). -/
def ShapeRule.fits (r : ShapeRule) (u : Surface) (p : Posture) (f : Features) : Prop :=
  r.surfaces.getLsbD u.code = true ∧ r.zones.getLsbD f.zone = true ∧
    r.postures.getLsbD p.code = true ∧ r.areaMin ≤ min f.area 255 ∧ min f.area 255 ≤ r.areaMax ∧
    r.peakMin ≤ f.peak ∧ f.peak ≤ r.peakMax ∧ r.flatMin ≤ f.flat ∧ f.flat ≤ r.flatMax ∧
    r.elongMin ≤ f.elong ∧ f.elong ≤ r.elongMax ∧
    (r.edge = 0 ∨ (r.edge = 1 ∧ f.edge = true) ∨ (r.edge = 2 ∧ f.edge = false))

theorem edgeSatisfied_iff (n : Nat) (edge : Bool) :
    edgeSatisfied n edge = true ↔ n = 0 ∨ (n = 1 ∧ edge = true) ∨ (n = 2 ∧ edge = false) := by
  unfold edgeSatisfied
  split <;> simp_all

theorem ShapeRule.matchesBlob_iff {r : ShapeRule} {u : Surface} {p : Posture} {f : Features} :
    r.matchesBlob u p f = true ↔ r.fits u p f := by
  rw [ShapeRule.matchesBlob, Features.matchArea]
  simp only [ShapeRule.fits, inZones, within, Bool.and_eq_true, decide_eq_true_eq, edgeSatisfied_iff, and_assoc]

theorem ShapeRule.matchesBlob_eq_false {r : ShapeRule} {u : Surface} {p : Posture} {f : Features} (h : ¬ r.fits u p f) :
    r.matchesBlob u p f = false := by
  rwa [← ShapeRule.matchesBlob_iff, Bool.not_eq_true] at h

theorem rawClass_of_first {front back : List ShapeRule} {r : ShapeRule} {u : Surface} {p : Posture} {f : Features}
    {c : TrackClass} (hr : r.fits u p f) (hfront : ∀ x ∈ front, ¬ x.fits u p f) (hc : classOf r.cls = some c) :
    rawClass (front ++ r :: back) u p f = c := by
  have hfind : (front ++ r :: back).find? (fun r => r.matchesBlob u p f) = some r :=
    List.find?_eq_some_iff_append.mpr ⟨ShapeRule.matchesBlob_iff.mpr hr, front, back, rfl, fun x hx => by
      simp [ShapeRule.matchesBlob_eq_false (hfront x hx)]⟩
  simp [rawClass, hfind, hc]

theorem rawClass_of_none {rules : List ShapeRule} {u : Surface} {p : Posture} {f : Features}
    (h : ∀ r ∈ rules, ¬ r.fits u p f) : rawClass rules u p f = .unknown := by
  have hfind : rules.find? (fun r => r.matchesBlob u p f) = none :=
    List.find?_eq_none.mpr fun r hr => by simp [ShapeRule.matchesBlob_eq_false (h r hr)]
  simp [rawClass, hfind]

/-! ## The class vote (R74, R75) -/

/-- How many votes the candidate has once a raw class that is not the class has counted (R74). -/
def Track.votesWith (t : Track) (raw : TrackClass) : Nat := if raw = t.candidate then t.votes + 1 else 1

theorem Track.vote_same (t : Track) (n : Nat) {raw : TrackClass} (h : raw = t.cls) :
    t.vote n raw = { t with votes := 0 } := if_pos h

theorem Track.vote_other (t : Track) (n : Nat) {raw : TrackClass} (h : raw ≠ t.cls) :
    t.vote n raw = if n ≤ t.votesWith raw then
      { t with cls := raw, candidate := raw, votes := 0, latched := t.latched || raw == .palm }
    else { t with candidate := raw, votes := t.votesWith raw } := by
  simp only [Track.vote, if_neg h, Track.votesWith]
  by_cases hcandidate : raw = t.candidate
  · subst hcandidate
    simp [Track.carryVote]
  · simp [hcandidate, Track.carryVote]

/-- A vote changes the class, the candidate, the votes and the latch alone (R74). -/
theorem Track.classify_eq (t : Track) (sn : Snapshot) (u : Surface) (f : Features) : t.classify sn u f =
    { t with cls := (t.classify sn u f).cls, candidate := (t.classify sn u f).candidate,
             votes := (t.classify sn u f).votes, latched := (t.classify sn u f).latched } := by
  unfold Track.classify
  split
  · rfl
  · generalize rawClass sn.tables.shape u sn.posture f = raw
    by_cases h : raw = t.cls
    · rw [t.vote_same _ h]
    · rw [t.vote_other _ h]
      split <;> rfl

theorem Track.classify_of_latched {t : Track} (h : t.latched = true) (sn : Snapshot) (u : Surface) (f : Features) :
    t.classify sn u f = t := if_pos h

theorem Track.classify_of_open {t : Track} (h : t.latched = false) (sn : Snapshot) (u : Surface) (f : Features) :
    t.classify sn u f = t.vote (voteFrames sn.tables.tune) (rawClass sn.tables.shape u sn.posture f) :=
  if_neg (by simp [h])

/-- A track is latched exactly when it is PALM (R75). -/
def Track.latchHolds (t : Track) : Prop := t.latched = true ↔ t.cls = .palm

theorem Track.latchHolds_classify {t : Track} (h : t.latchHolds) (sn : Snapshot) (u : Surface) (f : Features) :
    (t.classify sn u f).latchHolds := by
  cases hlatched : t.latched with
  | true => rwa [Track.classify_of_latched hlatched]
  | false =>
    rw [Track.classify_of_open hlatched]
    generalize rawClass sn.tables.shape u sn.posture f = raw
    by_cases hraw : raw = t.cls
    · rwa [t.vote_same _ hraw]
    · rw [t.vote_other _ hraw]
      split
      · simp [Track.latchHolds, hlatched]
      · exact h

/-! ## Matches (R54, R57) -/

/-- A track with a blob's place and features, counted as seen (R54). -/
def Track.moved (t : Track) (b : Blob) : Track :=
  { t with prev := some t.pos, pos := b.pos, feat := b.feat, seen := min (t.seen + 1) 255 }

/-- A track at a blob's place, its class voted on (R54). -/
def Track.withBlob (t : Track) (sn : Snapshot) (u : Surface) (b : Blob) : Track := (t.moved b).classify sn u b.feat

theorem Track.withBlob_eq (t : Track) (sn : Snapshot) (u : Surface) (b : Blob) : t.withBlob sn u b =
    { t with prev := some t.pos, pos := b.pos, feat := b.feat, seen := min (t.seen + 1) 255,
             cls := (t.withBlob sn u b).cls, candidate := (t.withBlob sn u b).candidate,
             votes := (t.withBlob sn u b).votes, latched := (t.withBlob sn u b).latched } :=
  Track.classify_eq _ sn u b.feat

section
variable (t : Track) (sn : Snapshot) (u : Surface) (b : Blob)

@[simp] theorem Track.withBlob_state : (t.withBlob sn u b).state = t.state := by rw [Track.withBlob_eq]
@[simp] theorem Track.withBlob_id : (t.withBlob sn u b).id = t.id := by rw [Track.withBlob_eq]
@[simp] theorem Track.withBlob_prev : (t.withBlob sn u b).prev = some t.pos := by rw [Track.withBlob_eq]
@[simp] theorem Track.withBlob_pos : (t.withBlob sn u b).pos = b.pos := by rw [Track.withBlob_eq]
@[simp] theorem Track.withBlob_seen : (t.withBlob sn u b).seen = min (t.seen + 1) 255 := by rw [Track.withBlob_eq]
@[simp] theorem Track.withBlob_startPending : (t.withBlob sn u b).startPending = t.startPending := by
  rw [Track.withBlob_eq]
@[simp] theorem Track.withBlob_anchor : (t.withBlob sn u b).anchor = t.anchor := by rw [Track.withBlob_eq]
@[simp] theorem Track.withBlob_misses : (t.withBlob sn u b).misses = t.misses := by rw [Track.withBlob_eq]

theorem Track.matched_eq : t.matched sn u b = match t.state with
    | .tentative =>
      if confirmFrames sn.tables.tune ≤ (t.withBlob sn u b).seen then (t.withBlob sn u b).confirm
      else t.withBlob sn u b
    | .active => t.withBlob sn u b
    | .missing => { t.withBlob sn u b with state := .active, misses := 0 }
    | .ended _ => t := rfl

theorem Track.matched_of_tentative (h : t.state = .tentative) : t.matched sn u b =
    if confirmFrames sn.tables.tune ≤ min (t.seen + 1) 255 then (t.withBlob sn u b).confirm else t.withBlob sn u b := by
  rw [← t.withBlob_seen sn u b]
  simp only [Track.matched_eq, h]

theorem Track.matched_of_active (h : t.state = .active) : t.matched sn u b = t.withBlob sn u b := by
  simp only [Track.matched_eq, h]

theorem Track.matched_of_missing (h : t.state = .missing) : t.matched sn u b =
    { t.withBlob sn u b with state := .active, misses := 0 } := by
  simp only [Track.matched_eq, h]

/-- What a match makes of an open track: its blob's results, confirmed, kept or ACTIVE again (R54, R57). -/
theorem Track.matched_cases (h : ∀ cause, t.state ≠ .ended cause) :
    (t.state = .tentative ∧ confirmFrames sn.tables.tune ≤ min (t.seen + 1) 255 ∧
        t.matched sn u b = (t.withBlob sn u b).confirm) ∨
      (t.state = .tentative ∧ min (t.seen + 1) 255 < confirmFrames sn.tables.tune ∧
        t.matched sn u b = t.withBlob sn u b) ∨
      (t.state = .active ∧ t.matched sn u b = t.withBlob sn u b) ∨
      (t.state = .missing ∧ t.matched sn u b = { t.withBlob sn u b with state := .active, misses := 0 }) := by
  cases hstate : t.state with
  | tentative =>
    rw [t.matched_of_tentative sn u b hstate]
    obtain hle | hlt := le_or_gt (confirmFrames sn.tables.tune) (min (t.seen + 1) 255)
    · exact .inl ⟨rfl, hle, if_pos hle⟩
    · exact .inr (.inl ⟨rfl, hlt, if_neg (Nat.not_le.mpr hlt)⟩)
  | active => exact .inr (.inr (.inl ⟨rfl, t.matched_of_active sn u b hstate⟩))
  | missing => exact .inr (.inr (.inr ⟨rfl, t.matched_of_missing sn u b hstate⟩))
  | ended cause => exact absurd hstate (h cause)

/-- A match votes on the class of an open track (R54, R74). -/
theorem Track.matched_class (h : ∀ cause, t.state ≠ .ended cause) :
    (t.matched sn u b).cls = (t.withBlob sn u b).cls ∧ (t.matched sn u b).candidate = (t.withBlob sn u b).candidate ∧
      (t.matched sn u b).votes = (t.withBlob sn u b).votes ∧
      (t.matched sn u b).latched = (t.withBlob sn u b).latched := by
  obtain ⟨-, -, heq⟩ | ⟨-, -, heq⟩ | ⟨-, heq⟩ | ⟨-, heq⟩ := t.matched_cases sn u b h <;> rw [heq] <;>
    exact ⟨rfl, rfl, rfl, rfl⟩

theorem Track.matched_of_ended {cause : EndCause} (h : t.state = .ended cause) : t.matched sn u b = t := by
  simp only [Track.matched, h]

/-- A matched open track is seen, at its blob's place (R54). -/
theorem Track.matched_place (h : ∀ cause, t.state ≠ .ended cause) :
    (t.matched sn u b).id = t.id ∧ (t.matched sn u b).prev = some t.pos ∧
      (t.matched sn u b).seen = min (t.seen + 1) 255 := by
  obtain ⟨-, -, heq⟩ | ⟨-, -, heq⟩ | ⟨-, heq⟩ | ⟨-, heq⟩ := t.matched_cases sn u b h <;> rw [heq] <;>
    simp [Track.confirm]

theorem Track.latchHolds_matched {t : Track} (h : t.latchHolds) : (t.matched sn u b).latchHolds := by
  by_cases hended : ∀ cause, t.state ≠ .ended cause
  · obtain ⟨hcls, -, -, hlatched⟩ := t.matched_class sn u b hended
    rw [Track.latchHolds, hcls, hlatched]
    exact Track.latchHolds_classify (t := t.moved b) h sn u b.feat
  · push Not at hended
    obtain ⟨cause, hcause⟩ := hended
    rwa [t.matched_of_ended sn u b hcause]

end

/-! ## Misses (R55) -/

section
variable (t : Track) (lift : Nat)

theorem Track.unmatched_of_tentative (h : t.state = .tentative) : t.unmatched lift = none := by
  simp only [Track.unmatched, h]

theorem Track.unmatched_of_active (h : t.state = .active) : t.unmatched lift =
    if lift ≤ 1 then some { t with state := .ended .lift, endPending := true }
    else some { t with state := .missing, misses := 1 } := by
  simp only [Track.unmatched, h]
  rfl

theorem Track.unmatched_of_missing (h : t.state = .missing) : t.unmatched lift =
    if lift ≤ t.misses + 1 then some { t with state := .ended .lift, endPending := true, misses := t.misses + 1 }
    else some { t with misses := t.misses + 1 } := by
  simp only [Track.unmatched, h]
  rfl

/-- An unmatched track that stays keeps its name and its class, and is MISSING or has ended (R55). -/
theorem Track.unmatched_eq_some {y : Track} (h : t.unmatched lift = some y) :
    y.id = t.id ∧ y.cls = t.cls ∧ y.latched = t.latched ∧ t.state ≠ .tentative ∧
      (y.state = .missing ∨ ∃ cause, y.state = .ended cause) := by
  cases hstate : t.state with
  | tentative => rw [t.unmatched_of_tentative lift hstate] at h; cases h
  | active =>
    rw [t.unmatched_of_active lift hstate] at h
    split at h <;> cases h
    · exact ⟨rfl, rfl, rfl, nofun, .inr ⟨_, rfl⟩⟩
    · exact ⟨rfl, rfl, rfl, nofun, .inl rfl⟩
  | missing =>
    rw [t.unmatched_of_missing lift hstate] at h
    split at h <;> cases h
    · exact ⟨rfl, rfl, rfl, nofun, .inr ⟨_, rfl⟩⟩
    · exact ⟨rfl, rfl, rfl, nofun, .inl hstate⟩
  | ended cause =>
    simp only [Track.unmatched, hstate, Option.some.injEq] at h
    subst h
    exact ⟨rfl, rfl, rfl, nofun, .inr ⟨cause, hstate⟩⟩

end

/-! ## A slot after association (R54, R55) -/

section
variable (sn : Snapshot) (u : Surface) (blobs : List Blob) (pairs : List Candidate) (i : Nat)

theorem Track.takesPart_iff (t : Track) : t.takesPart = true ↔ ∀ cause, t.state ≠ .ended cause := by
  cases hstate : t.state <;> simp [Track.takesPart, Track.confirmed, hstate]

theorem slotAfter_of_paired {t : Track} {p : Candidate} {b : Blob} (htakes : t.takesPart = true)
    (hp : pairs.find? (fun c => c.slot == i) = some p) (hb : blobs[p.blob]? = some b) :
    slotAfter sn u blobs pairs i (some t) = some (t.matched sn u b) := by
  simp [slotAfter, htakes, hp, hb]

theorem slotAfter_of_unpaired {t : Track} (htakes : t.takesPart = true) (hno : ∀ p ∈ pairs, p.slot ≠ i) :
    slotAfter sn u blobs pairs i (some t) = t.unmatched (liftFrames sn.tables.tune) := by
  have hfind : pairs.find? (fun c => c.slot == i) = none :=
    List.find?_eq_none.mpr fun p hp => by simpa using hno p hp
  simp [slotAfter, htakes, hfind]

theorem slotAfter_of_out {t : Track} (htakes : t.takesPart = false) :
    slotAfter sn u blobs pairs i (some t) = some t := by
  simp [slotAfter, htakes]

/-- A track that association leaves in its slot is matched, missed or has ended before (R54, R55). -/
theorem slotAfter_eq_some {b : Option Track} {y : Track} (h : slotAfter sn u blobs pairs i b = some y) :
    ∃ x, b = some x ∧ ((x.takesPart = true ∧ ∃ blob, y = x.matched sn u blob) ∨
      (x.takesPart = true ∧ x.unmatched (liftFrames sn.tables.tune) = some y) ∨ (x.takesPart = false ∧ y = x)) := by
  unfold slotAfter at h
  split at h
  · cases h
  next x =>
    refine ⟨x, rfl, ?_⟩
    split at h
    next htakes =>
      split at h
      next blob _ => exact .inl ⟨htakes, blob, (Option.some.inj h).symm⟩
      · exact .inr (.inl ⟨htakes, h⟩)
    next htakes => exact .inr (.inr ⟨by simpa using htakes, (Option.some.inj h).symm⟩)

/-- A track that association leaves in its slot keeps its name and went through the operation (R58). -/
theorem slotAfter_keeps {b : Option Track} {y : Track} (h : slotAfter sn u blobs pairs i b = some y) :
    ∃ x, b = some x ∧ y.id = x.id ∧ openedHere (some y) = false ∧ (x.latchHolds → y.latchHolds) ∧
      (x.latchHolds → x.cls = .palm → y.cls = .palm) := by
  obtain ⟨x, rfl, ⟨htakes, blob, rfl⟩ | ⟨htakes, hmissed⟩ | ⟨hout, rfl⟩⟩ := slotAfter_eq_some sn u blobs pairs i h
  · have hopen := x.takesPart_iff.mp htakes
    obtain ⟨hid, hprev, -⟩ := x.matched_place sn u blob hopen
    refine ⟨x, rfl, hid, by simp [openedHere, hprev], Track.latchHolds_matched sn u blob, fun hlatch hpalm => ?_⟩
    rw [(x.matched_class sn u blob hopen).1, Track.withBlob, Track.classify_of_latched (t := x.moved blob) (hlatch.mpr hpalm)]
    exact hpalm
  · obtain ⟨hid, hcls, hlatched, -, hstate⟩ := x.unmatched_eq_some _ hmissed
    refine ⟨x, rfl, hid, ?_, fun hlatch => ?_, fun _ hpalm => hcls.trans hpalm⟩
    · obtain hmissing | ⟨cause, hended⟩ := hstate <;> simp [openedHere, *]
    · rwa [Track.latchHolds, hlatched, hcls]
  · have hended : ∃ cause, y.state = .ended cause := by
      by_contra hopen
      push Not at hopen
      rw [y.takesPart_iff.mpr hopen] at hout
      cases hout
    obtain ⟨cause, hended⟩ := hended
    exact ⟨y, rfl, rfl, by simp [openedHere, hended], id, fun _ hpalm => hpalm⟩

end

end Sys2Proof.Machine

/-! The opening of tracks in a live frame (R56, R58, R76, R77): the free ID, the free slot, the record and the hit;
O29. -/

namespace Sys2Proof.Machine

/-! ## Track IDs (R58) -/

/-- The ID after an ID in 1 to 255, 1 following 255. -/
def nextOf (n : Nat) : Nat := n % 255 + 1

theorem idAfter_eq {n : Nat} (h1 : 1 ≤ n) (h2 : n ≤ 255) : idAfter n = nextOf n := by
  unfold idAfter nextOf
  split <;> omega

theorem nextOf_range (n : Nat) : 1 ≤ nextOf n ∧ nextOf n ≤ 255 := by
  unfold nextOf
  omega

theorem nextOf_iterate {n : Nat} (h1 : 1 ≤ n) (h2 : n ≤ 255) (k : Nat) : nextOf^[k] n = (n - 1 + k) % 255 + 1 := by
  induction k with
  | zero => simp only [Function.iterate_zero, id]; omega
  | succ k ih =>
    rw [Function.iterate_succ_apply', ih]
    unfold nextOf
    omega

theorem nextOf_iterate_range {n : Nat} (h1 : 1 ≤ n) (h2 : n ≤ 255) (k : Nat) :
    1 ≤ nextOf^[k] n ∧ nextOf^[k] n ≤ 255 := by
  rw [nextOf_iterate h1 h2]
  omega

/-- The search ends at the first ID that is not held, when it is tried. -/
theorem freeId_eq {held : List Nat} {tries k n : Nat} (h1 : 1 ≤ n) (h2 : n ≤ 255) (hk : k < tries)
    (hheld : ∀ j < k, nextOf^[j] n ∈ held) (hfree : nextOf^[k] n ∉ held) : freeId held tries n = nextOf^[k] n := by
  induction tries generalizing k n with
  | zero => omega
  | succ tries ih =>
    cases k with
    | zero =>
      have hn : held.contains n = false := by simpa using hfree
      rw [freeId, hn]
      rfl
    | succ k =>
      have hn : held.contains n = true := by simpa using hheld 0 (by omega)
      obtain ⟨h1', h2'⟩ := nextOf_range n
      rw [freeId, if_pos hn, idAfter_eq h1 h2, Function.iterate_succ_apply]
      refine ih h1' h2' (by omega) (fun j hj => ?_) (by rwa [Function.iterate_succ_apply] at hfree)
      have hnext := hheld (j + 1) (by omega)
      rwa [Function.iterate_succ_apply] at hnext

/-- Twenty held IDs leave one free among twenty-one in a row (R58). -/
theorem exists_free {held : List Nat} (hlen : held.length ≤ 20) {n : Nat} (h1 : 1 ≤ n) (h2 : n ≤ 255) :
    ∃ k ≤ 20, nextOf^[k] n ∉ held := by
  by_contra hall
  push Not at hall
  have hnodup : ((List.range 21).map fun k => nextOf^[k] n).Nodup := by
    refine List.Nodup.map_on (fun j hj k hk heq => ?_) List.nodup_range
    rw [List.mem_range] at hj hk
    rw [nextOf_iterate h1 h2, nextOf_iterate h1 h2] at heq
    omega
  have hsub : ((List.range 21).map fun k => nextOf^[k] n) ⊆ held := by
    intro m hm
    obtain ⟨k, hk, rfl⟩ := List.mem_map.mp hm
    rw [List.mem_range] at hk
    exact hall k (by omega)
  have hle := (hnodup.subperm hsub).length_le
  simp only [List.length_map, List.length_range] at hle
  omega

/-- The free ID that an opening takes (R58). -/
theorem freeId_spec {held : List Nat} (hlen : held.length ≤ 20) {n : Nat} (h1 : 1 ≤ n) (h2 : n ≤ 255) :
    ∃ k ≤ 20, freeId held 21 n = nextOf^[k] n ∧ nextOf^[k] n ∉ held ∧ ∀ j < k, nextOf^[j] n ∈ held := by
  classical
  have hex : ∃ k, nextOf^[k] n ∉ held := (exists_free hlen h1 h2).imp fun k hk => hk.2
  obtain ⟨m, hm, hmfree⟩ := exists_free hlen h1 h2
  have hle : Nat.find hex ≤ 20 := (Nat.find_min' hex hmfree).trans hm
  have hheld : ∀ j < Nat.find hex, nextOf^[j] n ∈ held := fun j hj => by
    have hin := Nat.find_min hex hj
    push Not at hin
    exact hin
  exact ⟨Nat.find hex, hle, freeId_eq h1 h2 (by omega) hheld (Nat.find_spec hex), Nat.find_spec hex, hheld⟩

theorem TrackTable.heldIds_length {t : TrackTable} (h : t.shaped) : t.heldIds.length ≤ 20 := by
  obtain ⟨hpad, hpanel⟩ := h
  refine (List.length_filterMap_le _ _).trans ?_
  simp [hpad, hpanel]

/-! ## One opening (R56, R77) -/

theorem freeSlot_of_first {slots : List (Option Track)} {i : Nat} (hi : slots[i]? = some none)
    (hbefore : ∀ j, j < i → slots[j]? ≠ some none) : freeSlot slots = some i := by
  obtain ⟨hlt, hnone⟩ := List.getElem?_eq_some_iff.mp hi
  rw [freeSlot, List.findIdx?_eq_some_iff_getElem]
  refine ⟨hlt, by simp [hnone], fun j hj => ?_⟩
  have hj' := hbefore j hj
  rw [List.getElem?_eq_getElem (by omega)] at hj'
  simpa [Option.isSome_iff_ne_none] using hj'

theorem freeSlot_eq_none {slots : List (Option Track)} (h : ∀ r ∈ slots, r ≠ none) : freeSlot slots = none := by
  rw [freeSlot, List.findIdx?_eq_none_iff]
  intro r hr
  simpa [Option.isSome_iff_ne_none] using h r hr

theorem freeSlot_spec {slots : List (Option Track)} {i : Nat} (h : freeSlot slots = some i) :
    slots[i]? = some none ∧ ∀ j, j < i → slots[j]? ≠ some none := by
  rw [freeSlot, List.findIdx?_eq_some_iff_getElem] at h
  obtain ⟨hlt, hnone, hbefore⟩ := h
  refine ⟨by simpa [List.getElem?_eq_getElem hlt] using hnone, fun j hj => ?_⟩
  have hj' := hbefore j hj
  rw [List.getElem?_eq_getElem (by omega)]
  simpa [Option.isSome_iff_ne_none] using hj'

/-- An opening state with a track opened by a blob in a slot, under an ID (R56, R58, R77). -/
def Opening.opened (op : Opening) (sn : Snapshot) (u : Surface) (time : Time) (b : Blob) (i id : Nat) : Opening :=
  { table := { op.table with
      slots := op.table.slots.set u ((op.table.slots.get u).set i (some (openTrack sn u time id b)))
      nextId := idAfter id }
    hits := op.hits ++ ((palmHit sn u b.pos).map fun e => ((⟨u.firstSlot + i, id⟩ : TrackRef), e)).toList
    dropped := op.dropped }

theorem openOne_of_full {sn : Snapshot} {u : Surface} {time : Time} {op : Opening} {b : Blob}
    (h : freeSlot (op.table.slots.get u) = none) :
    openOne sn u time op b = { op with dropped := op.dropped + 1 } := by
  simp only [openOne, h]

theorem openOne_of_free {sn : Snapshot} {u : Surface} {time : Time} {op : Opening} {b : Blob} {i : Nat}
    (h : freeSlot (op.table.slots.get u) = some i) :
    openOne sn u time op b = op.opened sn u time b i (freeId op.table.heldIds 21 op.table.nextId) := by
  simp only [openOne, h]
  rfl

/-! ## The record of an opened track (R56, R73, R76, R77, R86) -/

/-- An entry's catch area holds a place on the surface (R77). -/
def PalmEntry.catches (e : PalmEntry) (u : Surface) (margin : Nat) (p : Pos) : Prop := e.surface = u ∧
  64 * (e.box.c0 - margin) ≤ p.x ∧ p.x ≤ 64 * min (e.box.c1 + margin) (u.columns - 1) ∧
  64 * (e.box.r0 - margin) ≤ p.y ∧ p.y ≤ 64 * min (e.box.r1 + margin) (u.rows - 1)

theorem catches_iff {e : PalmEntry} {u : Surface} {margin : Nat} {p : Pos} :
    (e.surface == u && (e.catchArea margin).holds p) = true ↔ e.catches u margin p := by
  rw [Bool.and_eq_true, beq_iff_eq, Rect.holds, decide_eq_true_eq, PalmEntry.catches]
  refine and_congr_right fun hsurface => ?_
  subst hsurface
  rfl

theorem catches_eq_false {e : PalmEntry} {u : Surface} {margin : Nat} {p : Pos} (h : ¬ e.catches u margin p) :
    (e.surface == u && (e.catchArea margin).holds p) = false := by
  rwa [← catches_iff, Bool.not_eq_true] at h

theorem palmHit_of_first {sn : Snapshot} {u : Surface} {p : Pos} {front back : List PalmEntry} {e : PalmEntry}
    (hpalm : sn.palm = front ++ e :: back) (he : e.catches u (palmMargin sn.tables.tune) p)
    (hfront : ∀ x ∈ front, ¬ x.catches u (palmMargin sn.tables.tune) p) : palmHit sn u p = some e := by
  rw [palmHit, hpalm]
  exact List.find?_eq_some_iff_append.mpr ⟨catches_iff.mpr he, front, back, rfl, fun x hx => by
    simp only [catches_eq_false (hfront x hx), Bool.not_false]⟩

theorem palmHit_eq_none {sn : Snapshot} {u : Surface} {p : Pos}
    (h : ∀ e ∈ sn.palm, ¬ e.catches u (palmMargin sn.tables.tune) p) : palmHit sn u p = none :=
  List.find?_eq_none.mpr fun e he => by simp only [catches_eq_false (h e he), Bool.false_eq_true, not_false_eq_true]

theorem palmHit_isSome {sn : Snapshot} {u : Surface} {p : Pos} :
    (palmHit sn u p).isSome = true ↔ ∃ e ∈ sn.palm, e.catches u (palmMargin sn.tables.tune) p := by
  simp only [palmHit, List.find?_isSome, catches_iff]

theorem inShadow_iff {sn : Snapshot} {u : Surface} {p : Pos} :
    inShadow sn u p = true ↔ u = .panel ∧ ∃ r, sn.shadow = some r ∧ r.holds p = true := by
  cases hshadow : sn.shadow <;> simp [inShadow, hshadow]

/-- An opening blob is forced to PALM (R76, R77). -/
def forcedAt (sn : Snapshot) (u : Surface) (p : Pos) : Bool := inShadow sn u p || (palmHit sn u p).isSome

section
variable (sn : Snapshot) (u : Surface) (time : Time) (id : Nat) (b : Blob)

/-- The class that an opening blob gives (R73, R76, R77). -/
def openClass : TrackClass :=
  if forcedAt sn u b.pos then .palm else rawClass sn.tables.shape u sn.posture b.feat

/-- An opened track is confirmed at once when one frame confirms (R57); its other values do not depend on it. -/
theorem openTrack_eq : openTrack sn u time id b =
    { id := id, state := if confirmFrames sn.tables.tune ≤ 1 then .active else .tentative, cls := openClass sn u b,
      candidate := openClass sn u b, votes := 0, latched := openClass sn u b == .palm, forced := forcedAt sn u b.pos,
      suppressed := u == .pad && sn.padQuiet, owner := none, pos := b.pos, prev := none, anchor := b.pos,
      zone := b.feat.zone, downTime := time, seen := 1, misses := 0, feat := b.feat,
      startPending := decide (confirmFrames sn.tables.tune ≤ 1), endPending := false } := by
  unfold openTrack
  by_cases h : confirmFrames sn.tables.tune ≤ 1 <;> simp only [h, if_true, if_false, decide_true, decide_false] <;> rfl

@[simp] theorem openTrack_id : (openTrack sn u time id b).id = id := by rw [openTrack_eq]
@[simp] theorem openTrack_owner : (openTrack sn u time id b).owner = none := by rw [openTrack_eq]
@[simp] theorem openTrack_prev : (openTrack sn u time id b).prev = none := by rw [openTrack_eq]

theorem openTrack_state : (openTrack sn u time id b).state = .tentative ∨ (openTrack sn u time id b).state = .active := by
  rw [openTrack_eq]
  dsimp only
  split
  · exact .inr rfl
  · exact .inl rfl

theorem openedHere_openTrack : openedHere (some (openTrack sn u time id b)) = true := by
  obtain h | h := openTrack_state sn u time id b <;> simp [openedHere, h]

theorem latchHolds_openTrack : (openTrack sn u time id b).latchHolds := by
  rw [openTrack_eq]
  simp [Track.latchHolds]

end

/-! ## All openings of a frame (R56) -/

/-- The FREE places of a list of slots, in order. -/
def freePlaces (slots : List (Option Track)) : List Nat :=
  (List.range slots.length).filter fun i => (slots.getD i none).isNone

theorem mem_freePlaces {slots : List (Option Track)} {i : Nat} : i ∈ freePlaces slots ↔ slots[i]? = some none := by
  simp only [freePlaces, List.mem_filter, List.mem_range, List.getD_eq_getElem?_getD]
  by_cases hi : i < slots.length
  · simp [hi]
  · simp [hi]

theorem freePlaces_set {slots : List (Option Track)} {i : Nat} {rest : List Nat} (h : freePlaces slots = i :: rest)
    (t : Track) : freePlaces (slots.set i (some t)) = rest := by
  have hnodup : (i :: rest).Nodup := h ▸ (List.nodup_range.filter _)
  have hfilter : freePlaces (slots.set i (some t)) = (freePlaces slots).filter fun j => decide (j ≠ i) := by
    simp only [freePlaces, List.length_set, List.filter_filter]
    refine List.filter_congr fun j hj => ?_
    rw [List.mem_range] at hj
    by_cases hji : j = i
    · subst hji
      simp [List.getD_eq_getElem?_getD, hj]
    · simp [List.getD_eq_getElem?_getD, List.getElem?_set_ne (Ne.symm hji), hji]
  rw [hfilter, h, List.filter_cons]
  simp only [ne_eq, not_true, decide_false, Bool.false_eq_true, if_false, List.filter_eq_self, decide_eq_true_eq]
  exact fun j hj heq => (List.nodup_cons.mp hnodup).1 (heq ▸ hj)

theorem freeSlot_eq_head (slots : List (Option Track)) : freeSlot slots = (freePlaces slots).head? := by
  cases h : freePlaces slots with
  | nil =>
    refine freeSlot_eq_none fun r hr hnone => ?_
    obtain ⟨i, hi⟩ := List.mem_iff_getElem?.mp hr
    exact List.not_mem_nil (h ▸ mem_freePlaces.mpr (hnone ▸ hi))
  | cons i rest =>
    have hsorted : (i :: rest).Pairwise (· < ·) := h ▸ List.pairwise_lt_range.filter _
    refine freeSlot_of_first (mem_freePlaces.mp (h ▸ List.mem_cons_self)) fun j hj hnone => ?_
    obtain rfl | hmem := List.mem_cons.mp (h ▸ mem_freePlaces.mpr hnone)
    · omega
    · have hlt := (List.pairwise_cons.mp hsorted).1 j hmem
      omega

/-- The opened tracks of a frame: the blobs fill the FREE places in order, the rest are dropped, and nothing else of the
surface's slots changes (R56). -/
structure Opening.fills (op op' : Opening) (sn : Snapshot) (u : Surface) (time : Time) (bs : List Blob) : Prop where
  length : (op'.table.slots.get u).length = (op.table.slots.get u).length
  taken : ∀ (n i : Nat) (b : Blob), (freePlaces (op.table.slots.get u))[n]? = some i → bs[n]? = some b →
    ∃ id, (op'.table.slots.get u)[i]? = some (some (openTrack sn u time id b))
  kept : ∀ i : Nat, (∀ n : Nat, (freePlaces (op.table.slots.get u))[n]? = some i → bs.length ≤ n) →
    (op'.table.slots.get u)[i]? = (op.table.slots.get u)[i]?
  dropped : op'.dropped = op.dropped + (bs.length - (freePlaces (op.table.slots.get u)).length)
  hits : op'.hits = op.hits ++ ((freePlaces (op.table.slots.get u)).zip bs).filterMap fun (i, b) =>
    ((op'.table.slots.get u).getD i none).bind fun y =>
      (palmHit sn u b.pos).map fun e => ((⟨u.firstSlot + i, y.id⟩ : TrackRef), e)

theorem openOne_fills (sn : Snapshot) (u : Surface) (time : Time) (bs : List Blob) (op : Opening) :
    op.fills (bs.foldl (openOne sn u time) op) sn u time bs := by
  induction bs generalizing op with
  | nil => exact ⟨rfl, fun n i b _ hb => by simp at hb, fun _ _ => rfl, by simp, by simp⟩
  | cons b bs ih =>
    rw [List.foldl_cons]
    cases hfree : freePlaces (op.table.slots.get u) with
    | nil =>
      have hfull := openOne_of_full (sn := sn) (time := time) (b := b)
        ((freeSlot_eq_head (op.table.slots.get u)).trans (by rw [hfree]; rfl))
      obtain ⟨hlength, htaken, hkept, hdropped, hhits⟩ := ih { op with dropped := op.dropped + 1 }
      rw [hfull]
      rw [hfree] at hkept hdropped hhits
      refine ⟨hlength, fun n i b' hn _ => ?_, fun i _ => hkept i (by simp), ?_, ?_⟩
      · rw [hfree] at hn
        cases hn
      · rw [hdropped, hfree]
        simp only [List.length_cons, List.length_nil]
        omega
      · rw [hhits, hfree]
        rfl
    | cons i rest =>
      have hi : (op.table.slots.get u)[i]? = some none := mem_freePlaces.mp (hfree ▸ List.mem_cons_self)
      obtain ⟨hlt, -⟩ := List.getElem?_eq_some_iff.mp hi
      have hopen := openOne_of_free (sn := sn) (time := time) (b := b)
        ((freeSlot_eq_head (op.table.slots.get u)).trans (by rw [hfree]; rfl))
      generalize hid : freeId op.table.heldIds 21 op.table.nextId = id at hopen
      have hslots : (op.opened sn u time b i id).table.slots.get u =
          (op.table.slots.get u).set i (some (openTrack sn u time id b)) := PerSurface.get_set_same _ _ _
      obtain ⟨hlength, htaken, hkept, hdropped, hhits⟩ := ih (op.opened sn u time b i id)
      rw [hslots] at hlength htaken hkept hdropped hhits
      rw [freePlaces_set hfree] at htaken hkept hdropped hhits
      have hinotin : i ∉ rest := (List.nodup_cons.mp (hfree ▸ List.nodup_range.filter _)).1
      have hplaced : ((bs.foldl (openOne sn u time) (op.opened sn u time b i id)).table.slots.get u)[i]? =
          some (some (openTrack sn u time id b)) := by
        rw [hkept i fun n hn => absurd (List.mem_of_getElem? hn) hinotin]
        simp [hlt]
      rw [hopen]
      refine ⟨by simpa using hlength, fun n j b' hn hb' => ?_, fun j hj => ?_, ?_, ?_⟩
      · rw [hfree] at hn
        cases n with
        | zero =>
          simp only [List.getElem?_cons_zero, Option.some.injEq] at hn hb'
          subst hn hb'
          exact ⟨id, hplaced⟩
        | succ n => exact htaken n j b' (by simpa using hn) (by simpa using hb')
      · rw [hfree] at hj
        have hji : i ≠ j := by
          rintro rfl
          simpa using hj 0 rfl
        rw [hkept j fun n hn => by simpa using hj (n + 1) (by simpa using hn), List.getElem?_set_ne hji]
      · rw [hdropped, hfree]
        simp only [List.length_cons, Opening.opened]
        omega
      · rw [hhits, hfree]
        have hplaced' : ((bs.foldl (openOne sn u time) (op.opened sn u time b i id)).table.slots.get u).getD i none =
            some (openTrack sn u time id b) := by
          rw [List.getD_eq_getElem?_getD, hplaced]
          rfl
        simp only [Opening.opened, List.zip_cons_cons, List.filterMap_cons, List.append_assoc] at hplaced' ⊢
        rw [hplaced']
        simp only [Option.bind_some, openTrack_id]
        cases palmHit sn u b.pos <;> rfl

/-! ## The slots of a live frame -/

/-- The surface's slots after association (R54, R55). -/
def slotsMatched (sn : Snapshot) (u : Surface) (blobs : List Blob) : List (Option Track) :=
  (sn.tracks.slots.get u).zipIdx.map fun (r, i) =>
    slotAfter sn u blobs (associate (gateRadius sn.tables.tune) u (sn.tracks.slots.get u) blobs) i r

/-- The unmatched blobs of a frame, in list order (R56). -/
def unpairedBlobs (sn : Snapshot) (u : Surface) (blobs : List Blob) : List Blob :=
  blobs.zipIdx.filterMap fun (b, j) =>
    if (associate (gateRadius sn.tables.tune) u (sn.tracks.slots.get u) blobs).any (·.blob == j) then none else some b

/-- The opening state after association. -/
def openingAt (sn : Snapshot) (u : Surface) (blobs : List Blob) : Opening :=
  { table := { sn.tracks with slots := sn.tracks.slots.set u (slotsMatched sn u blobs) }, hits := [], dropped := 0 }

theorem trackFrame_eq (sn : Snapshot) (u : Surface) (time : Time) (blobs : List Blob) : trackFrame sn u time blobs =
    (unpairedBlobs sn u blobs).foldl (openOne sn u time) (openingAt sn u blobs) := rfl

theorem slotsMatched_getElem? (sn : Snapshot) (u : Surface) (blobs : List Blob) (i : Nat) :
    (slotsMatched sn u blobs)[i]? = ((sn.tracks.slots.get u)[i]?).map
      (slotAfter sn u blobs (associate (gateRadius sn.tables.tune) u (sn.tracks.slots.get u) blobs) i) := by
  simp [slotsMatched, List.getElem?_zipIdx, Function.comp_def]

@[simp] theorem slotsMatched_length (sn : Snapshot) (u : Surface) (blobs : List Blob) :
    (slotsMatched sn u blobs).length = (sn.tracks.slots.get u).length := by
  simp [slotsMatched]

theorem openingAt_slots (sn : Snapshot) (u : Surface) (blobs : List Blob) :
    (openingAt sn u blobs).table.slots.get u = slotsMatched sn u blobs := PerSurface.get_set_same _ _ _

theorem liveWork_fills (sn : Snapshot) (u : Surface) (f : ReadyFrame) :
    (openingAt sn u (liveWork sn u f).extraction.blobs).fills (liveWork sn u f).opening sn u f.time
      (unpairedBlobs sn u (liveWork sn u f).extraction.blobs) := openOne_fills _ _ _ _ _

theorem liveWork_after (sn : Snapshot) (u : Surface) (f : ReadyFrame) :
    (liveWork sn u f).after = (liveWork sn u f).opening.table.slots.get u := rfl

theorem TrackTable.shaped_get {t : TrackTable} (h : t.shaped) (u : Surface) : (t.slots.get u).length = 10 := by
  cases u
  · exact h.1
  · exact h.2

theorem liveWork_after_length {sn : Snapshot} (h : sn.tracks.shaped) (u : Surface) (f : ReadyFrame) :
    (liveWork sn u f).after.length = 10 := by
  rw [liveWork_after, (liveWork_fills sn u f).length, openingAt_slots, slotsMatched_length, TrackTable.shaped_get h]

/-- A slot after a live frame holds what association left in it, or a track opened where that is nothing (R56). -/
theorem liveWork_slot (sn : Snapshot) (u : Surface) (f : ReadyFrame) (i : Nat) :
    (liveWork sn u f).after[i]? = (slotsMatched sn u (liveWork sn u f).extraction.blobs)[i]? ∨
      ((slotsMatched sn u (liveWork sn u f).extraction.blobs)[i]? = some none ∧
        ∃ id b, (liveWork sn u f).after[i]? = some (some (openTrack sn u f.time id b))) := by
  have hfills := liveWork_fills sn u f
  have htaken := hfills.taken
  have hkept := hfills.kept
  rw [openingAt_slots] at htaken hkept
  rw [liveWork_after]
  by_cases hopen : ∃ n, (freePlaces (slotsMatched sn u (liveWork sn u f).extraction.blobs))[n]? = some i ∧
      n < (unpairedBlobs sn u (liveWork sn u f).extraction.blobs).length
  · obtain ⟨n, hn, hlt⟩ := hopen
    obtain ⟨id, hid⟩ := htaken n i _ hn (List.getElem?_eq_getElem hlt)
    exact .inr ⟨mem_freePlaces.mp (List.mem_of_getElem? hn), id, _, hid⟩
  · push Not at hopen
    exact .inl (hkept i hopen)

/-- A slot that association does not free is as association leaves it (R54, R55). -/
theorem liveWork_kept {sn : Snapshot} {u : Surface} {f : ReadyFrame} {i : Nat} {y : Track}
    (h : (slotsMatched sn u (liveWork sn u f).extraction.blobs)[i]? = some (some y)) :
    (liveWork sn u f).after[i]? = some (some y) := by
  obtain hsame | ⟨hfree, -⟩ := liveWork_slot sn u f i
  · rw [hsame, h]
  · rw [hfree] at h
    cases h

end Sys2Proof.Machine

/-! New tracks of a live frame: O29 (R56, R58, R73, R76, R77, R86). -/

namespace Sys2Proof.Machine

/-! ## Which places and which blobs -/

theorem filterMap_getElem?_of_isSome {α β : Type} {g : α → Option β} {l : List α} (h : ∀ a ∈ l, (g a).isSome = true)
    (n : Nat) : (l.filterMap g)[n]? = l[n]?.bind g := by
  induction l generalizing n with
  | nil => rfl
  | cons a l ih =>
    obtain ⟨ha, hl⟩ := List.forall_mem_cons.mp h
    obtain ⟨b, hb⟩ := Option.isSome_iff_exists.mp ha
    cases n with
    | zero => simp [hb]
    | succ n => simpa [hb] using ih hl n

theorem filterMap_length_of_isSome {α β : Type} {g : α → Option β} {l : List α} (h : ∀ a ∈ l, (g a).isSome = true) :
    (l.filterMap g).length = l.length := by
  induction l with
  | nil => rfl
  | cons a l ih =>
    obtain ⟨ha, hl⟩ := List.forall_mem_cons.mp h
    obtain ⟨b, hb⟩ := Option.isSome_iff_exists.mp ha
    simp [hb, ih hl]

theorem zip_filterMap_of_isSome {α β γ δ : Type} {g : α → Option β} {l : List α} (h : ∀ a ∈ l, (g a).isSome = true)
    (xs : List γ) (k : γ × β → Option δ) : (xs.zip (l.filterMap g)).filterMap k =
      (xs.zip l).filterMap fun (x, a) => (g a).bind fun b => k (x, b) := by
  induction l generalizing xs with
  | nil => simp
  | cons a l ih =>
    obtain ⟨ha, hl⟩ := List.forall_mem_cons.mp h
    obtain ⟨b, hb⟩ := Option.isSome_iff_exists.mp ha
    cases xs with
    | nil => simp
    | cons x xs => simp [hb, List.filterMap_cons, ih hl]

/-- The blobs that association leaves unmatched, by their list indices (R56). -/
def freshBlobs (pairs : List Candidate) (blobs : List Blob) : List Nat :=
  (List.range blobs.length).filter fun j => pairs.all fun p => p.blob != j

theorem freshBlobs_isSome {pairs : List Candidate} {blobs : List Blob} :
    ∀ j ∈ freshBlobs pairs blobs, blobs[j]?.isSome = true := by
  intro j hj
  have hlt := List.mem_range.mp (List.mem_filter.mp hj).1
  simp [hlt]

theorem zipIdx_filterMap {α β : Type} (l : List α) (g : α × Nat → Option β) :
    l.zipIdx.filterMap g = (List.range l.length).filterMap fun j => l[j]?.bind fun a => g (a, j) := by
  have hzip : l.zipIdx = (List.range l.length).filterMap fun j => l[j]?.map fun a => (a, j) := by
    apply List.ext_getElem?
    intro n
    rw [filterMap_getElem?_of_isSome fun j hj => by simpa using List.mem_range.mp hj, List.getElem?_zipIdx]
    by_cases hn : n < l.length <;> simp [hn]
  rw [hzip, List.filterMap_filterMap]
  refine List.filterMap_congr fun j _ => ?_
  cases l[j]? <;> rfl

theorem unpairedBlobs_eq (sn : Snapshot) (u : Surface) (blobs : List Blob) : unpairedBlobs sn u blobs =
    (freshBlobs (associate (gateRadius sn.tables.tune) u (sn.tracks.slots.get u) blobs) blobs).filterMap
      fun j => blobs[j]? := by
  rw [unpairedBlobs, zipIdx_filterMap, freshBlobs, List.filterMap_filter]
  refine List.filterMap_congr fun j _ => ?_
  generalize associate (gateRadius sn.tables.tune) u (sn.tracks.slots.get u) blobs = pairs
  have hnot : (pairs.any fun p => p.blob == j) = !(pairs.all fun p => p.blob != j) := by
    rw [List.any_eq_not_all_not]
    rfl
  simp only [hnot]
  cases pairs.all fun p => p.blob != j <;> cases blobs[j]? <;> rfl

theorem unpairedBlobs_getElem? (sn : Snapshot) (u : Surface) (blobs : List Blob) (n : Nat) :
    (unpairedBlobs sn u blobs)[n]? =
      (freshBlobs (associate (gateRadius sn.tables.tune) u (sn.tracks.slots.get u) blobs) blobs)[n]?.bind
        fun j => blobs[j]? := by
  rw [unpairedBlobs_eq, filterMap_getElem?_of_isSome freshBlobs_isSome]

theorem unpairedBlobs_length (sn : Snapshot) (u : Surface) (blobs : List Blob) : (unpairedBlobs sn u blobs).length =
    (freshBlobs (associate (gateRadius sn.tables.tune) u (sn.tracks.slots.get u) blobs) blobs).length := by
  rw [unpairedBlobs_eq, filterMap_length_of_isSome freshBlobs_isSome]

/-- A paired slot finds its pair, whose blob is in the list (R53, R54). -/
theorem paired_find {gate : Nat} {u : Surface} {slots : List (Option Track)} {blobs : List Blob} {i : Nat}
    (h : ∃ p ∈ associate gate u slots blobs, p.slot = i) : ∃ p b, p ∈ associate gate u slots blobs ∧ p.slot = i ∧
      (associate gate u slots blobs).find? (fun c => c.slot == i) = some p ∧ blobs[p.blob]? = some b := by
  obtain ⟨q, hq, hqi⟩ := h
  have hsome : ((associate gate u slots blobs).find? fun c => c.slot == i).isSome = true :=
    List.find?_isSome.mpr ⟨q, hq, by simpa using hqi⟩
  obtain ⟨p, hp⟩ := Option.isSome_iff_exists.mp hsome
  have hmem := List.mem_of_find?_eq_some hp
  obtain ⟨t, b, -, hb, -⟩ := mem_candidates.mp (associate_subset gate u slots blobs hmem)
  exact ⟨p, b, hmem, by simpa using List.find?_some hp, hp, hb⟩

/-- Association frees a slot that was FREE, or whose TENTATIVE track has no blob (R55). -/
theorem slotAfter_eq_none_iff {sn : Snapshot} {u : Surface} {slots : List (Option Track)} {blobs : List Blob} {gate i : Nat}
    (r : Option Track) : slotAfter sn u blobs (associate gate u slots blobs) i r = none ↔
      ∀ x, r = some x → x.state = .tentative ∧ ∀ p ∈ associate gate u slots blobs, p.slot ≠ i := by
  cases r with
  | none => simp [slotAfter]
  | some x =>
    simp only [Option.some.injEq, forall_eq']
    cases htakes : x.takesPart with
    | false =>
      rw [slotAfter_of_out sn u blobs _ i htakes]
      refine ⟨nofun, fun ⟨htentative, _⟩ => ?_⟩
      simp [Track.takesPart, htentative] at htakes
    | true =>
      by_cases hpaired : ∃ p ∈ associate gate u slots blobs, p.slot = i
      · obtain ⟨p, b, hp, hpi, hfind, hb⟩ := paired_find hpaired
        rw [slotAfter_of_paired sn u blobs _ i htakes hfind hb]
        exact ⟨nofun, fun ⟨_, hno⟩ => absurd hpi (hno p hp)⟩
      · push Not at hpaired
        rw [slotAfter_of_unpaired sn u blobs _ i htakes hpaired]
        refine ⟨fun hnone => ⟨?_, hpaired⟩, fun ⟨htentative, _⟩ => x.unmatched_of_tentative _ htentative⟩
        by_contra hstate
        cases hx : x.state with
        | tentative => exact hstate hx
        | active =>
          rw [x.unmatched_of_active _ hx] at hnone
          split at hnone <;> cases hnone
        | missing =>
          rw [x.unmatched_of_missing _ hx] at hnone
          split at hnone <;> cases hnone
        | ended cause => simp [Track.unmatched, hx] at hnone

/-- The places that a frame's new tracks may take, those freed in it among them (R56). -/
theorem freePlaces_slotsMatched {sn : Snapshot} (h : sn.tracks.shaped) (u : Surface) (blobs : List Blob) :
    freePlaces (slotsMatched sn u blobs) = (List.range 10).filter fun i =>
      ((sn.tracks.slots.get u).getD i none).all fun x => x.state == .tentative &&
        (associate (gateRadius sn.tables.tune) u (sn.tracks.slots.get u) blobs).all (fun p => p.slot != i) := by
  have hlen := TrackTable.shaped_get h u
  rw [freePlaces, slotsMatched_length, hlen]
  refine List.filter_congr fun i hi => ?_
  rw [List.mem_range] at hi
  rw [List.getD_eq_getElem?_getD, List.getD_eq_getElem?_getD, slotsMatched_getElem?, Bool.eq_iff_iff,
    List.getElem?_eq_getElem (by omega), Option.map_some, Option.getD_some, Option.getD_some, Option.isNone_iff_eq_none,
    slotAfter_eq_none_iff]
  cases (sn.tracks.slots.get u)[i] <;> simp

theorem openOne_spec (sn : Snapshot) (u : Surface) (time : Time) (op : Opening) (b : Blob) (i : Nat)
    (hshaped : op.table.shaped) (h1 : 1 ≤ op.table.nextId) (h2 : op.table.nextId ≤ 255)
    (hi : (op.table.slots.get u)[i]? = some none) (hbefore : ∀ j, j < i → (op.table.slots.get u)[j]? ≠ some none) :
    ∃ k ≤ 20, nextOf^[k] op.table.nextId ∉ op.table.heldIds ∧
      (∀ j < k, nextOf^[j] op.table.nextId ∈ op.table.heldIds) ∧
      openOne sn u time op b = op.opened sn u time b i (nextOf^[k] op.table.nextId) := by
  obtain ⟨k, hk, heq, hfree, hheld⟩ := freeId_spec (TrackTable.heldIds_length hshaped) h1 h2
  refine ⟨k, hk, hfree, hheld, ?_⟩
  rw [openOne_of_free (freeSlot_of_first hi hbefore), heq]

/-- Settles O29. -/
theorem newIdsAreFree : Obligations.NewIdsAreFree := by
  refine ⟨fun sn u time op b i hshaped h1 h2 hi hbefore => ?_, fun sn u time op b hfull => ?_,
    fun sn u time id b => ?_, fun sn u f hshaped => ?_⟩
  · obtain ⟨k, hk, hfree, hheld, hopen⟩ := openOne_spec sn u time op b i hshaped h1 h2 hi hbefore
    obtain ⟨hlow, hhigh⟩ := nextOf_iterate_range h1 h2 k
    refine ⟨k, hk, hfree, hlow, hhigh, hheld, ?_, by rw [hopen]; rfl, by rw [hopen]; rfl⟩
    rw [hopen]
    simp only [Opening.opened, idAfter_eq hlow hhigh]
    rfl
  · exact openOne_of_full (freeSlot_eq_none hfull)
  · have hforced : forcedAt sn u b.pos = true ↔
        (u = .panel ∧ ∃ r, sn.shadow = some r ∧ r.holds b.pos = true) ∨
          ∃ e ∈ sn.palm, e.catches u (palmMargin sn.tables.tune) b.pos := by
      rw [forcedAt, Bool.or_eq_true, inShadow_iff, palmHit_isSome]
    dsimp only
    rw [openTrack_eq]
    refine ⟨rfl, hforced, fun h => if_pos (hforced.mpr h), fun h => if_neg fun hf => h (hforced.mp hf), by simp,
      by simp, fun h => by simp [h], fun h => by simp [Nat.not_le.mpr h], fun front e back => palmHit_of_first,
      palmHit_eq_none⟩
  · dsimp only
    have hfills := liveWork_fills sn u f
    generalize hblobs : (liveWork sn u f).extraction.blobs = blobs at hfills ⊢
    have htaken := hfills.taken
    have hkept := hfills.kept
    have hdropped := hfills.dropped
    have hhits := hfills.hits
    rw [openingAt_slots, freePlaces_slotsMatched hshaped] at htaken hkept hdropped hhits
    rw [unpairedBlobs_length] at hkept hdropped
    refine ⟨fun n i j b hi hj hb => ?_, fun n i hi hn => ?_, ?_, ?_⟩
    · refine htaken n i b hi ?_
      rw [unpairedBlobs_getElem?]
      exact (congrArg (·.bind fun j => blobs[j]?) hj).trans hb
    · rw [liveWork_after, hkept i fun m hm => ?_]
      · have hmem := List.mem_of_getElem? hi
        exact mem_freePlaces.mp (freePlaces_slotsMatched hshaped u blobs ▸ hmem)
      · have hnodup : ((List.range 10).filter fun i => ((sn.tracks.slots.get u).getD i none).all fun x =>
            x.state == .tentative && (associate (gateRadius sn.tables.tune) u (sn.tracks.slots.get u) blobs).all
              (fun p => p.slot != i)).Nodup := List.nodup_range.filter _
        have hmn : m = n := (List.getElem?_inj (List.getElem?_eq_some_iff.mp hm).1 hnodup).mp (hm.trans hi.symm)
        rw [hmn]
        exact hn
    · rw [hdropped]
      exact Nat.zero_add _
    · rw [hhits, unpairedBlobs_eq, zip_filterMap_of_isSome freshBlobs_isSome]
      rfl

end Sys2Proof.Machine

/-! CONTACT reports (R60, R61, R67 to R69): their entries, and what their admission announces. -/

namespace Sys2Proof.Machine

/-! ## Slot numbers (R48) -/

theorem slotSurface_firstSlot_add (u : Surface) {i : Nat} (h : i < 10) : slotSurface (u.firstSlot + i) = u := by
  cases u with
  | pad => simp [slotSurface, Surface.firstSlot, h]
  | panel => simp [slotSurface, Surface.firstSlot]

theorem TrackTable.at_firstSlot_add {t : TrackTable} {u : Surface} {i : Nat} (h : i < 10) :
    t.at (u.firstSlot + i) = (t.slots.get u).getD i none := by
  simp [TrackTable.at, slotSurface_firstSlot_add u h]

theorem TrackTable.put_firstSlot_add {t : TrackTable} {u : Surface} {i : Nat} (h : i < 10) (r : Option Track) :
    t.put (u.firstSlot + i) r = { t with slots := t.slots.set u ((t.slots.get u).set i r) } := by
  simp [TrackTable.put, slotSurface_firstSlot_add u h]

/-! ## Entries (R67) -/

theorem Track.mark_eq_some {x : Track} {m : ContactMark} : x.mark = some m ↔
    (x.state = .active ∨ x.state = .missing) ∧ x.startPending = true ∧ m = .new ∨
      (x.state = .active ∨ x.state = .missing) ∧ x.startPending = false ∧ m = .ongoing ∨
      ∃ cause, x.state = .ended cause ∧ x.endPending = true ∧ m = .ended cause x.startPending := by
  unfold Track.mark
  cases hstate : x.state with
  | tentative => simp
  | active => cases x.startPending <;> simp [@eq_comm _ m]
  | missing => cases x.startPending <;> simp [@eq_comm _ m]
  | ended cause => cases x.endPending <;> simp [@eq_comm _ m]

theorem contactEntry_eq_some {n : Nat} {x : Track} {e : ContactEntry} : contactEntry n (some x) = some e ↔
    x.mark = some e.mark ∧ e.track = ⟨n, x.id⟩ ∧ e.cls = x.cls ∧ e.suppressed = x.suppressed ∧
      e.forced = x.forced ∧ e.owner = x.owner ∧ e.pos = x.pos ∧ e.matchArea = min x.feat.area 255 ∧
      e.peak = x.feat.peak ∧ e.zone = x.zone := by
  simp only [contactEntry, Option.bind_some, Option.map_eq_some_iff]
  constructor
  · rintro ⟨m, hm, rfl⟩
    exact ⟨hm, rfl, rfl, rfl, rfl, rfl, rfl, rfl, rfl, rfl⟩
  · obtain ⟨track, mark, cls, suppressed, forced, owner, pos, matchArea, peak, zone⟩ := e
    rintro ⟨hm, rfl, rfl, rfl, rfl, rfl, rfl, rfl, rfl, rfl⟩
    exact ⟨mark, hm, rfl⟩

theorem contactEntry_of_free (n : Nat) : contactEntry n none = none := rfl

theorem mem_entries {t : TrackTable} {u : Surface} {e : ContactEntry} : e ∈ t.entries u ↔
    ∃ i x, (t.slots.get u)[i]? = some (some x) ∧ contactEntry (u.firstSlot + i) (some x) = some e := by
  simp only [TrackTable.entries, List.mem_filterMap, Prod.exists, List.mk_mem_zipIdx_iff_getElem?]
  constructor
  · rintro ⟨r, i, hr, he⟩
    cases r with
    | none => cases he
    | some x => exact ⟨i, x, hr, he⟩
  · rintro ⟨i, x, hx, he⟩
    exact ⟨some x, i, hx, he⟩

theorem entries_pairwise (t : TrackTable) (u : Surface) :
    (t.entries u).Pairwise fun a b => a.track.slot < b.track.slot := by
  have hsorted : ((t.slots.get u).zipIdx).Pairwise fun a b => a.2 < b.2 :=
    List.pairwise_map.mp (by simpa [List.zipIdx_map_snd] using List.pairwise_lt_range' (s := 0))
  refine List.pairwise_filterMap.mpr (hsorted.imp ?_)
  rintro ⟨r, i⟩ ⟨r', j⟩ hij e he e' he'
  cases r with
  | none => cases he
  | some x =>
    cases r' with
    | none => cases he'
    | some x' =>
      rw [(contactEntry_eq_some.mp he).2.1, (contactEntry_eq_some.mp he').2.1]
      exact Nat.add_lt_add_left hij _

/-! ## Announcements (R60) -/

theorem PerSurface.set_get {α : Type} (p : PerSurface α) (u : Surface) : p.set u (p.get u) = p := by
  cases u <;> rfl

theorem PerSurface.set_set {α : Type} (p : PerSurface α) (u : Surface) (a b : α) : (p.set u a).set u b = p.set u b := by
  cases u <;> rfl

theorem announcedSlot_of_unlisted {n : Nat} {r : Option Track} (h : contactEntry n r = none) : announcedSlot r = r := by
  cases r with
  | none => rfl
  | some x =>
    have hmark : x.mark = none := by simpa [contactEntry] using h
    unfold Track.mark at hmark
    cases hstate : x.state <;> simp_all [announcedSlot]

/-- The announcement of a listed slot (R60). -/
theorem announce_slot {t : TrackTable} {u : Surface} {i : Nat} {x : Track} {e : ContactEntry} (hi : i < 10)
    (hx : (t.slots.get u)[i]? = some (some x)) (he : contactEntry (u.firstSlot + i) (some x) = some e) :
    t.announce e = { t with slots := t.slots.set u ((t.slots.get u).set i (announcedSlot (some x))) } := by
  obtain ⟨hmark, htrack, -⟩ := contactEntry_eq_some.mp he
  have hat : t.at (u.firstSlot + i) = some x := by
    rw [TrackTable.at_firstSlot_add hi, List.getD_eq_getElem?_getD, hx]
    rfl
  have hon (f : Track → Option Track) : t.onTrack e.track f =
      { t with slots := t.slots.set u ((t.slots.get u).set i (f x)) } := by
    rw [← TrackTable.put_firstSlot_add hi]
    simp [TrackTable.onTrack, htrack, hat]
  unfold TrackTable.announce
  obtain ⟨hstate, hpending, hm⟩ | ⟨hstate, hpending, hm⟩ | ⟨cause, hstate, hpending, hm⟩ := Track.mark_eq_some.mp hmark
  · rw [hm]
    dsimp only
    rw [hon]
    obtain hstate | hstate := hstate <;> simp [announcedSlot, hstate]
  · rw [hm]
    have hsame : announcedSlot (some x) = some x := by
      have hstart : { x with startPending := false } = x := by rw [← hpending]
      obtain hstate | hstate := hstate <;> simpa [announcedSlot, hstate] using hstart
    have hself : (t.slots.get u).set i (some x) = t.slots.get u := by
      obtain ⟨hlt, heq⟩ := List.getElem?_eq_some_iff.mp hx
      rw [← heq, List.set_getElem_self]
    rw [hsame, hself, PerSurface.set_get]
  · rw [hm]
    dsimp only
    rw [hon]
    simp [announcedSlot, hstate, hpending]

/-- The announcement of a surface's slots from a place on (R60). -/
theorem announce_from {u : Surface} (l front : List (Option Track)) {t : TrackTable}
    (hslots : t.slots.get u = front ++ l) (hlen : front.length + l.length ≤ 10) :
    ((l.zipIdx front.length).filterMap fun (r, i) => contactEntry (u.firstSlot + i) r).foldl TrackTable.announce t =
      { t with slots := t.slots.set u (front ++ l.map announcedSlot) } := by
  induction l generalizing front t with
  | nil => simp [← hslots, PerSurface.set_get]
  | cons r l ih =>
    have hrest (t' : TrackTable) (r' : Option Track) (h : t'.slots.get u = (front ++ [r']) ++ l) := ih (front ++ [r']) h
      (by simp only [List.length_append, List.length_cons, List.length_nil] at hlen ⊢; omega)
    simp only [List.length_append, List.length_cons, List.length_nil, Nat.zero_add] at hrest
    have hi : front.length < 10 := by
      simp only [List.length_cons] at hlen
      omega
    rw [List.zipIdx_cons, List.filterMap_cons]
    dsimp only
    cases he : contactEntry (u.firstSlot + front.length) r with
    | none =>
      rw [hrest t r (by simp [hslots]), List.map_cons, announcedSlot_of_unlisted he]
      simp
    | some e =>
      cases r with
      | none => cases he
      | some x =>
        have hx : (t.slots.get u)[front.length]? = some (some x) := by simp [hslots]
        rw [List.foldl_cons, announce_slot hi hx he, hrest _ (announcedSlot (some x)) (by simp [hslots])]
        simp [PerSurface.set_set]

/-- A report built now and admitted announces every listed track (R60, R67). -/
theorem announce_entries {t : TrackTable} (h : t.shaped) (u : Surface) :
    (t.entries u).foldl TrackTable.announce t =
      { t with slots := t.slots.set u ((t.slots.get u).map announcedSlot) } :=
  announce_from (t.slots.get u) [] (t := t) rfl (by simp [TrackTable.shaped_get h])

/-- A CONTACT report of a surface, built now, admitted or dropped (R60, R61). -/
theorem State.offerContact_built {s : State} (h : s.tracks.shaped) (time : Time) (u : Surface) (cause : ContactCause) :
    (hasRoom s.queue = true ∧
        s.offerContact time { surface := u, cause := cause, entries := s.tracks.entries u } =
          { s.enqueue time (.contact { surface := u, cause := cause, entries := s.tracks.entries u }) with
            tracks := { s.tracks with slots := s.tracks.slots.set u ((s.tracks.slots.get u).map announcedSlot) } }) ∨
      (hasRoom s.queue = false ∧
        s.offerContact time { surface := u, cause := cause, entries := s.tracks.entries u } = s) := by
  obtain ⟨hroom, heq⟩ | ⟨hfull, heq⟩ := s.offerContact_cases time ⟨u, cause, s.tracks.entries u⟩
  · exact .inl ⟨hroom, by rw [heq, announce_entries h]⟩
  · exact .inr ⟨hfull, heq⟩

/-! ## Reports that are called for (R68, R69) -/

theorem Track.pending_iff {x : Track} : x.pending = true ↔
    (x.state = .active ∨ x.state = .missing) ∧ x.startPending = true ∨ ∃ cause, x.state = .ended cause := by
  unfold Track.pending
  cases hstate : x.state <;> simp

theorem TrackTable.announcePending_iff {t : TrackTable} {u : Surface} : t.announcePending u = true ↔
    ∃ x, some x ∈ t.slots.get u ∧
      ((x.state = .active ∨ x.state = .missing) ∧ x.startPending = true ∨ ∃ cause, x.state = .ended cause) := by
  simp only [TrackTable.announcePending, List.any_eq_true, Option.any_eq_true, Track.pending_iff]
  constructor
  · rintro ⟨r, hr, x, rfl, hx⟩
    exact ⟨x, hr, hx⟩
  · rintro ⟨x, hr, hx⟩
    exact ⟨some x, hr, x, rfl, hx⟩

end Sys2Proof.Machine

/-! What moves leave of the track table: the tracks in their slots, with their names, states and classes; ended ones
may have gone (R50, R60). -/

namespace Sys2Proof.Machine

/-! ## Tracks and slots that moves leave alone -/

/-- A track with the name, the state, the class and the latch of another. -/
def Track.carries (x y : Track) : Prop := y.id = x.id ∧ y.state = x.state ∧ y.cls = x.cls ∧ y.latched = x.latched

theorem Track.carries.refl (x : Track) : x.carries x := ⟨rfl, rfl, rfl, rfl⟩

theorem Track.carries.trans {x y z : Track} (hxy : x.carries y) (hyz : y.carries z) : x.carries z := by
  obtain ⟨hid, hstate, hcls, hlatched⟩ := hxy
  obtain ⟨hid', hstate', hcls', hlatched'⟩ := hyz
  exact ⟨hid'.trans hid, hstate'.trans hstate, hcls'.trans hcls, hlatched'.trans hlatched⟩

theorem Track.carries.open_ {x y : Track} (h : x.carries y) : y.open_ = x.open_ := by
  simp only [Track.open_, Track.confirmed, h.2.1]

/-- A slot whose track is carried on, or had ended and has gone. -/
def slotCarries (r r' : Option Track) : Prop :=
  (∀ y, r' = some y → ∃ x, r = some x ∧ x.carries y) ∧ ∀ x, r = some x → x.open_ = true → r' ≠ none

theorem slotCarries.refl (r : Option Track) : slotCarries r r :=
  ⟨fun y hy => ⟨y, hy, .refl y⟩, fun x hx _ hnone => by rw [hx] at hnone; cases hnone⟩

theorem slotCarries.trans {a b c : Option Track} (hab : slotCarries a b) (hbc : slotCarries b c) : slotCarries a c := by
  refine ⟨fun z hz => ?_, fun x hx hopen => ?_⟩
  · obtain ⟨y, hy, hyz⟩ := hbc.1 z hz
    obtain ⟨x, hx, hxy⟩ := hab.1 y hy
    exact ⟨x, hx, hxy.trans hyz⟩
  · obtain ⟨y, hy⟩ := Option.ne_none_iff_exists'.mp (hab.2 x hx hopen)
    obtain ⟨x', hx', hcarries⟩ := hab.1 y hy
    rw [hx] at hx'
    cases hx'
    exact hbc.2 y hy (hcarries.open_.trans hopen)

theorem slotCarries_of_track {x y : Track} (h : x.carries y) : slotCarries (some x) (some y) :=
  ⟨fun _ hz => ⟨x, rfl, Option.some.inj hz ▸ h⟩, fun _ _ _ => Option.some_ne_none y⟩

theorem announcedSlot_of_confirmed {x : Track} (h : x.state = .active ∨ x.state = .missing) :
    announcedSlot (some x) = some { x with startPending := false } := by
  obtain h | h := h <;> simp [announcedSlot, h]

theorem announcedSlot_of_ended {x : Track} {cause : EndCause} (h : x.state = .ended cause) :
    announcedSlot (some x) = if x.endPending then none else some x := by
  simp [announcedSlot, h]

theorem Track.open_eq_false {x : Track} {cause : EndCause} (h : x.state = .ended cause) : x.open_ = false := by
  simp [Track.open_, Track.confirmed, h]

theorem slotCarries_of_gone {x : Track} (h : x.open_ = false) : slotCarries (some x) none := by
  refine ⟨fun y hy => absurd hy (Option.some_ne_none y).symm, fun y hy hopen => ?_⟩
  cases hy
  rw [h] at hopen
  cases hopen

theorem slotCarries_announced (r : Option Track) : slotCarries r (announcedSlot r) := by
  cases r with
  | none => exact .refl none
  | some x =>
    have hconfirmed (h : x.state = .active ∨ x.state = .missing) : slotCarries (some x) (announcedSlot (some x)) := by
      rw [announcedSlot_of_confirmed h]
      exact slotCarries_of_track ⟨rfl, rfl, rfl, rfl⟩
    cases hstate : x.state with
    | tentative => simpa [announcedSlot, hstate] using slotCarries.refl (some x)
    | active => exact hconfirmed (.inl hstate)
    | missing => exact hconfirmed (.inr hstate)
    | ended cause =>
      rw [announcedSlot_of_ended hstate]
      split
      · exact slotCarries_of_gone (Track.open_eq_false hstate)
      · exact .refl _

/-- A track table whose slots carry the tracks of another's, with its counter. -/
def TrackTable.carries (t t' : TrackTable) : Prop :=
  (∀ u, List.Forall₂ slotCarries (t.slots.get u) (t'.slots.get u)) ∧ t'.nextId = t.nextId

theorem forall₂_trans {α : Type} {R : α → α → Prop} (hR : ∀ a b c, R a b → R b c → R a c) {l m n : List α}
    (h : List.Forall₂ R l m) (h' : List.Forall₂ R m n) : List.Forall₂ R l n := by
  induction h generalizing n with
  | nil => cases h'; exact .nil
  | cons hab _ ih =>
    cases h' with
    | cons hbc hrest => exact .cons (hR _ _ _ hab hbc) (ih hrest)

theorem forall₂_of_map_eq {α β : Type} {R : α → α → Prop} {f : α → β} (hR : ∀ a b, f b = f a → R a b) :
    ∀ {l m : List α}, m.map f = l.map f → List.Forall₂ R l m
  | [], [], _ => .nil
  | a :: l, b :: m, h => by
    obtain ⟨hhead, htail⟩ := List.cons.inj h
    exact .cons (hR a b hhead) (forall₂_of_map_eq hR htail)
  | [], b :: m, h => nomatch h
  | a :: l, [], h => nomatch h

namespace TrackTable
variable {t t' t'' : TrackTable}

theorem carries.refl (t : TrackTable) : t.carries t :=
  ⟨fun _ => List.forall₂_same.mpr fun r _ => slotCarries.refl r, rfl⟩

theorem carries.trans (h : t.carries t') (h' : t'.carries t'') : t.carries t'' :=
  ⟨fun u => forall₂_trans (fun _ _ _ hab hbc => hab.trans hbc) (h.1 u) (h'.1 u), h'.2.trans h.2⟩

theorem carries.shaped (h : t.carries t') (hs : t.shaped) : t'.shaped :=
  ⟨(h.1 .pad).length_eq ▸ hs.1, (h.1 .panel).length_eq ▸ hs.2⟩

theorem carries_of_ownersOff (hslots : ∀ u, ownersOff (t'.slots.get u) = ownersOff (t.slots.get u))
    (hnext : t'.nextId = t.nextId) : t.carries t' := by
  refine ⟨fun u => forall₂_of_map_eq (fun r r' h => ?_) (hslots u), hnext⟩
  cases r with
  | none =>
    cases r' with
    | none => exact .refl none
    | some y => cases h
  | some x =>
    cases r' with
    | none => cases h
    | some y =>
      have hsame := Option.some.inj h
      exact slotCarries_of_track ⟨(congrArg Track.id hsame).trans rfl, (congrArg Track.state hsame).trans rfl,
        (congrArg Track.cls hsame).trans rfl, (congrArg Track.latched hsame).trans rfl⟩

theorem carries_announced (t : TrackTable) (u : Surface) :
    t.carries { t with slots := t.slots.set u ((t.slots.get u).map announcedSlot) } := by
  refine ⟨fun v => ?_, rfl⟩
  rw [PerSurface.get_set]
  split
  next h =>
    subst h
    exact List.forall₂_map_right_iff.mpr (List.forall₂_same.mpr fun r _ => slotCarries_announced r)
  · exact List.forall₂_same.mpr fun r _ => slotCarries.refl r

/-- The track of a slot was there before. -/
theorem carries.at (h : t.carries t') {n : Nat} {y : Track} (hy : t'.at n = some y) :
    ∃ x, t.at n = some x ∧ x.carries y := by
  rw [TrackTable.at_eq_some] at hy
  obtain ⟨hlt, hget⟩ := List.getElem?_eq_some_iff.mp hy
  have hlt' := (h.1 (slotSurface n)).length_eq ▸ hlt
  obtain ⟨x, hx, hcarries⟩ := ((h.1 (slotSurface n)).get hlt' hlt).1 y hget
  exact ⟨x, TrackTable.at_eq_some.mpr (List.getElem?_eq_some_iff.mpr ⟨hlt', hx⟩), hcarries⟩

/-- An open track stays in its slot. -/
theorem carries.at_open (h : t.carries t') {n : Nat} {x : Track} (hx : t.at n = some x) (hopen : x.open_ = true) :
    ∃ y, t'.at n = some y ∧ x.carries y := by
  rw [TrackTable.at_eq_some] at hx
  obtain ⟨hlt, hget⟩ := List.getElem?_eq_some_iff.mp hx
  have hlt' := (h.1 (slotSurface n)).length_eq ▸ hlt
  have hslot := (h.1 (slotSurface n)).get hlt hlt'
  obtain ⟨y, hy⟩ := Option.ne_none_iff_exists'.mp (hslot.2 x hget hopen)
  obtain ⟨x', hx', hcarries⟩ := hslot.1 y hy
  rw [List.get_eq_getElem, hget] at hx'
  cases hx'
  exact ⟨y, TrackTable.at_eq_some.mpr (List.getElem?_eq_some_iff.mpr ⟨hlt', hy⟩), hcarries⟩

/-- The IDs of a list of slots. -/
def idsOf (l : List (Option Track)) : List Nat := l.filterMap fun r => r.map Track.id

theorem heldIds_eq (t : TrackTable) : t.heldIds = idsOf t.slots.pad ++ idsOf t.slots.panel := List.filterMap_append

theorem idsOf_sublist {l l' : List (Option Track)} (h : List.Forall₂ slotCarries l l') :
    (idsOf l').Sublist (idsOf l) := by
  induction h with
  | nil => exact .slnil
  | @cons r r' l l' hslot _ ih =>
    cases r' with
    | none =>
      cases r with
      | none => exact ih
      | some x => exact ih.cons _
    | some y =>
      obtain ⟨x, rfl, hid, -⟩ := hslot.1 y rfl
      simp only [idsOf, List.filterMap_cons, Option.map_some, hid]
      exact ih.cons_cons _

theorem carries.heldIds (h : t.carries t') : t'.heldIds.Sublist t.heldIds := by
  rw [heldIds_eq, heldIds_eq]
  exact (idsOf_sublist (h.1 .pad)).append (idsOf_sublist (h.1 .panel))

theorem carries.idsSound (h : t.carries t') (hs : t.idsSound) : t'.idsSound := by
  obtain ⟨hnodup, hrange, hlow, hhigh⟩ := hs
  exact ⟨hnodup.sublist h.heldIds, fun n hn => hrange n (h.heldIds.subset hn), h.2 ▸ hlow, h.2 ▸ hhigh⟩

end TrackTable

/-! ## Moves -/

section
variable {held plain : Prop} {s t : State}

theorem EngineMove.carries (h : EngineMove held s t) : s.tracks.carries t.tracks := by
  obtain ⟨-, -, -, -, -, -, -, -, hnext, -, hslots, -⟩ := h.keeps
  exact TrackTable.carries_of_ownersOff hslots hnext

theorem State.tracks_of_inner (h : t.inner.slots = s.inner.slots) (hnext : t.inner.nextId = s.inner.nextId) :
    s.tracks.carries t.tracks := by
  have hslots : t.tracks.slots = s.tracks.slots := h
  exact TrackTable.carries_of_ownersOff (fun u => by rw [hslots]) hnext

theorem State.carries_offerContact (hs : s.tracks.shaped) (time : Time) (u : Surface) (cause : ContactCause) :
    s.tracks.carries
      (s.offerContact time { surface := u, cause := cause, entries := s.tracks.entries u }).tracks := by
  obtain ⟨-, heq⟩ | ⟨-, heq⟩ := State.offerContact_built hs time u cause <;> rw [heq]
  · exact s.tracks.carries_announced u
  · exact .refl _

theorem Move.carries (h : Move held plain s t) (hs : s.tracks.shaped) : s.tracks.carries t.tracks := by
  have hinner {l : Inner} (heq : t.inner = l) (hslots : l.slots = s.inner.slots) (hnext : l.nextId = s.inner.nextId) :
      s.tracks.carries t.tracks :=
    State.tracks_of_inner ((congrArg Inner.slots heq).trans hslots) ((congrArg Inner.nextId heq).trans hnext)
  cases h with
  | engine hmove => exact hmove.carries
  | contact time u cause => exact State.carries_offerContact hs time u cause
  | unsent =>
    rw [State.offerUnsent_tracks]
    exact .refl _
  | dropInHand => exact .refl _
  | quiet heq | shed _ heq | working _ _ _ _ heq | expire _ heq | watch _ _ heq | store _ heq =>
    exact hinner heq rfl rfl

theorem Moves.carries (h : Moves held plain s t) (hs : s.tracks.shaped) : s.tracks.carries t.tracks :=
  h.keep (P := fun x => s.tracks.carries x.tracks)
    (fun _ _ hmove hcarries => hcarries.trans (hmove.carries (hcarries.shaped hs))) (.refl _)

end

end Sys2Proof.Machine

/-! The track table as an operation leaves it (R16, R18, R50, R62), and the lists of limited length through every step
(R17, R48, R78, R121, R144, R147). -/

namespace Sys2Proof.Machine

/-! ## A slot as a completion leaves it -/

theorem settleAnchor_eq_some {n : Nat} {b e : Option Track} {y : Track} (h : settleAnchor n b e = some y) :
    ∃ x, e = some x ∧ (y = x ∨ y = { x with anchor := x.pos }) := by
  unfold settleAnchor at h
  split at h
  · obtain ⟨x, hx, rfl⟩ := Option.map_eq_some_iff.mp h
    exact ⟨x, hx, .inr rfl⟩
  · exact ⟨y, h, .inl rfl⟩

/-- A completion settles a track's anchor and sets its owner (R50, R65). -/
theorem finishSlot_eq_some {n : Nat} {b e c : Option Track} {y : Track} (h : finishSlot n b e c = some y) :
    ∃ x, e = some x ∧ x.carries y ∧ y.owner = ownerAfter b e c := by
  obtain ⟨z, hz, rfl⟩ := Option.map_eq_some_iff.mp h
  obtain ⟨x, hx, rfl | rfl⟩ := settleAnchor_eq_some hz
  · exact ⟨z, hx, ⟨rfl, rfl, rfl, rfl⟩, rfl⟩
  · exact ⟨x, hx, ⟨rfl, rfl, rfl, rfl⟩, rfl⟩

theorem finishSlot_of_none {n : Nat} {b c : Option Track} : finishSlot n b none c = none := by
  simp [finishSlot, settleAnchor]

theorem finishSlot_of_some {n : Nat} {b c : Option Track} {x : Track} :
    ∃ y, finishSlot n b (some x) c = some y ∧ x.carries y := by
  cases h : finishSlot n b (some x) c with
  | none =>
    unfold finishSlot settleAnchor at h
    split at h <;> simp at h
  | some y =>
    obtain ⟨x', hx', hcarries, -⟩ := finishSlot_eq_some h
    cases hx'
    exact ⟨y, rfl, hcarries⟩

theorem closeSlot_of_ended {x : Track} {cause : EndCause} (h : x.state = .ended cause) :
    closeSlot (some x) = some x := by
  simp [closeSlot, Track.confirmed, h]

theorem closeSlot_of_confirmed {x : Track} (h : x.confirmed = true) : closeSlot (some x) = some (x.finish .cancel) := by
  have hstate : x.state ≠ .tentative := fun htentative => by simp [Track.confirmed, htentative] at h
  simp [closeSlot, hstate, h]

theorem closeSlot_of_tentative {x : Track} (h : x.state = .tentative) : closeSlot (some x) = none := by
  simp [closeSlot, h]

/-- What a closing or ABORT leaves in a slot has ended, under its name (R62, R63). -/
theorem closeSlot_eq_some {b : Option Track} {y : Track} (h : closeSlot b = some y) :
    ∃ x, b = some x ∧ x.state ≠ .tentative ∧ y.id = x.id ∧ y.cls = x.cls ∧ y.latched = x.latched ∧ y.owner = x.owner ∧
      ∃ cause, y.state = .ended cause := by
  cases b with
  | none => cases h
  | some x =>
    cases hstate : x.state with
    | tentative =>
      rw [closeSlot_of_tentative hstate] at h
      cases h
    | active | missing =>
      rw [closeSlot_of_confirmed (by simp [Track.confirmed, hstate])] at h
      cases h
      exact ⟨x, rfl, by simp [hstate], rfl, rfl, rfl, rfl, _, rfl⟩
    | ended cause =>
      rw [closeSlot_of_ended hstate] at h
      cases h
      exact ⟨y, rfl, by simp [hstate], rfl, rfl, rfl, rfl, cause, hstate⟩

theorem closedSlot_eq_some {b c : Option Track} {y : Track} (h : closedSlot b c = some y) :
    ∃ x, b = some x ∧ x.state ≠ .tentative ∧ y.id = x.id ∧ y.cls = x.cls ∧ y.latched = x.latched ∧
      (∃ cause, y.state = .ended cause) ∧
      y.owner = if sameTrack b c then c.bind Track.owner else x.owner := by
  obtain ⟨z, hz, rfl⟩ := Option.map_eq_some_iff.mp h
  obtain ⟨x, hx, hopen, hid, hcls, hlatched, howner, hended⟩ := closeSlot_eq_some hz
  refine ⟨x, hx, hopen, ?_⟩
  split
  · exact ⟨hid, hcls, hlatched, hended, rfl⟩
  · exact ⟨hid, hcls, hlatched, hended, howner⟩

/-! ## The table as a completion leaves it -/

section
variable {now : TrackTable} {u : Surface} {sn : Snapshot} {f : ReadyFrame}

theorem liveTable_slots_other {v : Surface} (h : v ≠ u) (r : LiveResult) :
    (liveTable now u sn r).slots.get v = now.slots.get v := PerSurface.get_set_other _ _ _ _ h

theorem liveTable_slots (r : LiveResult) : (liveTable now u sn r).slots.get u =
    (slotTriples u r.before r.after (now.slots.get u)).map fun (_, b, e, c) =>
      finishSlot (slop sn.tables.tune) b e c := PerSurface.get_set_same _ _ _

/-- A slot of a live completion, from the slot before, after and now (R50, R65). -/
theorem liveTable_getElem? (r : LiveResult) (i : Nat) : ((liveTable now u sn r).slots.get u)[i]? =
    r.before[i]?.bind fun b => r.after[i]?.bind fun e => (now.slots.get u)[i]?.map fun c =>
      finishSlot (slop sn.tables.tune) b e c := by
  rw [liveTable_slots]
  simp only [slotTriples, List.map_map, List.getElem?_map, List.getElem?_zipIdx,
    List.zip, List.getElem?_zipWith]
  cases r.before[i]? <;> cases r.after[i]? <;> cases (now.slots.get u)[i]? <;> rfl

theorem liveTable_length (hsn : sn.tracks.shaped) (hnow : now.shaped) :
    ((liveTable now u sn (liveWork sn u f)).slots.get u).length = 10 := by
  have hbefore : (liveWork sn u f).before.length = 10 := TrackTable.shaped_get hsn u
  rw [liveTable_slots]
  simp [slotTriples, hbefore, liveWork_after_length hsn, TrackTable.shaped_get hnow]

theorem TrackTable.shaped_of_get {t : TrackTable} (h : ∀ u, (t.slots.get u).length = 10) : t.shaped :=
  ⟨h .pad, h .panel⟩

theorem liveTable_shaped (hsn : sn.tracks.shaped) (hnow : now.shaped) :
    (liveTable now u sn (liveWork sn u f)).shaped := by
  refine TrackTable.shaped_of_get fun v => ?_
  by_cases hv : v = u
  · rw [hv]
    exact liveTable_length hsn hnow
  · rw [liveTable_slots_other hv]
    exact TrackTable.shaped_get hnow v

/-- A surface's slots as a closing leaves them (R62). -/
theorem tracksClosed_slots (s : State) (u : Surface) (sn : Snapshot) (key : Time) :
    (s.tracksClosed u sn key).tracks.slots.get u =
      ((sn.tracks.slots.get u).zip (s.tracks.slots.get u)).map fun (b, c) => closedSlot b c :=
  PerSurface.get_set_same _ _ _

theorem tracksClosed_slots_other (s : State) {v : Surface} (h : v ≠ u) (key : Time) :
    (s.tracksClosed u sn key).tracks.slots.get v = s.tracks.slots.get v := PerSurface.get_set_other _ _ _ _ h

theorem tracksClosed_getElem? (s : State) (u : Surface) (sn : Snapshot) (key : Time) (i : Nat) :
    ((s.tracksClosed u sn key).tracks.slots.get u)[i]? =
      (sn.tracks.slots.get u)[i]?.bind fun b => (s.tracks.slots.get u)[i]?.map fun c => closedSlot b c := by
  rw [tracksClosed_slots]
  simp only [List.zip, List.getElem?_map, List.getElem?_zipWith]
  cases (sn.tracks.slots.get u)[i]? <;> cases (s.tracks.slots.get u)[i]? <;> rfl

theorem tracksClosed_shaped {s : State} {key : Time} (hsn : sn.tracks.shaped) (hs : s.tracks.shaped) :
    (s.tracksClosed u sn key).tracks.shaped := by
  refine TrackTable.shaped_of_get fun v => ?_
  by_cases hv : v = u
  · rw [hv, tracksClosed_slots]
    simp [TrackTable.shaped_get hsn, TrackTable.shaped_get hs]
  · rw [tracksClosed_slots_other s hv]
    exact TrackTable.shaped_get hs v

end

/-! ## Lists of limited length -/

/-- The lists but the wait list keep to their capacities. -/
def State.listsKept (s : State) : Prop :=
  s.gestures.digests.length ≤ 4 ∧ s.tracks.shaped ∧ (∀ o, s.engine.op = some o → o.snap.tracks.shaped) ∧
    s.palm.length ≤ 8 ∧ s.gestures.contexts.length = 6 ∧ s.gestures.watch.length ≤ 4 ∧ s.motion.buttons.length = 3

theorem State.listsWithin_iff {s : State} : s.listsWithin ↔ (∀ u, s.waitListWithin u) ∧ s.listsKept := Iff.rfl

/-- The same for inner values. -/
def Inner.listsKept (l : Inner) : Prop :=
  l.digests.length ≤ 4 ∧ (l.slots.pad.length = 10 ∧ l.slots.panel.length = 10) ∧
    (∀ o, l.op = some o → o.snap.tracks.shaped) ∧ l.palm.length ≤ 8 ∧ l.contexts.length = 6 ∧ l.watch.length ≤ 4 ∧
    l.motion.buttons.length = 3

section
variable {held plain : Prop} {s t : State}

theorem State.listsKept_iff : s.listsKept ↔ s.inner.listsKept := Iff.rfl

theorem Move.listsKept (hmove : Move held plain s t) (h : s.listsKept) : t.listsKept := by
  have hinner {l : Inner} (heq : t.inner = l) (hl : l.listsKept) : t.listsKept := by
    rwa [State.listsKept_iff, heq]
  have hbefore := State.listsKept_iff.mp h
  have hcarries := hmove.carries h.2.1
  obtain ⟨hdigests, htracks, hop, hpalm, hcontexts, hwatch, hbuttons⟩ := h
  cases hmove with
  | engine hmove =>
    obtain ⟨hlength, hsame, hpress⟩ := hmove.lists
    obtain ⟨-, -, -, -, -, -, hengine, -, -, -, -, hpalmsame, -, -, -, -, hwatchsame, -⟩ := hmove.keeps
    exact ⟨hsame ▸ hdigests, hcarries.shaped htracks, hengine ▸ hop, hpalmsame ▸ hpalm, hlength.trans hcontexts,
      hwatchsame ▸ hwatch, hpress.trans hbuttons⟩
  | contact time u cause =>
    exact ⟨by simpa using hdigests, hcarries.shaped htracks, by simpa using hop, by simpa using hpalm,
      by simpa using hcontexts, by simpa using hwatch, by simpa using hbuttons⟩
  | unsent =>
    refine ⟨by simpa using hdigests, hcarries.shaped htracks, by simpa using hop, by simpa using hpalm,
      by simpa using hcontexts, by simpa using hwatch, ?_⟩
    unfold State.offerUnsent
    split
    · exact hbuttons
    · simpa using hbuttons
  | dropInHand =>
    refine ⟨?_, htracks, hop, hpalm, hcontexts, hwatch, hbuttons⟩
    simp only [State.dropInHand, List.length_tail]
    omega
  | working o o' hsome hon heq =>
    refine hinner heq ⟨hdigests, htracks, fun x hx => ?_, hpalm, hcontexts, hwatch, hbuttons⟩
    cases hx
    rw [hon.1]
    exact hop o hsome
  | expire i heq =>
    exact hinner heq ⟨hdigests, htracks, hop, (List.length_eraseIdx_le _ _).trans hpalm, hcontexts, hwatch, hbuttons⟩
  | watch w hw heq => exact hinner heq ⟨hdigests, htracks, hop, hpalm, hcontexts, hw hwatch, hbuttons⟩
  | quiet heq | shed _ heq | store _ heq => exact hinner heq hbefore

theorem State.forceRelease_lists (s : State) (n : Nat) (b e : Option Track) :
    (s.forceRelease n b e).gestures.contexts.length = s.gestures.contexts.length ∧
      (s.forceRelease n b e).gestures.digests = s.gestures.digests ∧
      (s.forceRelease n b e).gestures.watch = s.gestures.watch ∧
      (s.forceRelease n b e).motion.buttons = s.motion.buttons := by
  unfold State.forceRelease
  split
  · exact ⟨by simp, by simp, by simp, State.dropClaim_buttons _ _ _⟩
  · exact ⟨rfl, rfl, rfl, rfl⟩

/-- The forced releases of a live completion, in slot order (R88). -/
def State.releases (s : State) (u : Surface) (r : LiveResult) : State :=
  (slotChanges u r.before r.after).foldl (fun acc c => acc.forceRelease c.1 c.2.1 c.2.2) s

theorem State.releases_lists (s : State) (u : Surface) (r : LiveResult) :
    (s.releases u r).gestures.contexts.length = s.gestures.contexts.length ∧
      (s.releases u r).gestures.digests = s.gestures.digests ∧
      (s.releases u r).gestures.watch = s.gestures.watch ∧ (s.releases u r).motion.buttons = s.motion.buttons :=
  foldl_invariant (fun x : State => x.gestures.contexts.length = s.gestures.contexts.length ∧
      x.gestures.digests = s.gestures.digests ∧ x.gestures.watch = s.gestures.watch ∧
      x.motion.buttons = s.motion.buttons) _
    (fun x c ⟨hlength, hdigests, hwatch, hbuttons⟩ => by
      obtain ⟨hlength', hdigests', hwatch', hbuttons'⟩ := x.forceRelease_lists c.1 c.2.1 c.2.2
      exact ⟨hlength'.trans hlength, hdigests'.trans hdigests, hwatch'.trans hwatch, hbuttons'.trans hbuttons⟩) _ _
    ⟨rfl, rfl, rfl, rfl⟩

theorem State.liveSettled_gestures (s : State) (u : Surface) (sn : Snapshot) (f : ReadyFrame) :
    (s.liveSettled u sn f).gestures = { (s.releases u (liveWork sn u f)).gestures with
      digests := (s.releases u (liveWork sn u f)).gestures.digests ++ [s.liveDigest u sn f (liveWork sn u f)] } := rfl

theorem State.liveSettled_motion (s : State) (u : Surface) (sn : Snapshot) (f : ReadyFrame) :
    (s.liveSettled u sn f).motion = (s.releases u (liveWork sn u f)).motion := rfl

theorem State.liveSettled_tracks (s : State) (u : Surface) (sn : Snapshot) (f : ReadyFrame) :
    (s.liveSettled u sn f).tracks = liveTable s.tracks u sn (liveWork sn u f) := rfl

theorem State.liveSettled_palm (s : State) (u : Surface) (sn : Snapshot) (f : ReadyFrame) :
    (s.liveSettled u sn f).palm = palmAfter u (palmHold sn.tables.tune) s.now (liveWork sn u f).before
      (liveWork sn u f).after (liveWork sn u f).opening.hits s.palm := rfl

theorem Opened.listsKept (hopened : Opened s t) (h : s.listsKept) : t.listsKept := by
  obtain ⟨hdigests, htracks, hop, hpalm, hcontexts, hwatch, hbuttons⟩ := id h
  cases hopened with
  | same => exact h
  | begun o hidle hsnap heq =>
    have hbefore := State.listsKept_iff.mp h
    rw [State.listsKept_iff, heq]
    refine ⟨hdigests, htracks, fun x hx => ?_, hpalm, hcontexts, hwatch, hbuttons⟩
    cases hx
    rwa [hsnap]
  | dropped => exact ⟨hdigests, htracks, (fun _ ho => nomatch ho), hpalm, hcontexts, hwatch, hbuttons⟩
  | live o f hsome hwork hlive hroom =>
    obtain ⟨hlength', hdigests', hwatch', hbuttons'⟩ :=
      (s.setOp none).releases_lists o.surface (liveWork o.snap o.surface f)
    refine ⟨?_, ?_, by simp, ?_, ?_, ?_, ?_⟩
    · rw [State.liveSettled_gestures, List.length_append, hdigests']
      exact hroom
    · rw [State.liveSettled_tracks]
      exact liveTable_shaped (hop o hsome) htracks
    · rw [State.liveSettled_palm]
      exact palmAfter_length _ _ _ _ _ _ hpalm
    · rw [State.liveSettled_gestures]
      exact hlength'.trans hcontexts
    · rw [State.liveSettled_gestures]
      exact hwatch' ▸ hwatch
    · rw [State.liveSettled_motion]
      exact hbuttons' ▸ hbuttons
  | closed o key out hsome hwork hroom =>
    have hfilter : (s.palm.filter fun e => e.surface != o.surface).length ≤ 8 := (List.length_filter_le _ _).trans hpalm
    unfold State.closeSettled
    split
    next hopen =>
      refine ⟨?_, tracksClosed_shaped (hop o hsome) htracks, (fun _ ho => nomatch ho), hfilter, hcontexts, hwatch, hbuttons⟩
      have hlength := hroom hopen
      simp only [State.palmCleared, State.tracksClosed, State.handDigest, List.length_append, List.length_singleton]
      exact hlength
    · exact ⟨hdigests, htracks, (fun _ ho => nomatch ho), hfilter, hcontexts, hwatch, hbuttons⟩
  | wound =>
    have hshaped : s.wound.tracks.shaped := by
      simp [TrackTable.shaped, State.wound, State.abortStores, State.abortTracks, State.abortEngine, htracks.1, htracks.2]
    exact ⟨hdigests, hshaped, (fun _ ho => nomatch ho), Nat.zero_le _, hcontexts, hwatch, hbuttons⟩

theorem State.listsKept_atReset (cause : ResetCause) (b : Bool) (q : List Instr) :
    (State.atReset cause b q).listsKept := by
  simp [State.listsKept, State.atReset, Gestures.reset, TrackTable.reset, MotionUnit.reset, TrackTable.shaped]

theorem Effect.listsKept (heffect : Effect held plain s t) (h : s.listsKept) : t.listsKept := by
  cases heffect with
  | moves a hopened hmoves => exact hmoves.keep (fun _ _ hmove => hmove.listsKept) (hopened.listsKept h)
  | afterReset cause heq => rw [heq]; exact State.listsKept_atReset cause false s.pending
  | atReset cause heq => rw [heq]; exact State.listsKept_atReset cause true s.pending

end

end Sys2Proof.Machine

/-! Latched means PALM through every step (R75): O30. -/

namespace Sys2Proof.Machine

section
variable {held plain : Prop} {s t : State}

theorem TrackTable.latchSound_iff {t : TrackTable} :
    t.latchSound ↔ ∀ u, ∀ x, some x ∈ t.slots.get u → x.latchHolds :=
  ⟨fun h u x hx => h u _ hx x rfl, fun h u _ hr x hrx => h u x (hrx ▸ hr)⟩

theorem Track.carries.latchHolds {x y : Track} (h : x.carries y) (hx : x.latchHolds) : y.latchHolds := by
  obtain ⟨-, -, hcls, hlatched⟩ := h
  rwa [Track.latchHolds, hcls, hlatched]

theorem forall₂_mem_right {α β : Type} {R : α → β → Prop} {l : List α} {m : List β} (h : List.Forall₂ R l m) {b : β}
    (hb : b ∈ m) : ∃ a ∈ l, R a b := by
  induction h with
  | nil => cases hb
  | cons hab _ ih =>
    obtain rfl | hb := List.mem_cons.mp hb
    · exact ⟨_, by simp, hab⟩
    · obtain ⟨a, ha, hrel⟩ := ih hb
      exact ⟨a, by simp [ha], hrel⟩

theorem TrackTable.carries.latchSound {t t' : TrackTable} (h : t.carries t') (ht : t.latchSound) : t'.latchSound := by
  rw [TrackTable.latchSound_iff] at ht ⊢
  intro u y hy
  obtain ⟨r, hr, hslot⟩ := forall₂_mem_right (h.1 u) hy
  obtain ⟨x, rfl, hcarries⟩ := hslot.1 y rfl
  exact hcarries.latchHolds (ht u x hr)

theorem TrackTable.latchSound_put {t : TrackTable} (ht : t.latchSound) (n : Nat) {r : Option Track}
    (hr : ∀ x, r = some x → x.latchHolds) : (t.put n r).latchSound := by
  rw [TrackTable.latchSound_iff] at ht ⊢
  intro u x hx
  simp only [TrackTable.put, PerSurface.get_set] at hx
  split at hx
  next hu =>
    obtain hold | hnew := List.mem_or_eq_of_mem_set hx
    · exact ht _ x hold
    · exact hr x hnew.symm
  · exact ht u x hx

theorem TrackTable.latchSound_onTrack {t : TrackTable} (ht : t.latchSound) (r : TrackRef) {f : Track → Option Track}
    (hf : ∀ x y, x.latchHolds → f x = some y → y.latchHolds) : (t.onTrack r f).latchSound := by
  obtain ⟨x, hx, -, heq⟩ | ⟨-, heq⟩ := t.onTrack_cases r f <;> rw [heq]
  · have hlatch := TrackTable.latchSound_iff.mp ht _ x (List.mem_of_getElem? (TrackTable.at_eq_some.mp hx))
    exact TrackTable.latchSound_put ht _ fun y hy => hf x y hlatch hy
  · exact ht

theorem TrackTable.latchSound_announce {t : TrackTable} (ht : t.latchSound) (e : ContactEntry) :
    (t.announce e).latchSound := by
  unfold TrackTable.announce
  split
  · refine TrackTable.latchSound_onTrack ht _ fun x y hx hy => ?_
    cases hy
    exact hx
  · exact ht
  · exact TrackTable.latchSound_onTrack ht _ fun x y _ hy => absurd hy (Option.some_ne_none y).symm

theorem State.tracks_latchSound_offerContact (h : s.tracks.latchSound) (time : Time) (r : ContactReport) :
    (s.offerContact time r).tracks.latchSound := by
  obtain ⟨-, heq⟩ | ⟨-, heq⟩ := s.offerContact_cases time r <;> rw [heq]
  · exact foldl_invariant TrackTable.latchSound _ (fun t e ht => TrackTable.latchSound_announce ht e) _ _ h
  · exact h

theorem Move.latchSound (hmove : Move held plain s t) (h : s.latchSound) : t.latchSound := by
  obtain ⟨htracks, hop⟩ := h
  have hinner {l : Inner} (heq : t.inner = l) (hslots : l.slots = s.inner.slots) (hnext : l.nextId = s.inner.nextId)
      (hl : ∀ o, l.op = some o → o.snap.tracks.latchSound) : t.latchSound :=
    ⟨(State.tracks_of_inner ((congrArg Inner.slots heq).trans hslots)
      ((congrArg Inner.nextId heq).trans hnext)).latchSound htracks, fun o ho => hl o (by rw [← heq]; exact ho)⟩
  cases hmove with
  | engine hmove =>
    obtain ⟨-, -, -, -, -, -, hengine, -⟩ := hmove.keeps
    exact ⟨hmove.carries.latchSound htracks, hengine ▸ hop⟩
  | contact time u cause =>
    exact ⟨State.tracks_latchSound_offerContact htracks time _, by simpa using hop⟩
  | unsent => exact ⟨by simpa using htracks, by simpa using hop⟩
  | dropInHand => exact ⟨htracks, hop⟩
  | working o o' hsome hon heq =>
    refine hinner heq rfl rfl fun x hx => ?_
    cases hx
    rw [hon.1]
    exact hop o hsome
  | quiet heq | shed _ heq | expire _ heq | watch _ _ heq | store _ heq => exact hinner heq rfl rfl hop

/-- A live frame keeps the latches of its snapshot's tracks and gives new tracks theirs (R73, R75). -/
theorem liveWork_latchHolds {sn : Snapshot} (h : sn.tracks.latchSound) (u : Surface) (f : ReadyFrame) {y : Track}
    (hy : some y ∈ (liveWork sn u f).after) : y.latchHolds := by
  obtain ⟨i, hi⟩ := List.mem_iff_getElem?.mp hy
  obtain hsame | ⟨-, id, b, hopened⟩ := liveWork_slot sn u f i
  · rw [hi, slotsMatched_getElem?] at hsame
    obtain ⟨r, hr, hslot⟩ := Option.map_eq_some_iff.mp hsame.symm
    obtain ⟨x, rfl, -, -, hlatch, -⟩ := slotAfter_keeps _ _ _ _ _ hslot
    exact hlatch (TrackTable.latchSound_iff.mp h u x (List.mem_of_getElem? hr))
  · rw [hi] at hopened
    cases hopened
    exact latchHolds_openTrack _ _ _ _ _

theorem liveTable_latchSound {now : TrackTable} {sn : Snapshot} {u : Surface} {f : ReadyFrame} (hnow : now.latchSound)
    (hsn : sn.tracks.latchSound) : (liveTable now u sn (liveWork sn u f)).latchSound := by
  rw [TrackTable.latchSound_iff] at hnow ⊢
  intro v y hy
  by_cases hv : v = u
  · subst hv
    obtain ⟨i, hi⟩ := List.mem_iff_getElem?.mp hy
    rw [liveTable_getElem?] at hi
    obtain ⟨b, -, hi⟩ := Option.bind_eq_some_iff.mp hi
    obtain ⟨e, he, hi⟩ := Option.bind_eq_some_iff.mp hi
    obtain ⟨c, -, hfinish⟩ := Option.map_eq_some_iff.mp hi
    obtain ⟨x, rfl, hcarries, -⟩ := finishSlot_eq_some hfinish
    exact hcarries.latchHolds (liveWork_latchHolds hsn v f (List.mem_of_getElem? he))
  · rw [liveTable_slots_other hv] at hy
    exact hnow v y hy

theorem tracksClosed_latchSound (hs : s.tracks.latchSound) {sn : Snapshot} (hsn : sn.tracks.latchSound) (u : Surface)
    (key : Time) : (s.tracksClosed u sn key).tracks.latchSound := by
  rw [TrackTable.latchSound_iff] at hs hsn ⊢
  intro v y hy
  by_cases hv : v = u
  · subst hv
    obtain ⟨i, hi⟩ := List.mem_iff_getElem?.mp hy
    rw [tracksClosed_getElem?] at hi
    obtain ⟨b, hb, hi⟩ := Option.bind_eq_some_iff.mp hi
    obtain ⟨c, -, hclosed⟩ := Option.map_eq_some_iff.mp hi
    obtain ⟨x, rfl, -, -, hcls, hlatched, -⟩ := closedSlot_eq_some hclosed
    rw [Track.latchHolds, hcls, hlatched]
    exact hsn v x (List.mem_of_getElem? hb)
  · rw [tracksClosed_slots_other s hv] at hy
    exact hs v y hy

theorem wound_slots (s : State) (u : Surface) : s.wound.tracks.slots.get u = (s.tracks.slots.get u).map closeSlot := by
  cases u <;> rfl

theorem wound_latchSound (hs : s.tracks.latchSound) : s.wound.tracks.latchSound := by
  rw [TrackTable.latchSound_iff] at hs ⊢
  intro u y hy
  rw [wound_slots] at hy
  obtain ⟨r, hr, hclosed⟩ := List.mem_map.mp hy
  obtain ⟨x, rfl, -, -, hcls, hlatched, -⟩ := closeSlot_eq_some hclosed
  rw [Track.latchHolds, hcls, hlatched]
  exact hs u x hr

theorem Opened.latchSound (hopened : Opened s t) (h : s.latchSound) : t.latchSound := by
  obtain ⟨htracks, hop⟩ := id h
  cases hopened with
  | same => exact h
  | begun o hidle hsnap heq =>
    refine ⟨(State.tracks_of_inner ((congrArg Inner.slots heq).trans rfl)
      ((congrArg Inner.nextId heq).trans rfl)).latchSound htracks, fun x hx => ?_⟩
    have hxo : some o = some x := (congrArg Inner.op heq).symm.trans hx
    cases hxo
    rwa [hsnap]
  | dropped => exact ⟨htracks, fun _ ho => nomatch ho⟩
  | live o f hsome =>
    exact ⟨liveTable_latchSound (now := s.tracks) htracks (hop o hsome), by simp⟩
  | closed o key out hsome =>
    unfold State.closeSettled
    split
    · exact ⟨tracksClosed_latchSound (s := s.setOp none) htracks (hop o hsome) o.surface key, fun _ ho => nomatch ho⟩
    · exact ⟨htracks, fun _ ho => nomatch ho⟩
  | wound => exact ⟨wound_latchSound htracks, fun _ ho => nomatch ho⟩

theorem State.latchSound_atReset (cause : ResetCause) (b : Bool) (q : List Instr) :
    (State.atReset cause b q).latchSound := by
  refine ⟨TrackTable.latchSound_iff.mpr fun u x hx => ?_, fun _ ho => nomatch ho⟩
  have hnone : (State.atReset cause b q).tracks.slots.get u = List.replicate 10 none := by cases u <;> rfl
  rw [hnone] at hx
  cases List.eq_of_mem_replicate hx

theorem Effect.latchSound (heffect : Effect held plain s t) (h : s.latchSound) : t.latchSound := by
  cases heffect with
  | moves a hopened hmoves => exact hmoves.keep (fun _ _ hmove => hmove.latchSound) (hopened.latchSound h)
  | afterReset cause heq => rw [heq]; exact State.latchSound_atReset cause false s.pending
  | atReset cause heq => rw [heq]; exact State.latchSound_atReset cause true s.pending

end

/-- What a match does to a track that takes part (R54, R57). -/
theorem Track.matched_spec (t : Track) (sn : Snapshot) (u : Surface) (b : Blob) (h : ∀ cause, t.state ≠ .ended cause) :
    t.matched sn u b = { t with
        prev := some t.pos, pos := b.pos, feat := b.feat, seen := min (t.seen + 1) 255
        state := (t.matched sn u b).state, misses := if t.state = .missing then 0 else t.misses
        startPending := (t.matched sn u b).startPending, anchor := (t.matched sn u b).anchor
        cls := (t.matched sn u b).cls, candidate := (t.matched sn u b).candidate
        votes := (t.matched sn u b).votes, latched := (t.matched sn u b).latched } ∧
      (t.state = .tentative → (t.matched sn u b).seen < confirmFrames sn.tables.tune →
        (t.matched sn u b).state = .tentative ∧ (t.matched sn u b).startPending = t.startPending ∧
          (t.matched sn u b).anchor = t.anchor) ∧
      (t.state = .tentative → confirmFrames sn.tables.tune ≤ (t.matched sn u b).seen →
        (t.matched sn u b).state = .active ∧ (t.matched sn u b).startPending = true ∧
          (t.matched sn u b).anchor = b.pos) ∧
      (t.state ≠ .tentative → (t.matched sn u b).state = .active ∧
        (t.matched sn u b).startPending = t.startPending ∧ (t.matched sn u b).anchor = t.anchor) := by
  rw [(t.matched_place sn u b h).2.2]
  obtain ⟨hstate, hconfirm, heq⟩ | ⟨hstate, hconfirm, heq⟩ | ⟨hstate, heq⟩ | ⟨hstate, heq⟩ := t.matched_cases sn u b h <;>
    rw [heq]
  · refine ⟨?_, fun _ hlt => absurd hconfirm (Nat.not_le.mpr hlt), fun _ _ => by simp [Track.confirm], by simp [hstate]⟩
    rw [t.withBlob_eq sn u b]
    simp [Track.confirm, hstate]
  · refine ⟨?_, fun _ _ => by simp [hstate], fun _ hle => absurd hle (Nat.not_le.mpr hconfirm), by simp [hstate]⟩
    rw [t.withBlob_eq sn u b]
    simp [hstate]
  · refine ⟨?_, by simp [hstate], by simp [hstate], fun _ => by simp [hstate]⟩
    rw [t.withBlob_eq sn u b]
    simp [hstate]
  · refine ⟨?_, by simp [hstate], by simp [hstate], fun _ => by simp⟩
    rw [t.withBlob_eq sn u b]
    simp [hstate]

/-- How a match votes on the class of a track that is not latched (R74, R75). -/
theorem Track.matched_vote (t : Track) (sn : Snapshot) (u : Surface) (b : Blob) (h : ∀ cause, t.state ≠ .ended cause)
    (hopen : t.latched = false) :
    let raw := rawClass sn.tables.shape u sn.posture b.feat
    (raw = t.cls → (t.matched sn u b).cls = t.cls ∧ (t.matched sn u b).candidate = t.candidate ∧
        (t.matched sn u b).votes = 0 ∧ (t.matched sn u b).latched = false) ∧
      (raw ≠ t.cls → t.votesWith raw < voteFrames sn.tables.tune →
        (t.matched sn u b).cls = t.cls ∧ (t.matched sn u b).candidate = raw ∧
          (t.matched sn u b).votes = t.votesWith raw ∧ (t.matched sn u b).latched = false) ∧
      (raw ≠ t.cls → voteFrames sn.tables.tune ≤ t.votesWith raw →
        (t.matched sn u b).cls = raw ∧ (t.matched sn u b).candidate = raw ∧ (t.matched sn u b).votes = 0 ∧
          ((t.matched sn u b).latched = true ↔ raw = .palm)) := by
  dsimp only
  obtain ⟨hcls, hcandidate, hvotes, hlatched⟩ := t.matched_class sn u b h
  rw [hcls, hcandidate, hvotes, hlatched, Track.withBlob, Track.classify_of_open (t := t.moved b) hopen]
  generalize rawClass sn.tables.shape u sn.posture b.feat = raw
  have hcount : (t.moved b).votesWith raw = t.votesWith raw := rfl
  refine ⟨fun hraw => ?_, fun hraw hfew => ?_, fun hraw hmany => ?_⟩
  · rw [Track.vote_same (t.moved b) _ hraw]
    exact ⟨rfl, rfl, rfl, hopen⟩
  · rw [Track.vote_other (t.moved b) _ hraw, hcount, if_neg (Nat.not_le.mpr hfew)]
    exact ⟨rfl, rfl, rfl, hopen⟩
  · rw [Track.vote_other (t.moved b) _ hraw, hcount, if_pos hmany]
    have hlatch : (t.moved b).latched = false := hopen
    simp [hlatch]

/-- A slot takes part in one pair alone. -/
theorem associate_slot_inj {gate : Nat} {u : Surface} {slots : List (Option Track)} {blobs : List Blob} {q p : Candidate}
    (hq : q ∈ associate gate u slots blobs) (hp : p ∈ associate gate u slots blobs) (h : q.slot = p.slot) : q = p :=
  List.inj_on_of_nodup_map (f := Candidate.slot)
    (List.pairwise_map.mpr ((associate_pairwise gate u slots blobs).imp fun hpair => hpair.2.1)) hq hp h

/-- Settles O30. -/
theorem latchedMeansPalm : Obligations.LatchedMeansPalm := by
  refine ⟨fun s t hs hstep => ?_, fun t sn u b hlatched hpalm => ?_, fun t sn u b hopen => ?_, fun rules u p f => ?_,
    fun t lift => ?_, fun sn u f hshaped => ?_⟩
  · obtain ⟨rest, heffect⟩ := effect_of_step s.ready_false hstep
    exact heffect.latchSound hs
  · by_cases hopen : ∀ cause, t.state ≠ .ended cause
    · obtain ⟨hcls, hcandidate, hvotes, hlatch⟩ := t.matched_class sn u b hopen
      rw [hcls, hcandidate, hvotes, hlatch, Track.withBlob, Track.classify_of_latched (t := t.moved b) hlatched]
      exact ⟨hpalm, hlatched, rfl, rfl⟩
    · push Not at hopen
      obtain ⟨cause, hcause⟩ := hopen
      rw [t.matched_of_ended sn u b hcause]
      exact ⟨hpalm, hlatched, rfl, rfl⟩
  · obtain ⟨heq, hfew, hmany, hother⟩ := t.matched_spec sn u b hopen
    exact ⟨heq, hfew, hmany, hother, fun hlatched => t.matched_vote sn u b hopen hlatched⟩
  · exact ⟨fun front r back cls hrules hr hfront hcls => hrules ▸ rawClass_of_first hr hfront hcls, rawClass_of_none⟩
  · refine ⟨t.unmatched_of_tentative lift, fun hstate hlift => ?_, fun hstate hlift => ?_, fun hstate hlift => ?_,
      fun hstate hlift => ?_⟩
    · rw [t.unmatched_of_active lift hstate, if_neg (Nat.not_le.mpr hlift)]
    · rw [t.unmatched_of_active lift hstate, if_pos hlift]
    · rw [t.unmatched_of_missing lift hstate, if_neg (Nat.not_le.mpr hlift)]
    · rw [t.unmatched_of_missing lift hstate, if_pos hlift]
  · dsimp only
    intro i x hx
    have hslot {y : Track} (h : slotAfter sn u (liveWork sn u f).extraction.blobs
        (associate (gateRadius sn.tables.tune) u (liveWork sn u f).before (liveWork sn u f).extraction.blobs) i
        (some x) = some y) : (liveWork sn u f).after[i]? = some (some y) :=
      liveWork_kept (by rw [slotsMatched_getElem?]; exact (congrArg (Option.map _) hx).trans (congrArg some h))
    refine ⟨fun p hp hpi => ?_, fun y htakes hno hmissed => ?_, fun hout => ?_⟩
    · obtain ⟨q, b, hq, hqi, hfind, hb⟩ := paired_find ⟨p, hp, hpi⟩
      have hsame : q = p := associate_slot_inj hq hp (hqi.trans hpi.symm)
      subst hsame
      obtain ⟨x', b', hx', hb', htakes, -⟩ := mem_candidates.mp (associate_subset _ _ _ _ hq)
      rw [hqi, hx] at hx'
      cases hx'
      exact ⟨b, hb, hslot (slotAfter_of_paired sn u _ _ i htakes hfind hb)⟩
    · exact hslot ((slotAfter_of_unpaired sn u _ _ i htakes hno).trans hmissed)
    · exact hslot (slotAfter_of_out sn u _ _ i hout)

end Sys2Proof.Machine

/-! Track IDs stay distinct and within 1 to 255, in the track table and in the snapshot of the operation in flight
(R48, R50, R58). -/

namespace Sys2Proof.Machine

/-! ## Tables that name no new track -/

namespace TrackTable

/-- The tracks of a list of slots have the names that another's have in the same slots. -/
def namedIn (l' l : List (Option Track)) : Prop :=
  ∀ (i : Nat) (y : Track), l'[i]? = some (some y) → ∃ x : Track, l[i]? = some (some x) ∧ y.id = x.id

theorem namedIn.refl (l : List (Option Track)) : namedIn l l := fun _ y hy => ⟨y, hy, rfl⟩

theorem namedIn.trans {a b c : List (Option Track)} (hab : namedIn a b) (hbc : namedIn b c) : namedIn a c := by
  intro i z hz
  obtain ⟨y, hy, hzy⟩ := hab i z hz
  obtain ⟨x, hx, hyx⟩ := hbc i y hy
  exact ⟨x, hx, hzy.trans hyx⟩

theorem namedIn_of_ownersOff {l l' : List (Option Track)} (h : ownersOff l' = ownersOff l) : namedIn l' l := by
  intro i y hy
  have hget := congrArg (·[i]?) h
  simp only [ownersOff, List.getElem?_map, hy, Option.map_some] at hget
  obtain ⟨r, hr, heq⟩ := Option.map_eq_some_iff.mp hget.symm
  obtain ⟨x, rfl, hx⟩ := Option.map_eq_some_iff.mp heq
  exact ⟨x, hr, (congrArg Track.id hx).symm⟩

theorem idsOf_sublist_of_namedIn : ∀ {l' l : List (Option Track)}, namedIn l' l → (idsOf l').Sublist (idsOf l)
  | [], _, _ => List.nil_sublist _
  | none :: l', [], h => idsOf_sublist_of_namedIn (l' := l') (l := []) fun i y hy => h (i + 1) y hy
  | some y :: l', [], h => by
    obtain ⟨x, hx, -⟩ := h 0 y rfl
    cases hx
  | none :: l', r :: l, h => by
    have ih := idsOf_sublist_of_namedIn (l' := l') (l := l) fun i y hy => h (i + 1) y hy
    cases r with
    | none => exact ih
    | some x => exact ih.cons _
  | some y :: l', r :: l, h => by
    have ih := idsOf_sublist_of_namedIn (l' := l') (l := l) fun i y hy => h (i + 1) y hy
    obtain ⟨x, hx, hid⟩ := h 0 y rfl
    obtain rfl : r = some x := Option.some.inj hx
    simp only [idsOf, List.filterMap_cons, Option.map_some, hid]
    exact ih.cons_cons _

theorem heldIds_sublist {t t' : TrackTable} (h : ∀ u, namedIn (t'.slots.get u) (t.slots.get u)) :
    t'.heldIds.Sublist t.heldIds := by
  rw [heldIds_eq, heldIds_eq]
  exact (idsOf_sublist_of_namedIn (h .pad)).append (idsOf_sublist_of_namedIn (h .panel))

/-- IDs are sound where no new track is named and the counter keeps its range (R58). -/
theorem idsSound_of_named {t t' : TrackTable} (h : t.idsSound) (hnamed : ∀ u, namedIn (t'.slots.get u) (t.slots.get u))
    (hnext : 1 ≤ t'.nextId ∧ t'.nextId ≤ 255) : t'.idsSound := by
  obtain ⟨hnodup, hrange, -⟩ := h
  have hsub := heldIds_sublist hnamed
  exact ⟨hnodup.sublist hsub, fun n hn => hrange n (hsub.subset hn), hnext⟩

theorem carries.named {t t' : TrackTable} (h : t.carries t') (u : Surface) :
    namedIn (t'.slots.get u) (t.slots.get u) := by
  intro i y hy
  obtain ⟨hlt, hget⟩ := List.getElem?_eq_some_iff.mp hy
  have hlt' := (h.1 u).length_eq ▸ hlt
  obtain ⟨x, hx, hcarries⟩ := ((h.1 u).get hlt' hlt).1 y hget
  exact ⟨x, List.getElem?_eq_some_iff.mpr ⟨hlt', hx⟩, hcarries.1⟩

/-! ## Openings (R58) -/

theorem idsOf_set {l : List (Option Track)} {i : Nat} (h : l[i]? = some none) (x : Track) :
    (idsOf (l.set i (some x))).Perm (x.id :: idsOf l) := by
  induction l generalizing i with
  | nil => simp at h
  | cons r l ih =>
    cases i with
    | zero =>
      obtain rfl : r = none := by simpa using h
      exact .refl _
    | succ i =>
      have hrest := ih (i := i) h
      cases r with
      | none => exact hrest
      | some y => exact (hrest.cons y.id).trans (.swap _ _ _)

theorem heldIds_set {t : TrackTable} {u : Surface} {i : Nat} (h : (t.slots.get u)[i]? = some none) (x : Track)
    (n : Nat) : TrackTable.heldIds { t with slots := t.slots.set u ((t.slots.get u).set i (some x)), nextId := n } |>.Perm
      (x.id :: t.heldIds) := by
  rw [heldIds_eq, heldIds_eq]
  cases u with
  | pad => exact (idsOf_set h x).append_right _
  | panel => exact ((idsOf_set h x).append_left _).trans List.perm_middle

end TrackTable

/-- An opening names its track by an ID that no slot holds (R58). -/
theorem Opening.idsSound_opened {op : Opening} (hshaped : op.table.shaped) (h : op.table.idsSound) (sn : Snapshot)
    (u : Surface) (time : Time) (b : Blob) {i : Nat} (hi : (op.table.slots.get u)[i]? = some none) :
    (op.opened sn u time b i (freeId op.table.heldIds 21 op.table.nextId)).table.idsSound := by
  obtain ⟨hnodup, hrange, hlow, hhigh⟩ := h
  obtain ⟨k, -, hid, hfree, -⟩ := freeId_spec (TrackTable.heldIds_length hshaped) hlow hhigh
  rw [hid]
  have hown := nextOf_iterate_range hlow hhigh k
  generalize nextOf^[k] op.table.nextId = id at hfree hown
  have hperm := TrackTable.heldIds_set hi (openTrack sn u time id b) (idAfter id)
  rw [openTrack_id] at hperm
  refine ⟨hperm.nodup_iff.mpr (List.nodup_cons.mpr ⟨hfree, hnodup⟩), fun n hn => ?_, ?_⟩
  · obtain rfl | hmem := List.mem_cons.mp (hperm.mem_iff.mp hn)
    · exact hown
    · exact hrange n hmem
  · simp only [Opening.opened]
    rw [idAfter_eq hown.1 hown.2]
    exact nextOf_range id

theorem openOne_idsSound {op : Opening} (hshaped : op.table.shaped) (h : op.table.idsSound) (sn : Snapshot)
    (u : Surface) (time : Time) (b : Blob) :
    (openOne sn u time op b).table.shaped ∧ (openOne sn u time op b).table.idsSound := by
  cases hfree : freeSlot (op.table.slots.get u) with
  | none =>
    rw [openOne_of_full hfree]
    exact ⟨hshaped, h⟩
  | some i =>
    rw [openOne_of_free hfree]
    refine ⟨TrackTable.shaped_of_get fun v => ?_, Opening.idsSound_opened hshaped h sn u time b (freeSlot_spec hfree).1⟩
    rw [Opening.opened, PerSurface.get_set]
    split
    · rw [List.length_set, TrackTable.shaped_get hshaped]
    · exact TrackTable.shaped_get hshaped v

theorem slotsMatched_named (sn : Snapshot) (u : Surface) (blobs : List Blob) :
    TrackTable.namedIn (slotsMatched sn u blobs) (sn.tracks.slots.get u) := by
  intro i y hy
  rw [slotsMatched_getElem?] at hy
  obtain ⟨r, hr, hslot⟩ := Option.map_eq_some_iff.mp hy
  obtain ⟨x, rfl, hid, -⟩ := slotAfter_keeps _ _ _ _ _ hslot
  exact ⟨x, hr, hid⟩

/-- The IDs of a live frame's tracks (R58). -/
theorem liveWork_idsSound {sn : Snapshot} (hshaped : sn.tracks.shaped) (h : sn.tracks.idsSound) (u : Surface)
    (f : ReadyFrame) : (liveWork sn u f).opening.table.idsSound := by
  generalize hblobs : (liveWork sn u f).extraction.blobs = blobs
  have hstart : (openingAt sn u blobs).table.shaped ∧ (openingAt sn u blobs).table.idsSound := by
    refine ⟨TrackTable.shaped_of_get fun v => ?_, TrackTable.idsSound_of_named h (fun v => ?_) h.2.2⟩
    all_goals rw [openingAt, PerSurface.get_set]; split
    · rw [slotsMatched_length, TrackTable.shaped_get hshaped]
    · exact TrackTable.shaped_get hshaped v
    next hv => exact hv ▸ slotsMatched_named sn u blobs
    · exact .refl _
  have hall := foldl_invariant (fun op : Opening => op.table.shaped ∧ op.table.idsSound) (openOne sn u f.time)
    (fun op b hop => openOne_idsSound hop.1 hop.2 sn u f.time b) (unpairedBlobs sn u blobs) _ hstart
  subst hblobs
  exact hall.2

/-- A live frame leaves the other surface's slots in its opening state (R56). -/
theorem liveWork_other (sn : Snapshot) {u v : Surface} (hv : v ≠ u) (f : ReadyFrame) :
    (liveWork sn u f).opening.table.slots.get v = sn.tracks.slots.get v := by
  refine (foldl_keeps (openOne sn u f.time) (fun op : Opening => op.table.slots.get v) (fun op b => ?_)
    (unpairedBlobs sn u (liveWork sn u f).extraction.blobs) _).trans (PerSurface.get_set_other _ _ _ _ hv)
  cases hfree : freeSlot (op.table.slots.get u) with
  | none => rw [openOne_of_full hfree]
  | some i =>
    rw [openOne_of_free hfree]
    exact PerSurface.get_set_other _ _ _ _ hv

/-! ## Every step -/

section
variable {held plain : Prop} {s t : State}

theorem State.snapshotHolds_of_idle (h : s.engine.op = none) : s.snapshotHolds := fun _ ho => nomatch h.symm.trans ho

/-- The snapshot holds on where the slots of its surface change in owners alone (R50). -/
theorem State.snapshotHolds_of_carries (hs : s.snapshotHolds) (hcarries : s.tracks.carries t.tracks)
    (hop : ∀ o', t.engine.op = some o' → ∃ o, s.engine.op = some o ∧ o'.snap = o.snap ∧ o'.surface = o.surface ∧
      ownersOff (t.tracks.slots.get o.surface) = ownersOff (s.tracks.slots.get o.surface)) : t.snapshotHolds := by
  intro o' ho'
  obtain ⟨o, ho, hsnap, hsurface, howners⟩ := hop o' ho'
  obtain ⟨hsame, hother⟩ := hs o ho
  rw [hsnap, hsurface]
  refine ⟨howners.trans hsame, fun v hv i z hz => ?_⟩
  obtain ⟨x, hx, hid⟩ := hcarries.named v i z hz
  obtain ⟨y, hy, hid'⟩ := hother v hv i x hx
  exact ⟨y, hy, hid'.trans hid.symm⟩

theorem State.snapshotHolds_named (hs : s.snapshotHolds) {o : Operation} (ho : s.engine.op = some o) (v : Surface) :
    TrackTable.namedIn (s.tracks.slots.get v) (o.snap.tracks.slots.get v) := by
  obtain ⟨hsame, hother⟩ := hs o ho
  by_cases hv : v = o.surface
  · rw [hv]
    exact TrackTable.namedIn_of_ownersOff hsame
  · intro i x hx
    obtain ⟨y, hy, hid⟩ := hother v hv i x hx
    exact ⟨y, hy, hid.symm⟩

theorem Move.snapshotHolds (hmove : Move held plain s t) (hshaped : s.tracks.shaped) (h : s.snapshotHolds) :
    t.snapshotHolds := by
  have hcarries := hmove.carries hshaped
  have hinner {l : Inner} (heq : t.inner = l) (hslots : l.slots = s.inner.slots) (hop : l.op = s.engine.op) :
      t.snapshotHolds := by
    have hslots : t.tracks.slots = s.tracks.slots := (congrArg Inner.slots heq).trans hslots
    refine State.snapshotHolds_of_carries h hcarries fun o ho => ⟨o, ?_, rfl, rfl, by rw [hslots]⟩
    exact ((congrArg Inner.op heq).trans hop).symm.trans ho
  cases hmove with
  | engine hmove =>
    obtain ⟨-, -, -, -, -, -, hengine, -, -, -, hslots, -⟩ := hmove.keeps
    exact State.snapshotHolds_of_carries h hcarries fun o ho => ⟨o, hengine ▸ ho, rfl, rfl, hslots o.surface⟩
  | contact time u cause hidle =>
    refine State.snapshotHolds_of_carries h hcarries fun o ho => ?_
    rw [State.offerContact_engine] at ho
    refine ⟨o, ho, rfl, rfl, ?_⟩
    obtain ⟨-, heq⟩ | ⟨-, heq⟩ := State.offerContact_built hshaped time u cause <;> rw [heq]
    exact congrArg ownersOff (PerSurface.get_set_other _ _ _ _ (hidle o ho))
  | unsent => exact State.snapshotHolds_of_carries h hcarries fun o ho => ⟨o, by simpa using ho, rfl, rfl, by simp⟩
  | dropInHand => exact h
  | working o o' hop hon heq =>
    have hslots : t.tracks.slots = s.tracks.slots := congrArg Inner.slots heq
    refine State.snapshotHolds_of_carries h hcarries fun x hx => ?_
    obtain rfl : o' = x := Option.some.inj ((congrArg Inner.op heq).symm.trans hx)
    exact ⟨o, hop, hon.1, hon.2.1, by rw [hslots]⟩
  | quiet heq | shed _ heq | expire _ heq | watch _ _ heq | store _ heq => exact hinner heq rfl rfl

theorem Move.snapsSound (hmove : Move held plain s t) (h : ∀ o, s.engine.op = some o → o.snap.tracks.idsSound) :
    ∀ o, t.engine.op = some o → o.snap.tracks.idsSound := by
  intro o ho
  obtain hnone | ⟨o', x, ho', hx, hsnap, -⟩ := hmove.opContinues
  · cases hnone.symm.trans ho
  · obtain rfl : x = o := Option.some.inj (hx.symm.trans ho)
    rw [hsnap]
    exact h o' ho'

theorem Move.idsSound (hmove : Move held plain s t) (hshaped : s.tracks.shaped) (h : s.idsSound) : t.idsSound := by
  obtain ⟨htracks, hsnaps, hholds⟩ := h
  exact ⟨(hmove.carries hshaped).idsSound htracks, hmove.snapsSound hsnaps, hmove.snapshotHolds hshaped hholds⟩

theorem Moves.idsSound (hmoves : Moves held plain s t) (hshaped : s.tracks.shaped) (h : s.idsSound) : t.idsSound :=
  (hmoves.keep (P := fun x => x.tracks.shaped ∧ x.idsSound)
    (fun _ _ hmove hx => ⟨(hmove.carries hx.1).shaped hx.1, hmove.idsSound hx.1 hx.2⟩) ⟨hshaped, h⟩).2

theorem State.idsSound_of_idle (hop : s.engine.op = none) (h : s.tracks.idsSound) : s.idsSound :=
  ⟨h, (fun _ ho => nomatch hop.symm.trans ho), State.snapshotHolds_of_idle hop⟩

theorem liveTable_idsSound {o : Operation} (hop : s.engine.op = some o) (hshaped : o.snap.tracks.shaped)
    (hsn : o.snap.tracks.idsSound) (hholds : s.snapshotHolds) (f : ReadyFrame) :
    (liveTable s.tracks o.surface o.snap (liveWork o.snap o.surface f)).idsSound := by
  have hwork := liveWork_idsSound hshaped hsn o.surface f
  refine TrackTable.idsSound_of_named hwork (fun v => ?_) hwork.2.2
  by_cases hv : v = o.surface
  · subst hv
    intro i y hy
    rw [liveTable_getElem?] at hy
    obtain ⟨b, -, hy⟩ := Option.bind_eq_some_iff.mp hy
    obtain ⟨e, he, hy⟩ := Option.bind_eq_some_iff.mp hy
    obtain ⟨c, -, hfinish⟩ := Option.map_eq_some_iff.mp hy
    obtain ⟨x, rfl, hcarries, -⟩ := finishSlot_eq_some hfinish
    exact ⟨x, he, hcarries.1⟩
  · rw [liveTable_slots_other hv, liveWork_other o.snap hv]
    exact State.snapshotHolds_named hholds hop v

theorem tracksClosed_idsSound {o : Operation} (hop : s.engine.op = some o) (hs : s.tracks.idsSound)
    (hsn : o.snap.tracks.idsSound) (hholds : s.snapshotHolds) (key : Time) :
    (s.tracksClosed o.surface o.snap key).tracks.idsSound := by
  refine TrackTable.idsSound_of_named hsn (fun v => ?_) hs.2.2
  by_cases hv : v = o.surface
  · subst hv
    intro i y hy
    rw [tracksClosed_getElem?] at hy
    obtain ⟨b, hb, hy⟩ := Option.bind_eq_some_iff.mp hy
    obtain ⟨c, -, hclosed⟩ := Option.map_eq_some_iff.mp hy
    obtain ⟨x, rfl, -, hid, -⟩ := closedSlot_eq_some hclosed
    exact ⟨x, hb, hid⟩
  · rw [tracksClosed_slots_other s hv]
    exact State.snapshotHolds_named hholds hop v

theorem wound_idsSound (h : s.tracks.idsSound) : s.wound.tracks.idsSound := by
  refine TrackTable.idsSound_of_named h (fun u i y hy => ?_) h.2.2
  rw [wound_slots, List.getElem?_map] at hy
  obtain ⟨r, hr, hclosed⟩ := Option.map_eq_some_iff.mp hy
  obtain ⟨x, rfl, -, hid, -⟩ := closeSlot_eq_some hclosed
  exact ⟨x, hr, hid⟩

theorem Opened.idsSound (hopened : Opened s t) (hlists : s.listsKept) (h : s.idsSound) : t.idsSound := by
  obtain ⟨htracks, hsnaps, hholds⟩ := id h
  obtain ⟨-, hshaped, hops, -⟩ := hlists
  cases hopened with
  | same => exact h
  | begun o hidle hsnap heq =>
    have hslots : t.tracks.slots = s.tracks.slots := (congrArg Inner.slots heq).trans rfl
    have hsound : t.tracks.idsSound := TrackTable.carries.idsSound
      (State.tracks_of_inner ((congrArg Inner.slots heq).trans rfl) ((congrArg Inner.nextId heq).trans rfl)) htracks
    have hsome (x : Operation) (hx : t.engine.op = some x) : x = o :=
      (Option.some.inj ((congrArg Inner.op heq).symm.trans hx)).symm
    refine ⟨hsound, fun x hx => ?_, fun x hx => ?_⟩ <;> rw [hsome x hx, hsnap]
    · exact htracks
    · rw [hslots]
      exact ⟨rfl, fun v _ i y hy => ⟨y, hy, rfl⟩⟩
  | dropped => exact State.idsSound_of_idle rfl htracks
  | live o f hsome =>
    exact State.idsSound_of_idle (congrArg Engine.op (State.liveSettled_engine _ _ _ _))
      (liveTable_idsSound hsome (hops o hsome) (hsnaps o hsome) hholds f)
  | closed o key out hsome =>
    refine State.idsSound_of_idle (congrArg Engine.op (State.closeSettled_engine _ _ _ _)) ?_
    unfold State.closeSettled
    split
    · exact tracksClosed_idsSound hsome htracks (hsnaps o hsome) hholds key
    · exact htracks
  | wound => exact State.idsSound_of_idle rfl (wound_idsSound htracks)

theorem State.idsSound_atReset (cause : ResetCause) (b : Bool) (q : List Instr) :
    (State.atReset cause b q).idsSound :=
  State.idsSound_of_idle rfl (by simp [TrackTable.idsSound, TrackTable.heldIds, State.atReset, TrackTable.reset])

theorem Effect.idsSound (heffect : Effect held plain s t) (hlists : s.listsKept) (h : s.idsSound) : t.idsSound := by
  cases heffect with
  | moves a hopened hmoves => exact hmoves.idsSound (hopened.listsKept hlists).2.1 (hopened.idsSound hlists h)
  | afterReset cause heq => rw [heq]; exact State.idsSound_atReset cause false s.pending
  | atReset cause heq => rw [heq]; exact State.idsSound_atReset cause true s.pending

end

end Sys2Proof.Machine

/-! The forced releases of a live completion (R88, R123, R149): which claims leave which context. -/

namespace Sys2Proof.Machine

/-- The claim that one change of a slot takes from a context: of the track that became PALM by its vote there, when the
context owns it now (R88). -/
def TrackTable.releaseOf (t : TrackTable) (k : Nat) (change : Nat × Option Track × Option Track) : Option TrackRef :=
  change.2.2.bind fun y => (t.at change.1).bind fun x =>
    if votedPalm change.2.1 (some y) = true ∧ x.id = y.id ∧ x.owner = some k then some ⟨change.1, y.id⟩ else none

/-- A context without its claims of some tracks (R123). -/
def Context.without (c : Context) (l : List TrackRef) : Context :=
  { c with claims := c.claims.filter fun e => !l.contains e.track }

theorem Context.without_nil (c : Context) : c.without [] = c := by
  simp [Context.without]

theorem Context.without_single (c : Context) (r : TrackRef) : c.without [r] = c.letGo r := by
  simp only [Context.without, Context.letGo]
  congr 1
  refine List.filter_congr fun e _ => ?_
  by_cases h : e.track = r <;> simp [h]

theorem Context.without_without (c : Context) (l m : List TrackRef) : (c.without l).without m = c.without (l ++ m) := by
  simp only [Context.without, List.filter_filter]
  congr 1
  refine List.filter_congr fun e _ => ?_
  simp [Bool.and_comm]

theorem Context.claimsTrack_without (c : Context) (l : List TrackRef) (r : TrackRef) :
    (c.without l).claimsTrack r = true ↔ c.claimsTrack r = true ∧ r ∉ l := by
  simp only [Context.claimsTrack_iff, Context.without, List.mem_map, List.mem_filter, Bool.not_eq_true',
    List.contains_eq_mem, decide_eq_false_iff_not]
  constructor
  · rintro ⟨e, ⟨he, hout⟩, rfl⟩
    exact ⟨⟨e, he, rfl⟩, hout⟩
  · rintro ⟨⟨e, he, rfl⟩, hout⟩
    exact ⟨e, ⟨he, hout⟩, rfl⟩

theorem Context.without_claims_sublist (c : Context) (l : List TrackRef) : (c.without l).claims.Sublist c.claims :=
  List.filter_sublist

section
variable (s : State)

theorem State.forceRelease_of_none (n : Nat) (b : Option Track) : s.forceRelease n b none = s := by
  unfold State.forceRelease
  split <;> simp_all

theorem sameTrack_some {x y : Track} : sameTrack (some x) (some y) = true ↔ x.id = y.id := by
  simp [sameTrack]

/-- A forced release finds the context that owns the track now, if one runs there (R88). -/
theorem State.releasedFrom_eq_some {n : Nat} {b : Option Track} {y : Track} {r : ContextRef} :
    s.releasedFrom n b (some y) = some r ↔ votedPalm b (some y) = true ∧ ∃ x k c, s.tracks.at n = some x ∧ x.id = y.id ∧
      x.owner = some k ∧ s.context k = some c ∧ r = ⟨k, c.serial⟩ := by
  unfold State.releasedFrom
  rw [Option.ite_none_right_eq_some, Bool.and_eq_true]
  cases hx : s.tracks.at n with
  | none => simp [sameTrack]
  | some x =>
    rw [sameTrack_some]
    simp only [Option.bind_some, Option.bind_eq_some_iff, Option.map_eq_some_iff, Option.some.injEq]
    constructor
    · rintro ⟨⟨hvoted, hid⟩, k, hk, c, hc, rfl⟩
      exact ⟨hvoted, x, k, c, rfl, hid, hk, hc, rfl⟩
    · rintro ⟨hvoted, _, k, c, rfl, hid, hk, hc, rfl⟩
      exact ⟨⟨hvoted, hid⟩, k, hk, c, hc, rfl⟩

/-- A forced release is a claim dropped, or nothing (R88). -/
theorem State.forceRelease_cases (n : Nat) (b : Option Track) (y : Track) :
    (∃ k c, s.tracks.releaseOf k (n, b, some y) = some ⟨n, y.id⟩ ∧ s.context k = some c ∧
        s.forceRelease n b (some y) = s.dropClaim k ⟨n, y.id⟩) ∨
      ((∀ k, s.tracks.releaseOf k (n, b, some y) ≠ none → s.context k = none) ∧ s.forceRelease n b (some y) = s) := by
  cases h : s.releasedFrom n b (some y) with
  | some r =>
    obtain ⟨hvoted, x, k, c, hx, hid, howner, hc, rfl⟩ := s.releasedFrom_eq_some.mp h
    exact .inl ⟨k, c, by simp [TrackTable.releaseOf, hx, hvoted, hid, howner], hc, by simp only [State.forceRelease, h]⟩
  | none =>
    refine .inr ⟨fun k hk => ?_, by simp only [State.forceRelease, h]⟩
    obtain ⟨r, hr⟩ := Option.ne_none_iff_exists'.mp hk
    simp only [TrackTable.releaseOf, Option.bind_some, Option.bind_eq_some_iff] at hr
    obtain ⟨x, hx, hr⟩ := hr
    obtain ⟨⟨hvoted, hid, howner⟩, -⟩ := Option.ite_none_right_eq_some.mp hr
    by_contra hctx
    obtain ⟨c, hc⟩ := Option.ne_none_iff_exists'.mp hctx
    have hsome := s.releasedFrom_eq_some.mpr ⟨hvoted, x, k, c, hx, hid, howner, hc, rfl⟩
    rw [h] at hsome
    cases hsome

theorem TrackTable.releaseOf_owner {t : TrackTable} {n : Nat} {b e : Option Track} {j k : Nat} {r r' : TrackRef}
    (h : t.releaseOf j (n, b, e) = some r) (h' : t.releaseOf k (n, b, e) = some r') : j = k := by
  simp only [TrackTable.releaseOf, Option.bind_eq_some_iff] at h h'
  obtain ⟨y, hy, x, hx, h⟩ := h
  obtain ⟨y', hy', x', hx', h'⟩ := h'
  obtain ⟨⟨-, -, hj⟩, -⟩ := Option.ite_none_right_eq_some.mp h
  obtain ⟨⟨-, -, hk⟩, -⟩ := Option.ite_none_right_eq_some.mp h'
  rw [hx] at hx'
  cases hx'
  exact Option.some.inj (hj.symm.trans hk)

theorem State.context_forceRelease (k n : Nat) (b e : Option Track) : (s.forceRelease n b e).context k =
    (s.context k).map fun c => c.without (s.tracks.releaseOf k (n, b, e)).toList := by
  cases e with
  | none => simp [State.forceRelease_of_none, TrackTable.releaseOf, Context.without_nil]
  | some y =>
    obtain ⟨j, c, hrelease, hc, heq⟩ | ⟨hnone, heq⟩ := s.forceRelease_cases n b y
    · rw [heq, State.context_dropClaim]
      split
      next hkj =>
        subst hkj
        simp [hrelease, Context.without_single]
      next hkj =>
        cases hrelease' : s.tracks.releaseOf k (n, b, some y) with
        | none => simp [Context.without_nil]
        | some r => exact absurd (TrackTable.releaseOf_owner hrelease' hrelease) hkj
    · rw [heq]
      cases hrelease : s.tracks.releaseOf k (n, b, some y) with
      | none => simp [Context.without_nil]
      | some r => rw [hnone k (by simp [hrelease])]; rfl

@[simp] theorem State.forceRelease_tracks (n : Nat) (b e : Option Track) :
    (s.forceRelease n b e).tracks = s.tracks := by
  unfold State.forceRelease
  split <;> simp

/-- The forced releases of a list of slot changes take each context's claims of the tracks it loses (R88, R123). -/
theorem State.context_forceReleases (k : Nat) (cs : List (Nat × Option Track × Option Track)) :
    (cs.foldl (fun acc c => acc.forceRelease c.1 c.2.1 c.2.2) s).context k =
      (s.context k).map fun c => c.without (cs.filterMap (s.tracks.releaseOf k)) := by
  induction cs generalizing s with
  | nil => simp [Context.without_nil]
  | cons change cs ih =>
    obtain ⟨n, b, e⟩ := change
    rw [List.foldl_cons, ih, State.forceRelease_tracks, State.context_forceRelease, Option.map_map]
    congr 1
    funext c
    simp only [Function.comp_apply, Context.without_without, List.filterMap_cons]
    cases s.tracks.releaseOf k (n, b, e) <;> rfl

/-- The tracks of a surface that a context loses in a live completion (R88). -/
def releasedTo (now : TrackTable) (u : Surface) (r : LiveResult) (k : Nat) : List TrackRef :=
  (slotChanges u r.before r.after).filterMap (now.releaseOf k)

theorem State.context_releases (u : Surface) (r : LiveResult) (k : Nat) :
    (s.releases u r).context k = (s.context k).map fun c => c.without (releasedTo s.tracks u r k) :=
  s.context_forceReleases k _

@[simp] theorem State.releases_tracks (u : Surface) (r : LiveResult) : (s.releases u r).tracks = s.tracks :=
  foldl_keeps _ State.tracks (fun x _ => x.forceRelease_tracks _ _ _) _ s

end

theorem mem_slotChanges {u : Surface} {before after : List (Option Track)} {n : Nat} {b e : Option Track} :
    (n, b, e) ∈ slotChanges u before after ↔
      ∃ i : Nat, n = u.firstSlot + i ∧ before[i]? = some b ∧ after[i]? = some e := by
  simp only [slotChanges, List.mem_map, Prod.exists, List.mk_mem_zipIdx_iff_getElem?, List.getElem?_zip_eq_some,
    Prod.mk.injEq]
  constructor
  · rintro ⟨b', e', i, ⟨hb, he⟩, rfl, rfl, rfl⟩
    exact ⟨i, rfl, hb, he⟩
  · rintro ⟨i, rfl, hb, he⟩
    exact ⟨b, e, i, ⟨hb, he⟩, rfl, rfl, rfl⟩

theorem mem_releasedTo {now : TrackTable} {u : Surface} {r : LiveResult} {k : Nat} {ref : TrackRef} :
    ref ∈ releasedTo now u r k ↔ ∃ (i : Nat) (b : Option Track) (x y : Track), r.before[i]? = some b ∧
      r.after[i]? = some (some y) ∧ now.at (u.firstSlot + i) = some x ∧ votedPalm b (some y) = true ∧ x.id = y.id ∧
      x.owner = some k ∧ ref = ⟨u.firstSlot + i, y.id⟩ := by
  simp only [releasedTo, List.mem_filterMap, Prod.exists, mem_slotChanges, TrackTable.releaseOf, Option.bind_eq_some_iff,
    Option.ite_none_right_eq_some, Option.some.injEq]
  constructor
  · rintro ⟨n, b, e, ⟨i, rfl, hb, he⟩, y, rfl, x, hx, ⟨hvoted, hid, howner⟩, rfl⟩
    exact ⟨i, b, x, y, hb, he, hx, hvoted, hid, howner, rfl⟩
  · rintro ⟨i, b, x, y, hb, he, hx, hvoted, hid, howner, rfl⟩
    exact ⟨_, b, some y, ⟨i, rfl, hb, he⟩, y, rfl, x, hx, ⟨hvoted, hid, howner⟩, rfl⟩

end Sys2Proof.Machine

/-! Owners and claims agree through every step whose new tracks bear no name that a context still claims (R50, R88,
R122). -/

namespace Sys2Proof.Machine

/-! ## What each context claims -/

/-- The tracks that the context of a slot claims; none where no context runs. -/
def State.claimsOf (s : State) (k : Nat) : List TrackRef :=
  ((s.context k).map fun c => c.claims.map ClaimEntry.track).getD []

section
variable {s t : State}

theorem State.claimsOf_of_running {k : Nat} {c : Context} (h : s.context k = some c) :
    s.claimsOf k = c.claims.map ClaimEntry.track := by
  simp [State.claimsOf, h]

theorem State.mem_claimsOf {k : Nat} {r : TrackRef} :
    r ∈ s.claimsOf k ↔ ∃ c, s.context k = some c ∧ c.claimsTrack r = true := by
  cases h : s.context k with
  | none => simp [State.claimsOf, h]
  | some c => simp [State.claimsOf, h, Context.claimsTrack_iff]

theorem State.claimsOf_of_contexts (h : t.gestures.contexts = s.gestures.contexts) (k : Nat) : t.claimsOf k = s.claimsOf k := by
  rw [State.claimsOf, State.claimsOf, State.context_of_gestures h]

theorem State.claimsOf_setContext {k : Nat} {c d : Context} (h : s.context k = some c) (j : Nat) :
    (s.setContext k (some d)).claimsOf j = if j = k then d.claims.map ClaimEntry.track else s.claimsOf j := by
  rw [State.claimsOf, State.context_setContext_of_running h]
  split <;> rfl

/-- A context slot that no claims enter or leave. -/
theorem State.claimsOf_setContext_of_empty {k : Nat} {r : Option Context} (hr : ∀ c, r = some c → c.claims = [])
    (h : ∀ c, s.context k = some c → c.claims = []) (j : Nat) : (s.setContext k r).claimsOf j = s.claimsOf j := by
  rw [State.claimsOf, State.context_setContext]
  split
  next hjk =>
    subst hjk
    have hbefore : s.claimsOf j = [] := by
      cases hc : s.context j with
      | none => simp [State.claimsOf, hc]
      | some c => simp [State.claimsOf, hc, h c hc]
    rw [hbefore]
    cases hr' : r with
    | none => simp
    | some c => split <;> simp [hr c hr']
  · rfl

theorem State.claimsOf_placeClaims (d : Digest) (k : Nat) : (s.placeClaims d).claimsOf k = s.claimsOf k := by
  simp only [State.claimsOf, State.context_eq, State.placeClaims, List.getElem?_map]
  cases s.gestures.contexts[k]? with
  | none => rfl
  | some r =>
    cases r with
    | none => rfl
    | some c =>
      simp only [Option.map_some, Option.getD_some]
      split
      · simp only [List.map_map]
        congr 1
        funext e
        simp only [Function.comp_apply, ClaimEntry.place]
        split <;> rfl
      · rfl

theorem Context.letGo_claims (c : Context) (r : TrackRef) :
    (c.letGo r).claims.map ClaimEntry.track = (c.claims.map ClaimEntry.track).filter (· != r) := by
  simp only [Context.letGo, List.filter_map]
  rfl

theorem State.claimsOf_giveUp (k j : Nat) (r : TrackRef) :
    (s.giveUp k r).claimsOf j = if j = k then (s.claimsOf k).filter (· != r) else s.claimsOf j := by
  rw [State.claimsOf, State.context_giveUp]
  split
  · rw [State.claimsOf]
    cases s.context k with
    | none => rfl
    | some c => simp [Context.letGo_claims]
  · rfl

theorem State.claimsOf_releases (u : Surface) (r : LiveResult) (k : Nat) :
    (s.releases u r).claimsOf k = (s.claimsOf k).filter fun x => !(releasedTo s.tracks u r k).contains x := by
  rw [State.claimsOf, State.context_releases, State.claimsOf]
  cases s.context k with
  | none => rfl
  | some c =>
    simp only [Option.map_some, Option.getD_some, Context.without, List.filter_map]
    rfl

theorem State.claimsAgree_iff : s.claimsAgree ↔
    (∀ n x k, s.tracks.at n = some x → x.owner = some k →
      x.state ≠ .tentative ∧ x.cls ≠ .palm ∧ (⟨n, x.id⟩ : TrackRef) ∈ s.claimsOf k) ∧
    (∀ k r x, r ∈ s.claimsOf k → s.tracks.at r.slot = some x → x.id = r.id → x.owner = some k) ∧
    (∀ j k r, r ∈ s.claimsOf j → r ∈ s.claimsOf k → j = k) ∧ ∀ k, (s.claimsOf k).Nodup := by
  simp only [State.claimsAgree, ← State.mem_claimsOf]
  refine and_congr .rfl (and_congr ?_ (and_congr ?_ ?_))
  · refine ⟨fun h k r x hr => ?_, fun h k c r x hc hr => h k r x (State.mem_claimsOf.mpr ⟨c, hc, hr⟩)⟩
    obtain ⟨c, hc, hclaims⟩ := State.mem_claimsOf.mp hr
    exact h k c r x hc hclaims
  · refine ⟨fun h j k r hj hk => ?_, fun h j k c d r hc hd hj hk =>
      h j k r (State.mem_claimsOf.mpr ⟨c, hc, hj⟩) (State.mem_claimsOf.mpr ⟨d, hd, hk⟩)⟩
    obtain ⟨c, hc, hclaims⟩ := State.mem_claimsOf.mp hj
    obtain ⟨d, hd, hclaims'⟩ := State.mem_claimsOf.mp hk
    exact h j k c d r hc hd hclaims hclaims'
  · refine ⟨fun h k => ?_, fun h k c hc => State.claimsOf_of_running hc ▸ h k⟩
    cases hc : s.context k with
    | none => simp [State.claimsOf, hc]
    | some c => exact State.claimsOf_of_running hc ▸ h k c hc

/-! ## Slots after a change of one -/

theorem slot_eq_of_place {m n : Nat} (hsurface : slotSurface m = slotSurface n)
    (hplace : m - (slotSurface m).firstSlot = n - (slotSurface n).firstSlot) : m = n := by
  unfold slotSurface at hsurface hplace
  split at hsurface <;> split at hsurface <;> simp_all [Surface.firstSlot]
  omega

theorem TrackTable.at_put {t : TrackTable} {n : Nat} {x : Track} (h : t.at n = some x) (r : Option Track) (m : Nat) :
    (t.put n r).at m = if m = n then r else t.at m := by
  have hlt := (List.getElem?_eq_some_iff.mp (TrackTable.at_eq_some.mp h)).1
  simp only [TrackTable.at, TrackTable.put, List.getD_eq_getElem?_getD, PerSurface.get_set]
  by_cases hmn : m = n
  · subst hmn
    simp [hlt]
  · rw [if_neg hmn]
    split
    next hsurface =>
      rw [hsurface, List.getElem?_set_ne]
      exact fun hplace => hmn (slot_eq_of_place hsurface (by rw [hplace, hsurface]))
    · rfl

/-- The track of a slot after a release (R50). -/
theorem State.at_releaseTrack {r : TrackRef} {k n : Nat} {y : Track} (h : (s.releaseTrack r k).tracks.at n = some y) :
    ∃ x, s.tracks.at n = some x ∧ x.id = y.id ∧ x.state = y.state ∧ x.cls = y.cls ∧
      y.owner = if n = r.slot ∧ x.id = r.id ∧ x.owner = some k then none else x.owner := by
  rw [State.releaseTrack_eq] at h
  obtain ⟨x, hx, hid, heq⟩ | ⟨hno, heq⟩ := s.tracks.onTrack_cases r
      (fun x => some { x with owner := if x.owner = some k then none else x.owner }) <;> simp only [heq] at h
  · rw [TrackTable.at_put hx] at h
    split at h
    next hn =>
      cases h
      exact ⟨x, hn ▸ hx, rfl, rfl, rfl, by simp [hn, hid]⟩
    next hn => exact ⟨y, h, rfl, rfl, rfl, by simp [hn]⟩
  · refine ⟨y, h, rfl, rfl, rfl, ?_⟩
    rw [if_neg]
    exact fun hall => hno y (hall.1 ▸ h) hall.2.1

end

end Sys2Proof.Machine

/-! Moves and openings keep owners and claims in agreement (R50, R88, R122). -/

namespace Sys2Proof.Machine

section
variable {held plain : Prop} {s t : State}

/-! ## Moves -/

/-- A track of a slot was there before, with its owner and class, and is TENTATIVE only when it was. -/
def State.tracksFrom (s t : State) : Prop :=
  ∀ n y, t.tracks.at n = some y → ∃ x, s.tracks.at n = some x ∧ x.id = y.id ∧ y.cls = x.cls ∧ y.owner = x.owner ∧
    (x.state ≠ .tentative → y.state ≠ .tentative)

theorem State.tracksFrom_of_slots (h : t.tracks.slots = s.tracks.slots) : s.tracksFrom t := by
  intro n y hy
  refine ⟨y, ?_, rfl, rfl, rfl, id⟩
  rwa [TrackTable.at, h] at hy

theorem State.claimsAgree_of (h : s.claimsAgree) (hclaims : ∀ k, t.claimsOf k = s.claimsOf k) (htracks : s.tracksFrom t) :
    t.claimsAgree := by
  rw [State.claimsAgree_iff] at h ⊢
  simp only [hclaims]
  obtain ⟨howned, hclaimed, hrest⟩ := h
  refine ⟨fun n y k hy hk => ?_, fun k r y hr hy hid => ?_, hrest⟩
  · obtain ⟨x, hx, hid, hcls, howner, hstate⟩ := htracks n y hy
    obtain ⟨hopen, hpalm, hin⟩ := howned n x k hx (howner.symm.trans hk)
    exact ⟨hstate hopen, hcls ▸ hpalm, hid ▸ hin⟩
  · obtain ⟨x, hx, hid', -, howner, -⟩ := htracks _ y hy
    exact howner.trans (hclaimed k r x hr hx (hid'.trans hid))

theorem State.claimsAgree_of_same (h : s.claimsAgree) (hcontexts : t.gestures.contexts = s.gestures.contexts)
    (hslots : t.tracks.slots = s.tracks.slots) : t.claimsAgree :=
  State.claimsAgree_of h (State.claimsOf_of_contexts hcontexts) (State.tracksFrom_of_slots hslots)

theorem State.claimsAgree_giveUp (h : s.claimsAgree) (k : Nat) (r : TrackRef) : (s.giveUp k r).claimsAgree := by
  rw [State.claimsAgree_iff] at h ⊢
  obtain ⟨howned, hclaimed, hapart, hnodup⟩ := h
  have hsub (j : Nat) (x : TrackRef) : x ∈ (s.giveUp k r).claimsOf j ↔ x ∈ s.claimsOf j ∧ (j = k → x ≠ r) := by
    rw [State.claimsOf_giveUp]
    split
    next hjk =>
      subst hjk
      simp
    next hjk => simp [hjk]
  have htrack (n : Nat) (y : Track) (hy : (s.giveUp k r).tracks.at n = some y) :
      ∃ x, s.tracks.at n = some x ∧ x.id = y.id ∧ x.state = y.state ∧ x.cls = y.cls ∧
        y.owner = if n = r.slot ∧ x.id = r.id ∧ x.owner = some k then none else x.owner := by
    obtain ⟨x, hx, hall⟩ := State.at_releaseTrack hy
    exact ⟨x, by rwa [State.dropClaim_tracks] at hx, hall⟩
  refine ⟨fun n y j hy hj => ?_, fun j x y hx hy hid => ?_, fun i j x hi hj => ?_, fun j => ?_⟩
  · obtain ⟨x, hx, hid, hstate, hcls, howner⟩ := htrack n y hy
    rw [howner] at hj
    split at hj
    next => cases hj
    next hkept =>
      obtain ⟨hopen, hpalm, hmem⟩ := howned n x j hx hj
      rw [← hid, ← hstate, ← hcls]
      refine ⟨hopen, hpalm, (hsub _ _).mpr ⟨hmem, fun hjk heq => hkept ?_⟩⟩
      subst heq
      exact ⟨rfl, rfl, hjk ▸ hj⟩
  · obtain ⟨hmem, hne⟩ := (hsub j x).mp hx
    obtain ⟨z, hz, hid', -, -, howner⟩ := htrack _ y hy
    have hown := hclaimed j x z hmem hz (hid'.trans hid)
    rw [howner, if_neg, hown]
    rintro ⟨hslot, hzid, hk⟩
    refine hne (Option.some.inj (hown.symm.trans hk)) ?_
    obtain ⟨slot, id⟩ := x
    obtain ⟨slot', id'⟩ := r
    simp only [TrackRef.mk.injEq]
    exact ⟨hslot, (hid'.trans hid).symm.trans hzid⟩
  · exact hapart i j x ((hsub i x).mp hi).1 ((hsub j x).mp hj).1
  · rw [State.claimsOf_giveUp]
    split
    · exact (hnodup k).filter _
    · exact hnodup j

theorem State.claimsAgree_grant (h : s.claimsAgree) {k : Nat} {c : Context} {x : Track} {e : ClaimEntry}
    (hc : s.context k = some c) (hx : s.tracks.at e.track.slot = some x)
    (hid : x.id = e.track.id) (hclaimable : x.claimable = true) : (s.grant k c x e).claimsAgree := by
  rw [State.claimsAgree_iff] at h ⊢
  obtain ⟨howned, hclaimed, hapart, hnodup⟩ := h
  obtain ⟨⟨hconfirmed, hpalm⟩, hfree⟩ : (x.confirmed = true ∧ x.cls ≠ .palm) ∧ x.owner = none := by
    simpa [Track.claimable] using hclaimable
  have htentative : x.state ≠ .tentative := fun hstate => by simp [Track.confirmed, hstate] at hconfirmed
  have hmem (j : Nat) (r : TrackRef) :
      r ∈ (s.grant k c x e).claimsOf j ↔ r ∈ s.claimsOf j ∨ (j = k ∧ r = e.track) := by
    have hputs : (s.putTrack e.track.slot (some { x with owner := some k })).context k = some c := hc
    rw [State.grant, State.claimsOf_setContext hputs]
    split
    next hjk => simp [hjk, State.claimsOf_of_running hc]
    next hjk => simp [hjk, State.claimsOf_of_contexts (s := s) (t := s.putTrack e.track.slot _) rfl]
  have hat (n : Nat) : (s.grant k c x e).tracks.at n =
      if n = e.track.slot then some { x with owner := some k } else s.tracks.at n := TrackTable.at_put hx _ n
  have hnobody (j : Nat) : e.track ∉ s.claimsOf j := fun hj => by
    have hown := hclaimed j e.track x hj hx hid
    rw [hfree] at hown
    cases hown
  refine ⟨fun n y j hy hj => ?_, fun j r y hr hy hrid => ?_, fun i j r hi hj => ?_, fun j => ?_⟩
  · rw [hat] at hy
    split at hy
    next hn =>
      cases hy
      cases hj
      refine ⟨htentative, hpalm, (hmem k _).mpr (.inr ⟨rfl, ?_⟩)⟩
      rw [hn, hid]
    next =>
      obtain ⟨hopen, hnot, hin⟩ := howned n y j hy hj
      exact ⟨hopen, hnot, (hmem j _).mpr (.inl hin)⟩
  · rw [hat] at hy
    obtain hold | ⟨hjk, hnewest⟩ := (hmem j r).mp hr
    · split at hy
      next hslot =>
        cases hy
        have hsame : r = e.track := by
          obtain ⟨slot, id⟩ := r
          cases hslot
          exact congrArg (TrackRef.mk _) (hrid.symm.trans hid)
        exact absurd (hsame ▸ hold) (hnobody j)
      next => exact hclaimed j r y hold hy hrid
    · subst hjk hnewest
      rw [if_pos rfl] at hy
      cases hy
      rfl
  · obtain hi | ⟨hik, hri⟩ := (hmem i r).mp hi <;> obtain hj | ⟨hjk, hrj⟩ := (hmem j r).mp hj
    · exact hapart i j r hi hj
    · exact absurd (hrj ▸ hi) (hnobody i)
    · exact absurd (hri ▸ hj) (hnobody j)
    · exact hik.trans hjk.symm
  · have hputs : (s.putTrack e.track.slot (some { x with owner := some k })).context k = some c := hc
    rw [State.grant, State.claimsOf_setContext hputs]
    split
    · rw [List.map_append, ← State.claimsOf_of_running hc]
      exact (List.nodup_append_comm.mp (by simpa using ⟨hnobody k, hnodup k⟩))
    · exact hnodup j

theorem EngineMove.claimsAgree (hmove : EngineMove held s t) (h : s.claimsAgree) : t.claimsAgree := by
  cases hmove with
  | gesture time g => exact State.claimsAgree_of_same h (by simp) (by simp)
  | snapshot time r => exact State.claimsAgree_of_same h (by simp) (by simp)
  | pointer time m hm => exact State.claimsAgree_of_same h (by simp) (by simp)
  | aside | releasePointer | setPointer | press | unpress | residues => exact State.claimsAgree_of_same h rfl rfl
  | edit k c d hc htemplate hserial hclaims =>
    refine State.claimsAgree_of h (fun j => ?_) (State.tracksFrom_of_slots rfl)
    rw [State.claimsOf_setContext hc]
    split
    next hjk => rw [hclaims, hjk, State.claimsOf_of_running hc]
    · rfl
  | place d => exact State.claimsAgree_of h (State.claimsOf_placeClaims d) (State.tracksFrom_of_slots rfl)
  | claim k c x e hc _ _ hx hid hclaimable => exact State.claimsAgree_grant h hc hx hid hclaimable
  | giveUp k r => exact State.claimsAgree_giveUp h k r
  | start k c hfree hclaims =>
    refine State.claimsAgree_of h (State.claimsOf_setContext_of_empty ?_ ?_) (State.tracksFrom_of_slots rfl)
    · rintro _ ⟨⟩
      exact hclaims
    · simp [hfree]
  | finish k hclaims hvacant =>
    exact State.claimsAgree_of h (State.claimsOf_setContext_of_empty nofun hclaims) (State.tracksFrom_of_slots rfl)

theorem TrackTable.at_announced {t : TrackTable} {u : Surface} {n : Nat} {y : Track}
    (h : TrackTable.at { t with slots := t.slots.set u ((t.slots.get u).map announcedSlot) } n = some y) :
    t.at n = some y ∨ ∃ x, t.at n = some x ∧ announcedSlot (some x) = some y := by
  rw [TrackTable.at_eq_some] at h ⊢
  rw [PerSurface.get_set] at h
  split at h
  next hu =>
    subst hu
    rw [List.getElem?_map] at h
    obtain ⟨r, hr, hslot⟩ := Option.map_eq_some_iff.mp h
    cases r with
    | none => cases hslot
    | some x => exact .inr ⟨x, TrackTable.at_eq_some.mpr hr, hslot⟩
  · exact .inl h

theorem announcedSlot_owner {x y : Track} (h : announcedSlot (some x) = some y) : y.owner = x.owner := by
  simp only [announcedSlot, Option.bind_some] at h
  split at h
  · rw [← Option.some.inj h]
  · rw [← Option.some.inj h]
  · rw [← Option.some.inj h]
  · split at h
    · cases h
    · rw [← Option.some.inj h]

theorem announcedSlot_carries {x y : Track} (h : announcedSlot (some x) = some y) : x.carries y := by
  obtain ⟨x', hx, hcarries⟩ := (slotCarries_announced (some x)).1 y h
  cases hx
  exact hcarries

theorem Move.claimsAgree (hmove : Move held plain s t) (hshaped : s.tracks.shaped) (h : s.claimsAgree) :
    t.claimsAgree := by
  have hinner {l : Inner} (heq : t.inner = l) (hslots : l.slots = s.inner.slots) (hcontexts : l.contexts = s.inner.contexts) :
      t.claimsAgree :=
    State.claimsAgree_of_same h ((congrArg Inner.contexts heq).trans hcontexts) ((congrArg Inner.slots heq).trans hslots)
  cases hmove with
  | engine hmove => exact hmove.claimsAgree h
  | contact time u cause =>
    obtain ⟨-, heq⟩ | ⟨-, heq⟩ := State.offerContact_built hshaped time u cause <;> rw [heq]
    · refine State.claimsAgree_of h (State.claimsOf_of_contexts rfl) fun n y hy => ?_
      obtain hsame | ⟨x, hx, hslot⟩ := TrackTable.at_announced hy
      · exact ⟨y, hsame, rfl, rfl, rfl, id⟩
      · obtain ⟨hid, hstate, hcls, -⟩ := announcedSlot_carries hslot
        exact ⟨x, hx, hid.symm, hcls, announcedSlot_owner hslot, fun h => hstate ▸ h⟩
    · exact h
  | unsent => exact State.claimsAgree_of_same h (by simp) (by simp)
  | dropInHand => exact State.claimsAgree_of_same h rfl rfl
  | quiet heq | shed _ heq | working _ _ _ _ heq | expire _ heq | watch _ _ heq | store _ heq =>
    exact hinner heq rfl rfl

theorem Moves.claimsAgree (hmoves : Moves held plain s t) (hshaped : s.tracks.shaped) (h : s.claimsAgree) :
    t.claimsAgree :=
  (hmoves.keep (P := fun x => x.tracks.shaped ∧ x.claimsAgree)
    (fun _ _ hmove hx => ⟨(hmove.carries hx.1).shaped hx.1, hmove.claimsAgree hx.1 hx.2⟩) ⟨hshaped, h⟩).2

end

end Sys2Proof.Machine

/-! Owners and claims through the completions, and O60 (R50, R58, R88, R122). -/

namespace Sys2Proof.Machine

/-! ## The tracks of a live frame -/

section
variable {sn : Snapshot} {u : Surface} {f : ReadyFrame} {i : Nat}

theorem Track.matched_not_tentative {x : Track} (h : x.state ≠ .tentative) (hended : ∀ cause, x.state ≠ .ended cause)
    (b : Blob) : (x.matched sn u b).state ≠ .tentative := by
  obtain ⟨hstate, -⟩ | ⟨hstate, -⟩ | ⟨hstate, heq⟩ | ⟨hstate, heq⟩ := x.matched_cases sn u b hended
  · exact absurd hstate h
  · exact absurd hstate h
  · rwa [heq, Track.withBlob_state]
  · rw [heq]
    exact nofun

/-- A track that association leaves goes on, TENTATIVE only when it was (R54, R55). -/
theorem slotAfter_goesOn {blobs : List Blob} {pairs : List Candidate} {x y : Track}
    (h : slotAfter sn u blobs pairs i (some x) = some y) :
    goesOn (some x) (some y) = true ∧ (x.state ≠ .tentative → y.state ≠ .tentative) := by
  obtain ⟨_, hx, hid, hopened, -⟩ := slotAfter_keeps _ _ _ _ _ h
  cases hx
  refine ⟨by simp [goesOn, sameTrack, hid, hopened], fun hstate => ?_⟩
  obtain ⟨_, hx, ⟨htakes, b, rfl⟩ | ⟨-, hmissed⟩ | ⟨-, rfl⟩⟩ := slotAfter_eq_some _ _ _ _ _ h <;> cases hx
  · exact Track.matched_not_tentative hstate (x.takesPart_iff.mp htakes) b
  · obtain ⟨-, -, -, -, hmissing | ⟨cause, hended⟩⟩ := x.unmatched_eq_some _ hmissed
    · rw [hmissing]
      exact nofun
    · rw [hended]
      exact nofun
  · exact hstate

/-- A track of a slot after a live frame went on from the snapshot's, or was opened where no track was that is not
TENTATIVE (R55, R56). -/
theorem liveWork_origin {y : Track} (h : (liveWork sn u f).after[i]? = some (some y)) :
    (∃ x, (sn.tracks.slots.get u)[i]? = some (some x) ∧ y.id = x.id ∧ goesOn (some x) (some y) = true ∧
        (x.state ≠ .tentative → y.state ≠ .tentative)) ∨
      (openedHere (some y) = true ∧ y.open_ = true ∧ y.owner = none ∧
        ∀ x, (sn.tracks.slots.get u)[i]? = some (some x) → x.state = .tentative) := by
  obtain hsame | ⟨hfree, id, b, hopened⟩ := liveWork_slot sn u f i
  · rw [h, slotsMatched_getElem?] at hsame
    obtain ⟨r, hr, hslot⟩ := Option.map_eq_some_iff.mp hsame.symm
    obtain ⟨x, rfl, hid, -⟩ := slotAfter_keeps _ _ _ _ _ hslot
    obtain ⟨hgoes, hstate⟩ := slotAfter_goesOn hslot
    exact .inl ⟨x, hr, hid, hgoes, hstate⟩
  · rw [h] at hopened
    cases hopened
    refine .inr ⟨openedHere_openTrack _ _ _ _ _, ?_, openTrack_owner _ _ _ _ _, fun x hx => ?_⟩
    · obtain htentative | hactive := openTrack_state sn u f.time id b <;> simp [Track.open_, Track.confirmed, *]
    · rw [slotsMatched_getElem?, hx] at hfree
      exact ((slotAfter_eq_none_iff _).mp (Option.some.inj hfree) x rfl).1

end

/-- A slot of a live completion's table (R50, R65). -/
theorem liveTable_at {now : TrackTable} {u : Surface} {sn : Snapshot} {r : LiveResult} {n : Nat} {y : Track}
    (h : (liveTable now u sn r).at n = some y) :
    (slotSurface n ≠ u ∧ now.at n = some y) ∨
      (slotSurface n = u ∧ ∃ b e, r.before[n - u.firstSlot]? = some b ∧ r.after[n - u.firstSlot]? = some (some e) ∧
        e.carries y ∧ y.owner = ownerAfter b (some e) (now.at n)) := by
  by_cases hu : slotSurface n = u
  · subst hu
    rw [TrackTable.at_eq_some, liveTable_getElem?] at h
    obtain ⟨b, hb, h⟩ := Option.bind_eq_some_iff.mp h
    obtain ⟨e, he, h⟩ := Option.bind_eq_some_iff.mp h
    obtain ⟨c, hc, hfinish⟩ := Option.map_eq_some_iff.mp h
    obtain ⟨x, rfl, hcarries, howner⟩ := finishSlot_eq_some hfinish
    have hat : now.at n = c := by simp [TrackTable.at, List.getD_eq_getElem?_getD, hc]
    exact .inr ⟨rfl, b, x, hb, he, hcarries, hat ▸ howner⟩
  · refine .inl ⟨hu, ?_⟩
    rwa [TrackTable.at_eq_some, liveTable_slots_other hu, ← TrackTable.at_eq_some] at h

theorem ownerAfter_eq_some {b : Option Track} {e : Track} {c : Option Track} {k : Nat} :
    ownerAfter b (some e) c = some k ↔ goesOn b (some e) = true ∧ votedPalm b (some e) = false ∧
      ∃ x, c = some x ∧ x.id = e.id ∧ x.owner = some k := by
  unfold ownerAfter
  rw [Option.ite_none_right_eq_some, Bool.and_eq_true, Bool.and_eq_true, Bool.not_eq_true']
  cases c with
  | none => simp [sameTrack]
  | some x =>
    rw [sameTrack_some]
    simp only [Option.bind_some, Option.some.injEq, exists_eq_left']
    exact ⟨fun ⟨⟨⟨hgoes, hid⟩, hvoted⟩, howner⟩ => ⟨hgoes, hvoted, hid, howner⟩,
      fun ⟨hgoes, hvoted, hid, howner⟩ => ⟨⟨⟨hgoes, hid⟩, hvoted⟩, howner⟩⟩

/-- A track that goes on and does not vote itself to PALM keeps clear of it (R74, R88). -/
theorem not_palm_of_goesOn {x e : Track} (hgoes : goesOn (some x) (some e) = true)
    (hvoted : votedPalm (some x) (some e) = false) (hx : x.cls ≠ .palm) : e.cls ≠ .palm := by
  intro he
  simp [votedPalm, becamePalm, hgoes, he, hx] at hvoted

section
variable {held plain : Prop} {s t : State}

/-- The track of a slot of the surface in flight, in its snapshot and now (R50). -/
theorem State.snapshotHolds_at (hholds : s.snapshotHolds) {o : Operation} (hop : s.engine.op = some o) {n : Nat}
    (hn : slotSurface n = o.surface) :
    (∀ x, s.tracks.at n = some x → ∃ b, o.snap.tracks.at n = some b ∧ b.id = x.id ∧ b.state = x.state ∧ b.cls = x.cls) ∧
      ∀ b, o.snap.tracks.at n = some b → ∃ x, s.tracks.at n = some x ∧ b.id = x.id ∧ b.state = x.state ∧ b.cls = x.cls := by
  have hsame := congrArg (·[n - (slotSurface n).firstSlot]?) (hholds o hop).1
  rw [← hn] at hsame
  simp only [ownersOff, List.getElem?_map] at hsame
  constructor
  · intro x hx
    rw [TrackTable.at_eq_some.mp hx] at hsame
    obtain ⟨r, hr, heq⟩ := Option.map_eq_some_iff.mp hsame.symm
    obtain ⟨b, rfl, hb⟩ := Option.map_eq_some_iff.mp heq
    exact ⟨b, TrackTable.at_eq_some.mpr hr, (congrArg Track.id hb).trans rfl, (congrArg Track.state hb).trans rfl,
      (congrArg Track.cls hb).trans rfl⟩
  · intro b hb
    rw [TrackTable.at_eq_some.mp hb] at hsame
    obtain ⟨r, hr, heq⟩ := Option.map_eq_some_iff.mp hsame
    obtain ⟨x, rfl, hx⟩ := Option.map_eq_some_iff.mp heq
    exact ⟨x, TrackTable.at_eq_some.mpr hr, ((congrArg Track.id hx).trans rfl).symm,
      ((congrArg Track.state hx).trans rfl).symm, ((congrArg Track.cls hx).trans rfl).symm⟩

/-- No open track that comes up anew bears a name that a context still claims (R58). -/
def State.opensFresh (s t : State) : Prop :=
  ∀ n y, t.tracks.at n = some y → y.open_ = true → (∀ x, s.tracks.at n = some x → x.id ≠ y.id) →
    ∀ k, (⟨n, y.id⟩ : TrackRef) ∉ s.claimsOf k

theorem TrackTable.at_of_getElem? {t : TrackTable} {n : Nat} {b : Option Track}
    (h : (t.slots.get (slotSurface n))[n - (slotSurface n).firstSlot]? = some b) : t.at n = b := by
  simp [TrackTable.at, List.getD_eq_getElem?_getD, h]

theorem firstSlot_place {n : Nat} {u : Surface} (h : slotSurface n = u) : u.firstSlot + (n - u.firstSlot) = n := by
  subst h
  unfold slotSurface
  split <;> simp only [Surface.firstSlot] <;> omega

theorem mem_releasedTo_slot {now : TrackTable} {u : Surface} {sn : Snapshot} (hshaped : sn.tracks.shaped) {f : ReadyFrame}
    {k : Nat} {ref : TrackRef} (h : ref ∈ releasedTo now u (liveWork sn u f) k) : slotSurface ref.slot = u ∧
      ∃ b x y, (liveWork sn u f).before[ref.slot - u.firstSlot]? = some b ∧
        (liveWork sn u f).after[ref.slot - u.firstSlot]? = some (some y) ∧ now.at ref.slot = some x ∧
        votedPalm b (some y) = true ∧ x.id = y.id ∧ x.owner = some k ∧ ref.id = y.id := by
  obtain ⟨i, b, x, y, hb, hy, hx, hvoted, hid, howner, rfl⟩ := mem_releasedTo.mp h
  have hlt : i < 10 := by
    have hlt := (List.getElem?_eq_some_iff.mp hb).1
    rwa [show (liveWork sn u f).before = sn.tracks.slots.get u from rfl, TrackTable.shaped_get hshaped] at hlt
  rw [show u.firstSlot + i - u.firstSlot = i by omega]
  exact ⟨slotSurface_firstSlot_add u hlt, b, x, y, hb, hy, hx, hvoted, hid, howner, rfl⟩

/-- Owners and claims agree after a live completion (R50, R88). -/
theorem State.claimsAgree_liveSettled (h : s.claimsAgree) {o : Operation} (hop : s.engine.op = some o)
    (hholds : s.snapshotHolds) (hshaped : o.snap.tracks.shaped) (f : ReadyFrame)
    (hfresh : s.opensFresh ((s.setOp none).liveSettled o.surface o.snap f)) :
    ((s.setOp none).liveSettled o.surface o.snap f).claimsAgree := by
  have hreleased (k : Nat) : ((s.setOp none).liveSettled o.surface o.snap f).claimsOf k =
      (s.claimsOf k).filter fun x => !(releasedTo s.tracks o.surface (liveWork o.snap o.surface f) k).contains x :=
    (State.claimsOf_of_contexts (s := (s.setOp none).releases o.surface (liveWork o.snap o.surface f)) rfl k).trans
      (State.claimsOf_releases _ _ k)
  have hmem (k : Nat) (r : TrackRef) : r ∈ ((s.setOp none).liveSettled o.surface o.snap f).claimsOf k ↔
      r ∈ s.claimsOf k ∧ r ∉ releasedTo s.tracks o.surface (liveWork o.snap o.surface f) k := by
    rw [hreleased]
    simp
  have hpair {n : Nat} {b : Option Track} (hn : slotSurface n = o.surface)
      (hb : (liveWork o.snap o.surface f).before[n - o.surface.firstSlot]? = some b) : o.snap.tracks.at n = b := by
    rw [← hn] at hb
    exact TrackTable.at_of_getElem? hb
  rw [State.claimsAgree_iff] at h ⊢
  obtain ⟨howned, hclaimed, hapart, hnodup⟩ := h
  refine ⟨fun n y k hy hk => ?_, fun k r y hr hy hid => ?_, fun i j r hi hj => ?_, fun k => ?_⟩
  · rw [hmem]
    obtain ⟨hother, hsame⟩ | ⟨hn, b, e, hb, he, hcarries, howner⟩ := liveTable_at hy
    · obtain ⟨hstate, hcls, hin⟩ := howned n y k hsame hk
      exact ⟨hstate, hcls, hin, fun hrel => hother (mem_releasedTo_slot hshaped hrel).1⟩
    · obtain ⟨hgoes, hvoted, x, hx, hid, hxk⟩ := ownerAfter_eq_some.mp (howner.symm.trans hk)
      obtain ⟨hstate, hcls, hin⟩ := howned n x k hx hxk
      obtain ⟨bx, hbx, -, hbstate, hbcls⟩ := (State.snapshotHolds_at hholds hop hn).1 x hx
      obtain rfl : b = some bx := (hpair hn hb).symm.trans hbx
      obtain ⟨x', hx', -, -, hopen⟩ | ⟨hopened, -⟩ := liveWork_origin he
      · obtain rfl : x' = bx := Option.some.inj (Option.some.inj (hx'.symm.trans hb))
        rw [hcarries.2.1, hcarries.2.2.1, hcarries.1, ← hid]
        refine ⟨hopen (hbstate ▸ hstate), not_palm_of_goesOn hgoes hvoted (hbcls ▸ hcls), hin, fun hrel => ?_⟩
        obtain ⟨-, b', x'', y', hb', hy', -, hvoted', -⟩ := mem_releasedTo_slot hshaped hrel
        cases hb'.symm.trans hb
        cases hy'.symm.trans he
        rw [hvoted] at hvoted'
        cases hvoted'
      · rw [goesOn_of_opened _ _ hopened] at hgoes
        cases hgoes
  · obtain ⟨hin, hkept⟩ := (hmem k r).mp hr
    obtain ⟨hother, hsame⟩ | ⟨hn, b, e, hb, he, hcarries, howner⟩ := liveTable_at hy
    · exact hclaimed k r y hin hsame hid
    · have hrid : e.id = r.id := hcarries.1.symm.trans hid
      obtain ⟨bx, hbx, hbid, hgoes, -⟩ | ⟨hopened, hopen, -, htentative⟩ := liveWork_origin he
      · obtain rfl : some bx = b := Option.some.inj (hbx.symm.trans hb)
        obtain ⟨x, hx, hxid, -⟩ := (State.snapshotHolds_at hholds hop hn).2 bx (hpair hn hb)
        have hown := hclaimed k r x hin hx (hxid.symm.trans (hbid.symm.trans hrid))
        refine howner.trans (ownerAfter_eq_some.mpr ⟨hgoes, ?_, x, hx, hxid.symm.trans hbid.symm, hown⟩)
        by_contra hvoted
        rw [Bool.not_eq_false] at hvoted
        refine hkept (mem_releasedTo.mpr ⟨_, some bx, x, e, hb, he, ?_, hvoted, hxid.symm.trans hbid.symm, hown, ?_⟩)
        · rwa [firstSlot_place hn]
        · rw [firstSlot_place hn, hrid]
      · have hnew (x : Track) (hx : s.tracks.at r.slot = some x) : x.id ≠ y.id := fun hxid => by
          have hown := hclaimed k r x hin hx (hxid.trans hid)
          obtain ⟨bx, hbx, -, hbstate, -⟩ := (State.snapshotHolds_at hholds hop hn).1 x hx
          obtain rfl : b = some bx := (hpair hn hb).symm.trans hbx
          exact (howned _ x k hx hown).1 (hbstate ▸ htentative bx hb)
        have hfree := hfresh r.slot y hy (hcarries.open_.trans hopen) hnew k
        rw [hid] at hfree
        exact absurd hin hfree
  · exact hapart i j r ((hmem i r).mp hi).1 ((hmem j r).mp hj).1
  · rw [hreleased]
    exact (hnodup k).filter _

/-- Owners and claims agree after a closing's tracks have ended (R50, R62). -/
theorem State.claimsAgree_tracksClosed (h : s.claimsAgree) {o : Operation} (hop : s.engine.op = some o)
    (hholds : s.snapshotHolds) (key : Time) : (s.tracksClosed o.surface o.snap key).claimsAgree := by
  have hslot {n : Nat} {y : Track} (hy : (s.tracksClosed o.surface o.snap key).tracks.at n = some y) :
      ∃ x, s.tracks.at n = some x ∧ x.id = y.id ∧ y.cls = x.cls ∧ y.owner = x.owner ∧
        (x.state ≠ .tentative → y.state ≠ .tentative) := by
    by_cases hn : slotSurface n = o.surface
    · rw [TrackTable.at_eq_some, hn, tracksClosed_getElem?] at hy
      obtain ⟨b, hb, hy⟩ := Option.bind_eq_some_iff.mp hy
      obtain ⟨c, hc, hclosed⟩ := Option.map_eq_some_iff.mp hy
      obtain ⟨bx, rfl, -, hid, hcls, -, ⟨cause, hended⟩, howner⟩ := closedSlot_eq_some hclosed
      rw [← hn] at hb hc
      obtain ⟨x, hx, hxid, -, hxcls⟩ := (State.snapshotHolds_at hholds hop hn).2 bx (TrackTable.at_of_getElem? hb)
      obtain rfl : c = some x := (TrackTable.at_of_getElem? hc).symm.trans hx
      rw [if_pos (sameTrack_some.mpr hxid)] at howner
      refine ⟨x, hx, (hid.trans hxid).symm, hcls.trans hxcls, howner, fun _ => ?_⟩
      rw [hended]
      exact nofun
    · rw [TrackTable.at_eq_some, tracksClosed_slots_other s hn, ← TrackTable.at_eq_some] at hy
      exact ⟨y, hy, rfl, rfl, rfl, id⟩
  exact State.claimsAgree_of h (State.claimsOf_of_contexts rfl) fun n y hy => hslot hy

/-- Owners and claims agree after ABORT has wound the engine down (R63). -/
theorem State.claimsAgree_wound (h : s.claimsAgree) : s.wound.claimsAgree := by
  refine State.claimsAgree_of h (State.claimsOf_of_contexts rfl) fun n y hy => ?_
  rw [TrackTable.at_eq_some, wound_slots, List.getElem?_map] at hy
  obtain ⟨r, hr, hclosed⟩ := Option.map_eq_some_iff.mp hy
  obtain ⟨x, rfl, -, hid, hcls, -, howner, cause, hended⟩ := closeSlot_eq_some hclosed
  refine ⟨x, TrackTable.at_eq_some.mpr hr, hid.symm, hcls, howner, fun _ => ?_⟩
  rw [hended]
  exact nofun

theorem Opened.claimsAgree (hopened : Opened s t) (hlists : s.listsKept) (hids : s.idsSound) (h : s.claimsAgree)
    (hfresh : s.opensFresh t) : t.claimsAgree := by
  obtain ⟨-, hshaped, hops, -⟩ := hlists
  obtain ⟨-, -, hholds⟩ := hids
  cases hopened with
  | same => exact h
  | begun o hidle hsnap heq =>
    exact State.claimsAgree_of_same h ((congrArg Inner.contexts heq).trans rfl) ((congrArg Inner.slots heq).trans rfl)
  | dropped => exact State.claimsAgree_of_same h rfl rfl
  | live o f hop => exact State.claimsAgree_liveSettled h hop hholds (hops o hop) f hfresh
  | closed o key out hop =>
    unfold State.closeSettled
    split
    · exact State.claimsAgree_of_same (State.claimsAgree_tracksClosed h hop hholds key) rfl rfl
    · exact State.claimsAgree_of_same h rfl rfl
  | wound => exact State.claimsAgree_wound h

theorem State.claimsAgree_atReset (cause : ResetCause) (b : Bool) (q : List Instr) :
    (State.atReset cause b q).claimsAgree := by
  have hcontext (k : Nat) : (State.atReset cause b q).claimsOf k = [] := by
    have hlist : (State.atReset cause b q).gestures.contexts = List.replicate 6 none := rfl
    rw [State.claimsOf, State.context_eq, hlist, List.getElem?_replicate]
    split <;> rfl
  have hslot (n : Nat) (x : Track) : (State.atReset cause b q).tracks.at n ≠ some x := by
    intro hx
    have hslots : (State.atReset cause b q).tracks.slots.get (slotSurface n) = List.replicate 10 none := by
      cases slotSurface n <;> rfl
    rw [TrackTable.at_eq_some, hslots, List.getElem?_replicate] at hx
    split at hx <;> cases hx
  rw [State.claimsAgree_iff]
  simp only [hcontext]
  exact ⟨fun n x k hx => absurd hx (hslot n x), fun k r x hr => absurd hr List.not_mem_nil,
    fun j k r hr => absurd hr List.not_mem_nil, fun k => List.nodup_nil⟩

/-- An open track after an opening is still in its slot at the end of the step. -/
theorem State.opensFresh_of_namesFresh {a : State} (h : s.namesFresh t) (hcarries : a.tracks.carries t.tracks) :
    s.opensFresh a := by
  intro n y hy hopen hnew k hk
  obtain ⟨z, hz, hid, -⟩ := hcarries.at_open hy hopen
  obtain ⟨c, hc, hclaims⟩ := State.mem_claimsOf.mp hk
  have hfree := h n z hz (fun x hx => hid ▸ hnew x hx) k c hc
  rw [hid, hclaims] at hfree
  cases hfree

theorem Effect.claimsAgree (heffect : Effect held plain s t) (hlists : s.listsKept) (hids : s.idsSound)
    (h : s.claimsAgree) (hfresh : s.namesFresh t) : t.claimsAgree := by
  cases heffect with
  | moves a hopened hmoves =>
    have hshaped := (hopened.listsKept hlists).2.1
    exact hmoves.claimsAgree hshaped
      (hopened.claimsAgree hlists hids h (State.opensFresh_of_namesFresh hfresh (hmoves.carries hshaped)))
  | afterReset cause heq => rw [heq]; exact State.claimsAgree_atReset cause false s.pending
  | atReset cause heq => rw [heq]; exact State.claimsAgree_atReset cause true s.pending

end

/-- Settles O60. -/
theorem namesOwnersAndClaimsAgree : Obligations.NamesOwnersAndClaimsAgree := by
  refine ⟨fun s t hlists hids hstep => ?_, fun s t hlists hids hclaims hstep hfresh => ?_⟩
  · obtain ⟨rest, heffect⟩ := effect_of_step s.ready_false hstep
    exact heffect.idsSound hlists.2 hids
  · obtain ⟨rest, heffect⟩ := effect_of_step s.ready_false hstep
    exact heffect.claimsAgree hlists.2 hids hclaims hfresh

end Sys2Proof.Machine

/-! What winding down works on: `State.outer`, and the operations that leave it alone (01, 06, 11.5). -/

namespace Sys2Proof.Machine

/-- The part state, the surfaces' states, the frame engine, the pen's state and guard, the contexts and the slots. -/
structure Outer where
  part : PartState
  states : PerSurface SurfaceState
  engine : Engine
  mode : PenMode
  guard : Option Time
  contexts : List (Option Context)
  slots : PerSurface (List (Option Track))

def State.states (s : State) : PerSurface SurfaceState := ⟨s.intake.pad.state, s.intake.panel.state⟩

def State.outer (s : State) : Outer :=
  { part := s.link.part, states := s.states, engine := s.engine, mode := s.pen.mode, guard := s.pen.guard,
    contexts := s.gestures.contexts, slots := s.tracks.slots }

section
variable (s : State)

theorem State.states_get (u : Surface) : s.states.get u = (s.intake.get u).state := by cases u <;> rfl

theorem State.states_of_intake {s t : State} (h : t.intake = s.intake) : t.states = s.states := by
  simp only [State.states, h]

theorem State.onIntake_states (u : Surface) (f : Intake → Intake) :
    (s.onIntake u f).states = s.states.set u (f (s.intake.get u)).state := by cases u <;> rfl

theorem PerSurface.set_self {α : Type} (p : PerSurface α) (u : Surface) : p.set u (p.get u) = p := by cases u <;> rfl

theorem State.onIntake_outer {u : Surface} {f : Intake → Intake} (h : ∀ i, (f i).state = i.state) :
    (s.onIntake u f).outer = s.outer := by
  have hstates : (s.onIntake u f).states = s.states := by
    rw [State.onIntake_states, h, ← State.states_get, PerSurface.set_self]
  simp only [State.outer, hstates]
  rfl

/-! ## Reports -/

@[simp] theorem State.enqueue_outer (time : Time) (p : Payload) : (s.enqueue time p).outer = s.outer := rfl
@[simp] theorem State.lose_outer : s.lose.outer = s.outer := rfl

@[simp] theorem State.offerReply_outer (r : Reply) : (s.offerReply r).outer = s.outer := by
  obtain ⟨-, heq⟩ | ⟨-, heq⟩ := s.offerReply_cases r <;> rw [heq] <;> rfl

@[simp] theorem State.offerNotice_outer (n : Notice) : (s.offerNotice n).outer = s.outer := by
  obtain ⟨-, heq⟩ | ⟨-, heq⟩ := s.offerNotice_cases n <;> rw [heq] <;> rfl

@[simp] theorem State.offerPen_outer (r : PenReport) : (s.offerPen r).outer = s.outer := by
  obtain ⟨-, q, -, heq⟩ | ⟨-, heq⟩ | ⟨-, -, heq⟩ | ⟨-, -, heq⟩ := s.offerPen_cases r <;> rw [heq] <;> rfl

@[simp] theorem State.noticeRises_outer (before : State) : (State.noticeRises before s).outer = s.outer := by
  simp [State.noticeRises, apply_ite State.outer]

@[simp] theorem State.done_outer (tag c : Byte) (b : List Byte) : (s.done tag c b).outer = s.outer :=
  s.offerReply_outer _

@[simp] theorem State.refuse_outer (tag c : Byte) (r : Reason) : (s.refuse tag c r).outer = s.outer :=
  s.offerReply_outer _

@[simp] theorem State.busy_outer (tag c : Byte) : (s.busy tag c).outer = s.outer := s.offerReply_outer _

@[simp] theorem State.reportPen_outer (p : PenShown) (l r : Bool) : (s.reportPen p l r).outer = s.outer :=
  s.offerPen_outer _

@[simp] theorem State.surfaceNotice_outer (u : Surface) : (s.surfaceNotice u).outer = s.outer := s.offerNotice_outer _

/-! ## Single updates -/

@[simp] theorem State.setBase_outer (u : Surface) (b : Baseline) : (s.setBase u b).outer = s.outer := rfl
@[simp] theorem State.setLinkOut_outer (o : LinkOut) : (s.setLinkOut o).outer = s.outer := rfl
@[simp] theorem State.setStopTag_outer (t : Option Byte) : (s.setStopTag t).outer = s.outer := rfl
@[simp] theorem State.setOwed_outer (o : Owed) : (s.setOwed o).outer = s.outer := rfl
@[simp] theorem State.handPenInk_outer : s.handPenInk.outer = s.outer := rfl
@[simp] theorem State.clearAcquire_outer (u : Surface) : (s.clearAcquire u).outer = s.outer := rfl
@[simp] theorem State.dropInHand_outer : s.dropInHand.outer = s.outer := rfl
@[simp] theorem State.setWatch_outer (w : List Watch) : (s.setWatch w).outer = s.outer := rfl
@[simp] theorem State.setUnsent_outer (m : Option Motion) : (s.setUnsent m).outer = s.outer := rfl
@[simp] theorem State.handDigest_outer (d : Digest) : (s.handDigest d).outer = s.outer := rfl
@[simp] theorem State.palmCleared_outer (u : Surface) : (s.palmCleared u).outer = s.outer := rfl
@[simp] theorem State.admitWaiting_outer : s.admitWaiting.outer = s.outer := rfl
@[simp] theorem State.clearCounters_outer : s.clearCounters.outer = s.outer := rfl
@[simp] theorem State.acceptCommit_outer (tag : Byte) : (s.acceptCommit tag).outer = s.outer := rfl
@[simp] theorem State.installProgram_outer : s.installProgram.outer = s.outer := rfl

@[simp] theorem State.setReceiver_outer (u : Surface) (r : Receiver) : (s.setReceiver u r).outer = s.outer :=
  s.onIntake_outer fun _ => rfl

@[simp] theorem State.offerPointer_outer (time : Time) (m : Motion) : (s.offerPointer time m).outer = s.outer := by
  obtain ⟨q, -, heq⟩ | ⟨-, -, heq⟩ | ⟨-, -, heq⟩ := s.offerPointer_cases time m <;> rw [heq] <;> rfl

@[simp] theorem State.offerUnsent_outer : s.offerUnsent.outer = s.outer := by
  unfold State.offerUnsent
  split <;> simp

@[simp] theorem State.issueOwed_outer : s.issueOwed.outer = s.outer := by
  have hsurface (s : State) : s.issueSurface.outer = s.outer := by
    unfold State.issueSurface
    split
    · split <;> simp
    · rfl
  have hposture (s : State) : s.issuePosture.outer = s.outer := by
    unfold State.issuePosture
    split <;> simp
  have hfault (s : State) : s.issueFault.outer = s.outer := by
    unfold State.issueFault
    split <;> simp
  have hloss (s : State) : s.issueLoss.outer = s.outer := by
    unfold State.issueLoss
    split <;> simp
  rw [State.issueOwed, hloss, hfault, hposture, hsurface]

/-! ## Link and management commands -/

@[simp] theorem State.countBadWrite_outer : s.countBadWrite.outer = s.outer := by
  rw [State.countBadWrite, State.noticeRises_outer]
  rfl

@[simp] theorem State.countDroppedWrite_outer : s.countDroppedWrite.outer = s.outer := by
  rw [State.countDroppedWrite, State.noticeRises_outer]
  rfl

@[simp] theorem State.endRead_outer (n : Nat) : (s.endRead n).outer = s.outer := by
  unfold State.endRead
  split <;> rfl

@[simp] theorem State.endCommit_outer : s.endCommit.outer = s.outer := by
  unfold State.endCommit
  split
  · rfl
  · split
    · simp only [State.done_outer]
      rfl
    · rfl

@[simp] theorem State.stopDone_outer : s.stopDone.outer = s.outer := by
  unfold State.stopDone
  split <;> simp

@[simp] theorem State.switchProgram_outer : s.switchProgram.outer = s.outer := by
  unfold State.switchProgram
  split <;> simp

@[simp] theorem State.takeLoad_outer (tag kind part : Byte) (offset : Half) (entries : List Byte) :
    (s.takeLoad tag kind part offset entries).outer = s.outer := by
  unfold State.takeLoad
  split
  · simp
  · split
    · simp
    · simp only [State.done_outer]
      rfl

@[simp] theorem State.takeDiscard_outer (tag : Byte) : (s.takeDiscard tag).outer = s.outer := by
  unfold State.takeDiscard
  split
  · simp
  · simp only [State.done_outer]
    rfl

@[simp] theorem State.takeCheck_outer (tag : Byte) : (s.takeCheck tag).outer = s.outer := s.done_outer _ _ _

@[simp] theorem State.answer_outer (tag selector : Byte) (body : List Byte) :
    (s.answer tag selector body).outer = s.outer := s.done_outer _ _ _

@[simp] theorem State.takeQueryTracks_outer (tag u : Byte) : (s.takeQueryTracks tag u).outer = s.outer := by
  unfold State.takeQueryTracks
  split <;> simp

@[simp] theorem State.takeQueryBaseline_outer (tag u r : Byte) : (s.takeQueryBaseline tag u r).outer = s.outer := by
  unfold State.takeQueryBaseline
  split <;> simp [apply_ite State.outer]

@[simp] theorem State.takeQueryRange_outer (tag kind part : Byte) (first count : Half) :
    (s.takeQueryRange tag kind part first count).outer = s.outer := by
  unfold State.takeQueryRange
  split <;> simp [apply_ite State.outer]

@[simp] theorem State.takeWatch_outer (tag t st : Byte) : (s.takeWatch tag t st).outer = s.outer := by
  simp [State.takeWatch, apply_ite State.outer]

@[simp] theorem State.takeUnwatch_outer (tag t st : Byte) : (s.takeUnwatch tag t st).outer = s.outer := by
  simp [State.takeUnwatch]

@[simp] theorem State.takeClear_outer (tag : Byte) : (s.takeClear tag).outer = s.outer := by
  simp [State.takeClear]

@[simp] theorem State.takePostureBadForm_outer (tag : Byte) : (s.takePostureBadForm tag).outer = s.outer :=
  s.refuse_outer _ _ _

@[simp] theorem State.takeBadLength_outer (tag code : Byte) : (s.takeBadLength tag code).outer = s.outer := by
  obtain ⟨-, -, heq⟩ | ⟨-, heq⟩ := s.takeBadLength_cases tag code <;> simp [heq]

/-! ## Surface states and closing requests (R9 to R13) -/

/-- A surface's state replaced. -/
def Outer.enter (l : Outer) (u : Surface) (st : SurfaceState) : Outer := { l with states := l.states.set u st }

/-- The wait list replaced. -/
def Outer.waiting (l : Outer) (w : List WaitItem) : Outer := { l with engine := { l.engine with waitList := w } }

/-- A wait list with a closing request posted: the surface's ready frame is gone (R13). -/
def postedList (w : List WaitItem) (now : Time) (u : Surface) (o : ClosingOutcome) : List WaitItem :=
  let w' := w.filter fun i => !i.isFrame u
  if w'.any (·.isClosing u) then w'.map (mergeClosing u o) else w' ++ [{ key := now, surface := u, work := .closing o }]

theorem State.enterState_outer (u : Surface) (st : SurfaceState) : (s.enterState u st).outer = s.outer.enter u st := by
  have hentered (f : Intake → Intake) (h : ∀ i, (f i).state = st) : (s.onIntake u f).outer = s.outer.enter u st := by
    simp only [State.outer, State.onIntake_states, h, Outer.enter]
    rfl
  unfold State.enterState
  dsimp only
  split
  · rw [State.surfaceNotice_outer, hentered _ fun _ => rfl]
  · exact hentered _ fun _ => rfl

theorem State.enterAcquire_outer (u : Surface) (k : Bool) :
    (s.enterAcquire u k).outer = s.outer.enter u .acquire := by
  rw [State.enterAcquire, State.enterState_outer, State.onIntake_outer]
  exact fun _ => rfl

theorem State.postClosing_outer (u : Surface) (o : ClosingOutcome) :
    (s.postClosing u o).outer = s.outer.waiting (postedList s.engine.waitList s.now u o) := by
  have h := s.onIntake_outer (u := u) (f := fun i =>
    { i with ready := none, timeout := if o = .off then none else i.timeout }) fun _ => rfl
  exact congrArg (Outer.waiting · (postedList s.engine.waitList s.now u o)) h

end

end Sys2Proof.Machine

/-! Every command as shifts of the part state, the surfaces, the frame engine, the pen, the contexts and the slots
(01, 06, 07, 11.5). -/

namespace Sys2Proof.Machine

/-! ## Shifts -/

/-- The operation in flight replaced. -/
def Outer.flying (l : Outer) (o : Option Operation) : Outer := { l with engine := { l.engine with op := o } }

/-- A surface's slots replaced. -/
def Outer.slotted (l : Outer) (u : Surface) (r : List (Option Track)) : Outer := { l with slots := l.slots.set u r }

/-- The pen's state and its guard replaced. -/
def Outer.penned (l : Outer) (m : PenMode) (g : Option Time) : Outer := { l with mode := m, guard := g }

/-- The state a closing's outcome leads a surface to (R18). -/
def Outer.closedTo (l : Outer) (u : Surface) : ClosingOutcome → Outer
  | .off => l.enter u .off
  | .acquire => l.enter u .acquire
  | .none => l

/-- The values of a surface's closing: its operation is over, its outcome applied, and these are the slots (R18). -/
def Outer.closing (l : Outer) (u : Surface) (out : ClosingOutcome) (sl : PerSurface (List (Option Track))) : Outer :=
  { (l.flying none).closedTo u out with slots := sl }

/-- No track of a list of slots is open (R18). -/
def allClosed (l : List (Option Track)) : Prop := ∀ r ∈ l, ∀ x, r = some x → x.open_ = false

/-- What ABORT leaves of engine, surfaces and slots (R19, R63, R187). -/
def Outer.woundDown (l : Outer) : Outer :=
  { l with engine := ⟨[], none⟩, states := ⟨.off, .off⟩,
           slots := ⟨l.slots.pad.map closeSlot, l.slots.panel.map closeSlot⟩ }

/-- The six contexts and the ten slots of each surface are in their lists. -/
def State.listed (s : State) : Prop :=
  s.gestures.contexts.length = 6 ∧ s.tracks.shaped ∧ ∀ o, s.engine.op = some o → o.snap.tracks.shaped

/-- One shift. `full` says that the state before may be taken to be listed. -/
inductive Shift (full : Prop) (s : State) : State → Prop
  | quiet {t : State} (h : t.outer = s.outer) : Shift full s t
  | engine {t : State} (h : EngineMove False s t) : Shift full s t
  | contact (time : Time) (u : Surface) (cause : ContactCause) (hidle : ∀ o, s.engine.op = some o → o.surface ≠ u) :
      Shift full s (s.offerContact time { surface := u, cause := cause, entries := s.tracks.entries u })
  | held {t : State} (o : Operation) (hop : s.engine.op = some o)
      (h : t.outer = s.outer.flying (some { o with held := true })) : Shift full s t
  | turn {t : State} (u : Surface) (hrun : s.link.part = .run)
      (h : t.outer = (s.outer.waiting (s.engine.waitList.map (turnWaiting u))).flying
        (s.engine.op.map (turnInFlight u))) : Shift full s t
  | post {t : State} (u : Surface) (o : ClosingOutcome) (hout : o ≠ .acquire)
      (hbusy : (s.intake.get u).state ≠ .off ∨ s.closings u .acquire = true)
      (h : t.outer = s.outer.waiting (postedList s.engine.waitList s.now u o)) : Shift full s t
  | fail {t : State} (u : Surface) (hproc : s.processed u = true)
      (h : t.outer = (s.outer.enter u .failed).waiting (postedList s.engine.waitList s.now u .none)) : Shift full s t
  | acquire {t : State} (u : Surface) (hmay : s.link.part = .run ∨ (s.intake.get u).state ≠ .off)
      (h : t.outer = s.outer.enter u .acquire) : Shift full s t
  | live {t : State} (u : Surface) (hstate : (s.intake.get u).state = .acquire) (h : t.outer = s.outer.enter u .live) :
      Shift full s t
  | ready {t : State} (u : Surface) (hproc : s.processed u = true) (hopen : s.shut u = false)
      (h : t.outer = s.outer.waiting ((s.engine.waitList.filter fun w => !w.isFrame u) ++ [⟨s.now, u, .frame⟩])) :
      Shift full s t
  | begin {t : State} (w : WaitItem) (o : Operation) (hw : w ∈ s.engine.waitList) (hop : s.engine.op = none)
      (hsurface : o.surface = w.surface) (hsnap : o.snap.tracks = s.tracks)
      (hwork : (w.work = .frame ∧ ∃ f, o.work = .frame f) ∨
        ∃ out, w.work = .closing out ∧ o.work = .closing w.key out)
      (h : t.outer = (s.outer.waiting (s.engine.waitList.erase w)).flying (some o)) : Shift full s t
  | skip {t : State} (w : WaitItem) (hwork : w.work = .frame) (h : t.outer = s.outer.waiting (s.engine.waitList.erase w)) :
      Shift full s t
  | framed {t : State} (o : Operation) (f : ReadyFrame) (hop : s.engine.op = some o) (hwork : o.work = .frame f)
      (cs : List (Option Context)) (l : List (Option Track)) (hl : full → l.length = 10)
      (h : t.outer = { (s.outer.flying none).slotted o.surface l with contexts := cs }) : Shift full s t
  | closed {t : State} (o : Operation) (key : Time) (out : ClosingOutcome) (hop : s.engine.op = some o)
      (hwork : o.work = .closing key out) (sl : PerSurface (List (Option Track)))
      (hsl : full → (∀ v, (sl.get v).length = 10) ∧ (∀ v, v ≠ o.surface → sl.get v = s.tracks.slots.get v) ∧
        ((hasOpenTracks o.snap o.surface = false ∧ sl = s.tracks.slots) ∨ allClosed (sl.get o.surface)))
      (h : t.outer = s.outer.closing o.surface out sl) : Shift full s t
  | pen {t : State} (m : PenMode) (g : Option Time) (hmode : s.link.part ≠ .run → m = .out ∨ m = s.pen.mode)
      (hguard : s.guardSound → g ≠ none → m ≠ .ink ∧ m ≠ .coast .ink) (h : t.outer = s.outer.penned m g) :
      Shift full s t
  | stopping {t : State} (hrun : s.link.part = .run) (h : t.outer = { (s.outer.waiting
        (postedList (postedList s.engine.waitList s.now .pad .off) s.now .panel .off)).penned .out none with
        part := .stopping }) : Shift full s t
  | wound {t : State} (h : t.outer = s.outer.woundDown) : Shift full s t
  | hold {t : State} (hidle : full → s.idle)
      (hstill : (s.link.part = .stopping ∧ s.drained = true) ∨ ((∀ u, (s.intake.get u).state = .off) ∧
        s.engine = ⟨[], none⟩ ∧ s.pen.mode = .out)) (h : t.outer = { s.outer with part := .hold }) : Shift full s t
  | run {t : State} (hhold : s.link.part = .hold) (h : t.outer = { s.outer with part := .run }) : Shift full s t
  | reset {t : State} (cause : ResetCause) (b : Bool) (q : List Instr) (h : t.outer = (State.atReset cause b q).outer) :
      Shift full s t

abbrev Shifts (full : Prop) : State → State → Prop := Relation.ReflTransGen (Shift full)

section
variable {full : Prop} {s t : State}

theorem Shifts.of_quiet (h : t.outer = s.outer) : Shifts full s t := .single (.quiet h)

theorem Shifts.keep {P : State → Prop} (hshift : ∀ s t, Shift full s t → P s → P t) (h : Shifts full s t) (hs : P s) :
    P t := by
  induction h with
  | refl => exact hs
  | tail _ hlast ih => exact hshift _ _ hlast ih

theorem EngineMoves.shifts (h : EngineMoves False s t) : Shifts full s t :=
  Relation.ReflTransGen.mono (fun _ _ hmove => Shift.engine hmove) _ _ h

end

section
variable {full : Prop} (s : State)

/-! ## Departures -/

theorem State.catchUp_shifts (u : Surface) : Shifts full s (s.catchUp u) := by
  unfold State.catchUp
  split
  next h =>
    rw [Bool.and_eq_true, Bool.not_eq_true'] at h
    exact .single (.contact _ u _ (State.engineHas_eq_false_iff.mp h.2).2)
  · exact .refl

theorem State.departure_shifts : Shifts full s s.departure := by
  have hquiet : Shifts full s s.admitWaiting.issueOwed := .of_quiet (by simp)
  exact ((hquiet.trans (State.catchUp_shifts _ .pad)).trans (State.catchUp_shifts _ .panel)).tail
    (.quiet (State.offerUnsent_outer _))

theorem State.takeRead_shifts (extra : Nat) : Shifts full s (s.takeRead extra) := by
  unfold State.takeRead
  dsimp only
  split
  · exact .of_quiet rfl
  · refine Relation.ReflTransGen.trans ?_ (State.departure_shifts _)
    exact Shifts.of_quiet rfl

/-! ## Scan intake -/

theorem State.failSurface_shifts (u : Surface) (h : s.processed u = true) : Shifts full s (s.failSurface u) := by
  refine .single (.fail u h ?_)
  rw [State.failSurface, State.postClosing_outer, State.enterState_outer, State.enterState_engine, State.enterState_now]

theorem State.processed_of_outer {s t : State} (h : t.outer = s.outer) (u : Surface) : t.processed u = s.processed u := by
  have hstates : t.states = s.states := congrArg Outer.states h
  simp only [State.processed, ← State.states_get, hstates]

theorem State.shut_of_outer {s t : State} (h : t.outer = s.outer) (u : Surface) : t.shut u = s.shut u := by
  have hstates : t.states = s.states := congrArg Outer.states h
  have hengine : t.engine = s.engine := congrArg Outer.engine h
  simp only [State.shut, ← State.states_get, hstates, hengine]

theorem State.discardFrame_shifts (u : Surface) : Shifts full s (s.discardFrame u) := by
  have hrecv := s.setReceiver_outer u (Receiver.idle .discarding)
  have hcount : ((s.setReceiver u (Receiver.idle .discarding)).onIntake u Intake.countDiscard).outer = s.outer :=
    (State.onIntake_outer _ (f := Intake.countDiscard) fun _ => rfl).trans hrecv
  unfold State.discardFrame
  dsimp only
  split
  · exact .of_quiet hrecv
  · split
    next h =>
      rw [Bool.and_eq_true] at h
      exact .head (.quiet hcount) (State.failSurface_shifts _ u h.1)
    · exact .of_quiet hcount

theorem State.takeFrameStart_shifts (u : Surface) (frame : Half) (columns rows : Byte) :
    Shifts full s (s.takeFrameStart u frame columns rows) := by
  have hexamine (t : State) : Shifts full t (t.examineStart u frame columns rows) := by
    unfold State.examineStart
    split
    · exact .of_quiet (t.setReceiver_outer u _)
    · exact t.discardFrame_shifts u
  unfold State.takeFrameStart
  dsimp only
  split
  · exact (s.discardFrame_shifts u).trans (hexamine _)
  · exact hexamine s

theorem State.takeRowRecord_shifts (u : Surface) (body : List Byte) : Shifts full s (s.takeRowRecord u body) := by
  unfold State.takeRowRecord
  dsimp only
  split
  · split
    · exact .of_quiet (s.setReceiver_outer u _)
    · exact s.discardFrame_shifts u
  · exact .refl

theorem State.makeReady_shifts (u : Surface) (frame : Half) (samples : List (List Nat)) (hproc : s.processed u = true)
    (hopen : s.shut u = false) : Shifts full s (s.makeReady u frame samples) := by
  have houter := s.onIntake_outer (u := u) (f := fun i =>
    { i with ready := some { frame := frame, time := s.now, samples := samples }
             overruns := if i.ready.isSome then countUp i.overruns else i.overruns }) fun _ => rfl
  exact .single (.ready u hproc hopen (congrArg (Outer.waiting · _) houter))

theorem State.shut_enterAcquire (u : Surface) (k : Bool) (h : s.shut u = false) : (s.enterAcquire u k).shut u = false := by
  have houter := s.enterAcquire_outer u k
  have hstates : (s.enterAcquire u k).states = s.states.set u .acquire := congrArg Outer.states houter
  have hengine : (s.enterAcquire u k).engine = s.engine := congrArg Outer.engine houter
  simp only [State.shut, ← State.states_get, hstates, hengine, PerSurface.get_set_same] at h ⊢
  simp_all

theorem State.disposeFrame_shifts (u : Surface) (frame : Half) (samples : List (List Nat)) :
    Shifts full s (s.disposeFrame u frame samples) := by
  unfold State.disposeFrame
  split
  · exact .refl
  next hopen =>
    rw [Bool.not_eq_true] at hopen
    have hnotoff : (s.intake.get u).state ≠ .off := fun hoff => by simp [State.shut, hoff] at hopen
    split
    next hfailed =>
      have hentered := s.enterAcquire_outer u false
      have hstate : ((s.enterAcquire u false).intake.get u).state = .acquire := by
        rw [← State.states_get, show (s.enterAcquire u false).states = s.states.set u .acquire from
          congrArg Outer.states hentered, PerSurface.get_set_same]
      exact .head (.acquire u (.inr hnotoff) hentered)
        (State.makeReady_shifts _ u frame samples (by simp [State.processed, hstate]) (s.shut_enterAcquire u false hopen))
    next hnotfailed =>
      have houter := s.onIntake_outer (u := u) (f := fun i => { i with errorRun := 0, timeout := s.timeoutFromNow })
        fun _ => rfl
      refine .head (.quiet houter) (State.makeReady_shifts _ u frame samples ?_ ?_)
      · rw [State.processed_of_outer houter]
        cases hstate : (s.intake.get u).state <;> simp_all [State.processed]
      · rw [State.shut_of_outer houter, hopen]

theorem State.takeFrameEnd_shifts (u : Surface) (frame check : Half) : Shifts full s (s.takeFrameEnd u frame check) := by
  unfold State.takeFrameEnd
  dsimp only
  split
  · split
    · exact .head (.quiet (s.setReceiver_outer u _)) (State.disposeFrame_shifts _ u frame _)
    · exact s.discardFrame_shifts u
  · exact .refl

/-! ## The pen -/

theorem State.penned_outer (p : PenTracker) :
    State.outer { s with pen := p } = s.outer.penned p.mode p.guard := rfl

theorem State.penForcedExit_outer : s.penForcedExit.outer = s.outer.penned .out none := by
  unfold State.penForcedExit
  dsimp only
  split
  · rfl
  · rw [State.reportPen_outer]
    rfl

theorem State.penForcedExit_shifts : Shifts full s s.penForcedExit :=
  .single (.pen .out none (fun _ => .inl rfl) (fun _ h => absurd rfl h) s.penForcedExit_outer)

theorem State.takeValid_shifts (hrun : s.link.part = .run) (held : PenHeld) (tipDown : Bool) :
    Shifts full s (s.takeValid held tipDown) := by
  unfold State.takeValid
  dsimp only
  split
  · refine .single (.pen .ink none (fun h => absurd hrun h) (fun _ h => absurd rfl h) ?_)
    unfold State.penInk
    dsimp only
    split <;> simp only [State.handPenInk_outer, State.reportPen_outer] <;> rfl
  · refine .single (.pen .hover (if s.pen.mode.fromInk then s.guardFromNow else s.pen.guard) (fun h => absurd hrun h)
      (fun _ _ => ⟨nofun, nofun⟩) ?_)
    rw [State.penHover, State.reportPen_outer]
    rfl

theorem State.takeInvalid_shifts (hrun : s.link.part = .run) : Shifts full s s.takeInvalid := by
  have hpen {t : State} (m : PenMode) (g : Option Time)
      (hguard : s.guardSound → g ≠ none → m ≠ .ink ∧ m ≠ .coast .ink) (h : t.outer = s.outer.penned m g) :
      Shifts full s t := .single (.pen m g (fun hpart => absurd hrun hpart) hguard h)
  cases hmode : s.pen.mode with
  | out =>
    simp only [State.takeInvalid, hmode]
    exact .refl
  | hover =>
    simp only [State.takeInvalid, hmode]
    exact hpen (.coast .hover) s.pen.guard (fun _ _ => ⟨nofun, nofun⟩) rfl
  | ink =>
    simp only [State.takeInvalid, hmode]
    exact hpen (.coast .ink) s.pen.guard (fun hsound hguard => absurd hmode (hsound hguard).1) rfl
  | coast origin =>
    simp only [State.takeInvalid, hmode, State.coastOn]
    split
    · exact hpen .out _ (fun _ _ => ⟨nofun, nofun⟩) (State.reportPen_outer _ _ _ _)
    · refine .of_quiet ?_
      simp only [State.outer, hmode]
      rfl

/-! ## Postures and tables -/

theorem State.enableSurface_shifts (u : Surface) : Shifts full s (s.enableSurface u) := by
  unfold State.enableSurface
  split
  next hrun =>
    split
    · exact .single (.turn u hrun rfl)
    · split
      · exact .single (.acquire u (.inl hrun) (s.enterAcquire_outer u false))
      · exact .refl
  · exact .refl

theorem State.disableSurface_shifts (u : Surface) : Shifts full s (s.disableSurface u) := by
  unfold State.disableSurface
  split
  · exact .refl
  next h =>
    refine .single (.post u .off nofun ?_ (s.postClosing_outer u .off))
    by_cases hoff : (s.intake.get u).state = .off
    · exact .inr (by simpa using fun hno => h ⟨hoff, hno⟩)
    · exact .inl hoff

theorem State.applySurface_shifts (e : PostureEntry) (u : Surface) : Shifts full s (s.applySurface e u) := by
  unfold State.applySurface
  split
  · exact s.enableSurface_shifts u
  · exact s.disableSurface_shifts u

theorem State.applyEntry_shifts : Shifts full s s.applyEntry := by
  have hsurfaces := (s.applySurface_shifts (full := full) s.entry .pad).trans (State.applySurface_shifts _ s.entry .panel)
  unfold State.applyEntry
  dsimp only
  split
  · exact hsurfaces
  · exact hsurfaces.trans (State.penForcedExit_shifts _)

theorem State.setPosture_shifts (tag : Byte) (p : Posture) : Shifts full s (s.setPosture tag p) := by
  unfold State.setPosture
  split
  · exact .of_quiet (s.done_outer _ _ _)
  · have hchange : Shifts full s (s.changePosture p) :=
      .head (.quiet (State.offerNotice_outer { s with posture := p } _)) (State.applyEntry_shifts _)
    refine hchange.trans (Shifts.of_quiet ?_)
    rw [State.postureDone, State.done_outer, State.noticeRises_outer]

theorem State.takePostureCode_shifts (tag : Byte) (value : Half) : Shifts full s (s.takePostureCode tag value) := by
  unfold State.takePostureCode
  split
  · exact s.setPosture_shifts tag _
  · exact .of_quiet (s.refuse_outer _ _ _)

theorem State.takePostureAngle_shifts (tag : Byte) (value : Half) : Shifts full s (s.takePostureAngle tag value) :=
  .head (.quiet (t := { s with angle := min value.toNat 360 }) rfl)
    (State.setPosture_shifts _ tag (s.postureFor (min value.toNat 360)))

theorem State.switchFrameSide_shifts : Shifts full s s.switchFrameSide := by
  unfold State.switchFrameSide
  split
  · exact .refl
  · split
    · exact .refl
    · dsimp only
      split
      · refine Relation.ReflTransGen.trans ?_ (State.applyEntry_shifts _)
        exact Shifts.of_quiet rfl
      · exact .of_quiet rfl

theorem State.switchAtCommit_shifts : Shifts full s s.switchAtCommit := by
  unfold State.switchAtCommit
  split
  · exact (s.switchFrameSide_shifts).tail (.quiet (State.switchProgram_outer _))
  · dsimp only
    split
    · exact (s.switchFrameSide_shifts).tail (.quiet rfl)
    · exact .of_quiet rfl

theorem State.takeCommit_shifts (tag : Byte) : Shifts full s (s.takeCommit tag) := by
  unfold State.takeCommit
  split
  · exact .of_quiet (s.busy_outer _ _)
  · split
    · exact .of_quiet (s.done_outer _ _ _)
    · split
      · exact .of_quiet (s.offerReply_outer _)
      · exact (Relation.ReflTransGen.head (.quiet (s.acceptCommit_outer tag)) (State.switchAtCommit_shifts _)).trans
          (Shifts.of_quiet (by rw [State.endCommit_outer, State.noticeRises_outer]))

theorem State.switchAtHold_shifts : Shifts full s s.switchAtHold :=
  s.switchFrameSide_shifts.tail (.quiet (State.switchProgram_outer _))

end

end Sys2Proof.Machine

/-! The completions, RUN, STOP and ABORT as shifts, and every command (01, 07, 11.5). -/

namespace Sys2Proof.Machine

section
variable {full : Prop} (s : State)

/-! ## The frame engine -/

theorem nextItem_mem {part : PartState} {l : List WaitItem} {w : WaitItem} (h : nextItem part l = some w) : w ∈ l := by
  simp only [nextItem] at h
  split at h
  next hpad hpanel =>
    split at h <;> cases h
    · exact List.mem_of_find?_eq_some hpanel
    · exact List.mem_of_find?_eq_some hpad
  next hpad _ => exact List.mem_of_find?_eq_some (hpad.trans h)
  next _ hpanel => exact List.mem_of_find?_eq_some (hpanel.trans h)
  next => cases h

theorem State.takeItem_shifts (hop : s.engine.op = none) {w : WaitItem} (hw : w ∈ s.engine.waitList) :
    Shifts full s (s.takeItem w) := by
  unfold State.takeItem
  dsimp only
  split
  next out hwork => exact .single (.begin w _ hw hop rfl rfl (.inr ⟨out, hwork, rfl⟩) rfl)
  next hwork =>
    split
    · exact .single (.skip w hwork rfl)
    next f _ =>
      have houter := (s.setWaitList (s.engine.waitList.erase w)).onIntake_outer (u := w.surface)
        (f := fun i => { i with ready := none, taken := countUp i.taken }) fun _ => rfl
      exact .single (.begin w ⟨w.surface, .frame f, _, false⟩ hw hop rfl rfl (.inl ⟨hwork, f, rfl⟩)
        (congrArg (Outer.flying · _) houter))

theorem State.recapture_shifts (u : Surface) (h : (s.intake.get u).state ≠ .off) : Shifts full s (s.recapture u) := by
  have hentered := s.enterAcquire_outer u true
  refine .head (.acquire u (.inr h) hentered) (.single (.post u .none nofun (.inl ?_) (State.postClosing_outer _ u .none)))
  rw [← State.states_get, show (s.enterAcquire u true).states = s.states.set u .acquire from
    congrArg Outer.states hentered, PerSurface.get_set_same]
  exact nofun

theorem State.completeAcquire_shifts (u : Surface) (sn : Snapshot) (f : ReadyFrame) :
    Shifts full s (s.completeAcquire u sn f) := by
  unfold State.completeAcquire
  dsimp only
  split
  next h => exact .single (.live u h.2.1 (State.enterState_outer _ u .live))
  · exact .of_quiet rfl

theorem State.releases_outer (u : Surface) (r : LiveResult) :
    (s.releases u r).outer = { s.outer with contexts := (s.releases u r).gestures.contexts } := by
  refine foldl_invariant (fun x : State => x.outer = { s.outer with contexts := x.gestures.contexts }) _
    (fun x c hx => ?_) _ _ rfl
  have hsame : (x.forceRelease c.1 c.2.1 c.2.2).outer =
      { x.outer with contexts := (x.forceRelease c.1 c.2.1 c.2.2).gestures.contexts } := by
    unfold State.forceRelease
    split
    · simp only [State.outer, State.states, State.dropClaim_link, State.dropClaim_intake, State.dropClaim_engine,
        State.dropClaim_pen, State.dropClaim_tracks]
    · rfl
  rw [hsame, hx]

theorem State.liveSettled_outer (u : Surface) (sn : Snapshot) (f : ReadyFrame) :
    (s.liveSettled u sn f).outer = { s.outer.slotted u ((liveTable s.tracks u sn (liveWork sn u f)).slots.get u) with
      contexts := (s.liveSettled u sn f).gestures.contexts } := by
  have hreleased := s.releases_outer u (liveWork sn u f)
  have hslots : (liveTable s.tracks u sn (liveWork sn u f)).slots =
      s.tracks.slots.set u ((liveTable s.tracks u sn (liveWork sn u f)).slots.get u) := by
    rw [liveTable_slots]
    rfl
  have hpart : (s.liveSettled u sn f).link.part = s.link.part := congrArg Outer.part hreleased
  have hstates : (s.liveSettled u sn f).states = s.states := congrArg Outer.states hreleased
  have hmode : (s.liveSettled u sn f).pen.mode = s.pen.mode := congrArg Outer.mode hreleased
  have hguard : (s.liveSettled u sn f).pen.guard = s.pen.guard := congrArg Outer.guard hreleased
  simp only [State.outer, hpart, hstates, hmode, hguard, State.liveSettled_engine, State.liveSettled_tracks, Outer.slotted]
  rw [← hslots]

theorem State.completeLive_shifts (hfull : full → s.listed) {o : Operation} (hop : s.engine.op = some o) {f : ReadyFrame} (hwork : o.work = .frame f) :
    Shifts full s ((s.setOp none).completeLive o.surface o.snap f) := by
  have hsettled : Shifts full s ((s.setOp none).liveSettled o.surface o.snap f) :=
    .single (.framed o f hop hwork _ _
      (fun h => liveTable_length (f := f) (now := s.tracks) ((hfull h).2.2 o hop) (hfull h).2.1)
      ((s.setOp none).liveSettled_outer o.surface o.snap f))
  have hreport : Shifts full s (((s.setOp none).liveSettled o.surface o.snap f).liveReport o.surface o.snap f) := by
    unfold State.liveReport
    dsimp only
    split
    · exact hsettled.tail (.contact _ _ _ (by simp))
    · exact hsettled
  rw [State.completeLive_eq]
  dsimp only
  split
  next h =>
    simp only [Bool.and_eq_true, beq_iff_eq] at h
    exact hreport.trans (State.recapture_shifts _ _ (by rw [h.1.2]; exact nofun))
  · exact hreport

theorem State.applyOutcome_outer (u : Surface) (out : ClosingOutcome) :
    (s.applyOutcome u out).outer = s.outer.closedTo u out := by
  cases out with
  | off => exact s.enterState_outer u .off
  | acquire => exact s.enterAcquire_outer u false
  | none => rfl

theorem allClosed_announced {l : List (Option Track)} (h : allClosed l) : allClosed (l.map announcedSlot) := by
  intro r hr y hy
  obtain ⟨r', hr', heq⟩ := List.mem_map.mp hr
  obtain ⟨x, hx, hcarries⟩ := (slotCarries_announced r').1 y (heq.trans hy)
  rw [hcarries.open_]
  exact h r' hr' x hx

theorem tracksClosed_allClosed (u : Surface) (sn : Snapshot) (key : Time) :
    allClosed ((s.tracksClosed u sn key).tracks.slots.get u) := by
  rw [tracksClosed_slots]
  intro r hr y hy
  obtain ⟨⟨b, c⟩, -, heq⟩ := List.mem_map.mp hr
  obtain ⟨x, -, -, -, -, -, ⟨cause, hended⟩, -⟩ := closedSlot_eq_some (heq.trans hy)
  exact Track.open_eq_false hended

/-- The slots as a closing's tracks have ended and been reported (R60, R62). -/
theorem State.closeTracks_slots (hs : s.tracks.shaped) {sn : Snapshot} (hsn : sn.tracks.shaped) (u : Surface) (key : Time) :
    (∀ v, v ≠ u → (s.closeTracks u sn key).tracks.slots.get v = s.tracks.slots.get v) ∧
      allClosed ((s.closeTracks u sn key).tracks.slots.get u) := by
  have hclosed := tracksClosed_allClosed s u sn key
  have hother (v : Surface) (hv : v ≠ u) := tracksClosed_slots_other (sn := sn) s hv key
  have hshaped : (s.tracksClosed u sn key).tracks.shaped := tracksClosed_shaped hsn hs
  rw [State.closeTracks_eq]
  dsimp only
  split
  · obtain ⟨-, heq⟩ | ⟨-, heq⟩ := State.offerContact_built hshaped key u .closing <;> rw [heq]
    · refine ⟨fun v hv => (PerSurface.get_set_other _ _ _ _ hv).trans (hother v hv), ?_⟩
      rw [PerSurface.get_set_same]
      exact allClosed_announced hclosed
    · exact ⟨hother, hclosed⟩
  · exact ⟨hother, hclosed⟩

theorem State.closeTracks_shaped (hs : s.tracks.shaped) {sn : Snapshot} (hsn : sn.tracks.shaped) (u : Surface) (key : Time) :
    (s.closeTracks u sn key).tracks.shaped := by
  have hshaped : (s.tracksClosed u sn key).tracks.shaped := tracksClosed_shaped hsn hs
  rw [State.closeTracks_eq]
  dsimp only
  split
  · exact (State.carries_offerContact hshaped key u .closing).shaped hshaped
  · exact hshaped

theorem State.closeTracks_outer (u : Surface) (sn : Snapshot) (key : Time) :
    (s.closeTracks u sn key).outer = { s.outer with slots := (s.closeTracks u sn key).tracks.slots } := by
  rw [State.closeTracks_eq]
  dsimp only
  split
  · obtain ⟨-, heq⟩ | ⟨-, heq⟩ := State.offerContact_cases (s.tracksClosed u sn key) key
      { surface := u, cause := .closing, entries := (s.tracksClosed u sn key).tracks.entries u } <;> rw [heq] <;> rfl
  · rfl

theorem State.completeClosing_shifts (hfull : full → s.listed) {o : Operation} (hop : s.engine.op = some o) {key : Time}
    {out : ClosingOutcome} (hwork : o.work = .closing key out) :
    Shifts full s ((s.setOp none).completeClosing o.surface o.snap key out) := by
  generalize hs1 : (if hasOpenTracks o.snap o.surface then (s.setOp none).closeTracks o.surface o.snap key
    else s.setOp none) = s1
  have houter : s1.outer = { s.outer.flying none with slots := s1.tracks.slots } := by
    rw [← hs1]
    split
    · exact (s.setOp none).closeTracks_outer _ _ _
    · rfl
  have hend : ((s.setOp none).completeClosing o.surface o.snap key out).outer =
      s.outer.closing o.surface out s1.tracks.slots := by
    unfold State.completeClosing
    dsimp only
    rw [hs1, State.applyOutcome_outer, State.clearAcquire_outer, show State.outer { s1 with palm := s1.palm.filter fun e => e.surface != o.surface } = s1.outer from rfl, houter]
    cases out <;> rfl
  refine .single (.closed o key out hop hwork s1.tracks.slots (fun h => ?_) hend)
  obtain ⟨-, hshaped, hops⟩ := hfull h
  rw [← hs1]
  split
  · obtain ⟨hother, hclosed⟩ := State.closeTracks_slots (s.setOp none) hshaped (hops o hop) o.surface key
    exact ⟨TrackTable.shaped_get (State.closeTracks_shaped (s.setOp none) hshaped (hops o hop) o.surface key), hother,
      .inr hclosed⟩
  next hnone => exact ⟨TrackTable.shaped_get hshaped, fun _ _ => rfl, .inl ⟨by simpa using hnone, rfl⟩⟩

theorem State.applyOperation_shifts (hfull : full → s.listed) {o : Operation} (hop : s.engine.op = some o) :
    Shifts full s ((s.setOp none).applyOperation o) := by
  have hdropped {f : ReadyFrame} (hwork : o.work = .frame f) : Shifts full s (s.setOp none) :=
    .single (.framed o f hop hwork s.gestures.contexts (s.tracks.slots.get o.surface)
      (fun h => TrackTable.shaped_get (hfull h).2.1 _) (by
      simp only [Outer.slotted, Outer.flying, State.outer, PerSurface.set_self]
      rfl))
  unfold State.applyOperation
  split
  next key out hwork => exact s.completeClosing_shifts hfull hop hwork
  next f hwork =>
    split
    · exact (hdropped hwork).trans (State.completeAcquire_shifts _ _ _ _)
    · exact s.completeLive_shifts hfull hop hwork
    · exact hdropped hwork
    · exact hdropped hwork

theorem State.completeOperation_shifts (hfull : full → s.listed) {o : Operation} (hop : s.engine.op = some o) :
    Shifts full s (s.completeOperation o) := by
  have happlied := s.applyOperation_shifts hfull hop
  have hpen : Shifts full s (((s.setOp none).applyOperation o).outcomePen o) := by
    unfold State.outcomePen
    split
    · exact happlied.trans (State.penForcedExit_shifts _)
    · exact happlied
  exact (hpen.trans (State.switchFrameSide_shifts _)).trans
    (Shifts.of_quiet (by rw [State.completeOperation, State.endCommit_outer, State.noticeRises_outer]))

/-! ## RUN, STOP and ABORT -/

theorem State.takeRun_shifts (tag : Byte) :
    Shifts full s (s.takeRun tag) := by
  have hsurface (t : State) (u : Surface) (ht : t.link.part = .run) :
      Shifts full t (t.runSurface u) ∧ (t.runSurface u).link.part = .run := by
    unfold State.runSurface
    split
    · have hentered := t.enterAcquire_outer u false
      exact ⟨.single (.acquire u (.inl ht) hentered), (congrArg Outer.part hentered).trans ht⟩
    · exact ⟨.refl, ht⟩
  unfold State.takeRun
  split
  next hpart =>
    obtain ⟨hpad, hrun⟩ := hsurface (s.setPart .run) .pad rfl
    obtain ⟨hpanel, -⟩ := hsurface _ .panel hrun
    have hentered : Shifts full s (s.setPart .run) := .single (.run hpart rfl)
    refine ((hentered.trans hpad).trans hpanel).trans (Shifts.of_quiet ?_)
    rw [State.done_outer, State.noticeRises_outer]
  · exact .of_quiet (s.done_outer _ _ _)
  · exact .of_quiet (s.busy_outer _ _)

theorem State.takeStop_shifts (tag : Byte) : Shifts full s (s.takeStop tag) := by
  unfold State.takeStop
  split
  · exact .of_quiet (s.done_outer _ _ _)
  next hrun =>
    refine .single (.stopping hrun ?_)
    have hpad := ((s.setPart .stopping).setStopTag (some tag)).postClosing_outer .pad .off
    have hpanel := (((s.setPart .stopping).setStopTag (some tag)).postClosing .pad .off).postClosing_outer .panel .off
    rw [State.postClosing_now, show (State.postClosing _ .pad .off).engine.waitList = _ from
      congrArg (fun l : Outer => l.engine.waitList) hpad, hpad] at hpanel
    rw [State.noticeRises_outer, State.beginStop, State.penForcedExit_outer, hpanel]
    rfl
  · exact .of_quiet (s.busy_outer _ _)

theorem State.dropIfInHand_keeps : (if s.gestures.inHand then s.dropInHand else s).states = s.states ∧
    (if s.gestures.inHand then s.dropInHand else s).engine = s.engine ∧
    (if s.gestures.inHand then s.dropInHand else s).pen = s.pen ∧
    (if s.gestures.inHand then s.dropInHand else s).link.part = s.link.part := by
  split <;> exact ⟨rfl, rfl, rfl, rfl⟩

/-- A cancellation changes neither the surfaces, the frame engine, the pen nor the part state (R141). -/
theorem State.generalCancel_keeps : s.generalCancel.states = s.states ∧ s.generalCancel.engine = s.engine ∧
    s.generalCancel.pen = s.pen ∧ s.generalCancel.link.part = s.link.part := by
  obtain ⟨-, -, -, -, hintake, -, hengine, -, -, -, -, -, hpen, -, -, -, -, -, hpart, -⟩ :=
    (s.cancelContexts_moves (held := False) False.elim).keeps
  obtain ⟨hstates', hengine', hpen', hpart'⟩ := s.cancelContexts.dropIfInHand_keeps
  exact ⟨hstates'.trans (State.states_of_intake hintake), hengine'.trans hengine, hpen'.trans hpen, hpart'.trans hpart⟩

theorem State.dropIfInHand_outer : (if s.gestures.inHand then s.dropInHand else s).outer = s.outer := by
  split
  · exact s.dropInHand_outer
  · rfl

theorem State.generalCancel_shifts : Shifts full s s.generalCancel :=
  (s.cancelContexts_moves (held := False) False.elim).shifts.tail (.quiet s.cancelContexts.dropIfInHand_outer)

theorem State.completeStop_shifts (hfull : full → s.listed) (hpart : s.link.part = .stopping) (hdrained : s.drained = true) :
    Shifts full s s.completeStop := by
  obtain ⟨-, hengine, -, hkept⟩ := s.generalCancel_keeps
  have hheld : Shifts full s (s.generalCancel.setPart .hold) := by
    refine s.generalCancel_shifts.tail (.hold (fun h => s.idle_generalCancel (hfull h).1) (.inl ⟨hkept.trans hpart, ?_⟩) rfl)
    simpa only [State.drained, State.closingWaits, hengine] using hdrained
  refine (hheld.trans (State.switchAtHold_shifts _)).trans (Shifts.of_quiet ?_)
  rw [State.completeStop, State.stopDone_outer, State.endCommit_outer, State.noticeRises_outer]

theorem State.windDown_outer : s.windDown.outer = s.outer.woundDown := by
  rw [State.windDown, State.enterState_outer, State.enterState_outer]
  rfl

theorem State.abortReport_shifts (u : Surface) (hop : s.engine.op = none) : Shifts full s (s.abortReport u) := by
  unfold State.abortReport
  split
  · exact .single (.contact _ u _ (by simp [hop]))
  · exact .refl

theorem State.abortReport_outer (u : Surface) :
    (s.abortReport u).outer = { s.outer with slots := (s.abortReport u).tracks.slots } := by
  unfold State.abortReport
  split
  · obtain ⟨-, heq⟩ | ⟨-, heq⟩ := s.offerContact_cases s.now ⟨u, .abort, s.tracks.entries u⟩ <;>
      rw [State.reportContacts, heq] <;> rfl
  · rfl

theorem State.windUp_shifts (hfull : full → s.gestures.contexts.length = 6) (hengine : s.engine = ⟨[], none⟩)
    (hoff : ∀ u, s.states.get u = .off) : Shifts full s s.windUp := by
  have hpad := s.abortReport_outer .pad
  have hpanel := (s.abortReport .pad).abortReport_outer .panel
  have hpen := ((s.abortReport .pad).abortReport .panel).penForcedExit_outer
  have hreports : Shifts full s ((s.abortReport .pad).abortReport .panel).penForcedExit :=
    ((s.abortReport_shifts .pad (congrArg Engine.op hengine)).trans (State.abortReport_shifts _ .panel (by simp [hengine]))).trans
      (State.penForcedExit_shifts _)
  rw [hpanel, hpad] at hpen
  have hwindup : s.windUp = ((s.abortReport .pad).abortReport .panel).penForcedExit.generalCancel.setPart .hold := rfl
  rw [hwindup]
  generalize ((s.abortReport .pad).abortReport .panel).penForcedExit = t at hpen hreports
  have hstates : t.states = s.states := congrArg Outer.states hpen
  have hkept : t.engine = s.engine := congrArg Outer.engine hpen
  have hmode : t.pen.mode = .out := congrArg Outer.mode hpen
  have hcontexts : t.gestures.contexts = s.gestures.contexts := congrArg Outer.contexts hpen
  obtain ⟨hstates', hengine', hpen', -⟩ := t.generalCancel_keeps
  refine (hreports.trans t.generalCancel_shifts).tail (.hold (fun h => t.idle_generalCancel (hcontexts ▸ hfull h))
    (.inr ⟨fun u => ?_, (hengine'.trans hkept).trans hengine, (congrArg PenTracker.mode hpen').trans hmode⟩) rfl)
  rw [← State.states_get, hstates', hstates, hoff]

theorem State.abortAll_shifts (hfull : full → s.listed) : Shifts full s s.abortAll := by
  have hwound : Shifts full s s.windDown := .single (.wound s.windDown_outer)
  have hup := s.windDown.windUp_shifts (full := full) (fun h => by simpa using (hfull h).1)
    (congrArg Outer.engine s.windDown_outer) fun u => by
      rw [show s.windDown.states = ⟨.off, .off⟩ from congrArg Outer.states s.windDown_outer]
      cases u <;> rfl
  refine ((hwound.trans hup).trans (State.switchAtHold_shifts _)).trans (Shifts.of_quiet ?_)
  rw [State.abortAll, State.endCommit_outer, State.noticeRises_outer]

theorem State.takeAbort_shifts (hfull : full → s.listed) (tag : Byte) : Shifts full s (s.takeAbort tag) := by
  have hdone : Shifts full s (s.abortAll.stopDone.done tag 0x07 []) :=
    (s.abortAll_shifts hfull).trans (Shifts.of_quiet (by rw [State.done_outer, State.stopDone_outer]))
  unfold State.takeAbort
  split
  · exact .of_quiet (s.done_outer _ _ _)
  · exact hdone
  · exact hdone

theorem State.takeRecal_shifts (tag u : Byte) : Shifts full s (s.takeRecal tag u) := by
  unfold State.takeRecal
  split
  · exact .of_quiet (s.refuse_outer _ _ _)
  next v _ =>
    split
    next hlive =>
      split
      · exact .of_quiet (s.done_outer _ _ _)
      · refine (s.recapture_shifts v (by rw [hlive]; exact nofun)).trans (Shifts.of_quiet ?_)
        rw [State.done_outer, State.noticeRises_outer]
    · exact .of_quiet (s.done_outer _ _ _)
    · exact .of_quiet (s.refuse_outer _ _ _)
    · exact .of_quiet (s.refuse_outer _ _ _)

/-! ## Every command -/

theorem State.runMgmt_shifts (hfull : full → s.listed) (m : Mgmt) : Shifts full s (s.runMgmt m) := by
  cases m with
  | abort tag => exact s.takeAbort_shifts hfull tag
  | reset tag => exact .single (.reset .command false s.pending rfl)
  | commit tag => exact s.takeCommit_shifts tag
  | postureCode tag v => exact s.takePostureCode_shifts tag v
  | postureAngle tag v => exact s.takePostureAngle_shifts tag v
  | run tag => exact s.takeRun_shifts tag
  | stop tag => exact s.takeStop_shifts tag
  | recal tag u => exact s.takeRecal_shifts tag u
  | _ => exact .of_quiet (by simp [State.runMgmt])

theorem State.takeRecord_shifts (hfull : full → s.listed) (record : List Byte) : Shifts full s (s.takeRecord record) := by
  unfold State.takeRecord
  split
  · exact s.runMgmt_shifts hfull _
  · exact .refl

theorem State.unlessHeld_shifts {f : State → State} (h : Shifts full s (f s)) : Shifts full s (s.unlessHeld f) := by
  obtain ⟨-, heq⟩ | ⟨-, heq⟩ := s.unlessHeld_cases f <;> rw [heq]
  exact h

theorem State.takeWrite_shifts (hfull : full → s.listed) {f : State → State}
    (h : ∀ r : State, (full → r.listed) → Shifts full r (f r)) : Shifts full s (s.takeWrite f) := by
  have hsent : Shifts full s (s.setLinkOut .zeros) := .of_quiet (s.setLinkOut_outer .zeros)
  unfold State.takeWrite State.inWrite
  refine s.unlessHeld_shifts (hsent.trans ?_)
  dsimp only
  split
  · exact h _ hfull
  · exact Shifts.of_quiet (State.countDroppedWrite_outer _)

theorem Shifts.noticed {s t before : State} (h : Shifts full s t) : Shifts full s (State.noticeRises before t) :=
  h.tail (.quiet (t.noticeRises_outer before))

theorem exec_shifts (hfull : full → s.listed) (i : Instr) : ∃ t, exec i s = .next t ∧ Shifts full s t := by
  cases i
  all_goals refine ⟨_, rfl, ?_⟩
  case load | discard | check | clear | postureBadForm | unknownCommand | queryCondition | queryTrackTable | queryContexts
      | queryPen | queryPosture | queryBaselineRow | queryTableRange | queryBadSelector | watch | unwatch =>
    exact s.takeWrite_shifts hfull fun r _ => .of_quiet (by simp)
  case commit => exact s.takeWrite_shifts hfull fun r _ => r.takeCommit_shifts _
  case abort => exact s.takeWrite_shifts hfull fun r hr => r.takeAbort_shifts hr _
  case run => exact s.takeWrite_shifts hfull fun r _ => r.takeRun_shifts _
  case stop => exact s.takeWrite_shifts hfull fun r _ => r.takeStop_shifts _
  case recal => exact s.takeWrite_shifts hfull fun r _ => r.takeRecal_shifts _ _
  case reset => exact s.takeWrite_shifts hfull fun r _ => .single (.reset .command false r.pending rfl)
  case postureCode => exact s.takeWrite_shifts hfull fun r _ => r.takePostureCode_shifts _ _
  case postureAngle => exact s.takeWrite_shifts hfull fun r _ => r.takePostureAngle_shifts _ _
  case writeTransfer =>
    split
    · exact s.takeWrite_shifts hfull fun r hr => r.takeRecord_shifts hr _
    · exact s.unlessHeld_shifts (.of_quiet (by rw [State.countBadWrite_outer, State.setLinkOut_outer]))
  case frameOperationBegin =>
    split
    · exact .refl
    next hidle =>
      split
      next w hw => exact s.takeItem_shifts (Option.not_isSome_iff_eq_none.mp hidle) (nextItem_mem hw)
      · exact .refl
  case frameOperationComplete =>
    split
    · exact .refl
    next o hop =>
      split
      · exact .refl
      · split
        · exact .single (.held o hop rfl)
        · exact s.completeOperation_shifts hfull hop
  case heldOperationComplete =>
    split
    · exact .refl
    next o hop =>
      split
      · exact s.completeOperation_shifts hfull hop
      · exact .refl
  case digestTaken =>
    split
    · exact .refl
    next d _ _ =>
      split
      · have htaken : Shifts full s (s.setInHand true) := .of_quiet rfl
        have hhandled := ((s.setInHand true).handleDigest_moves (held := False) d False.elim).shifts (full := full)
        exact Shifts.noticed (htaken.trans hhandled)
      · exact .refl
  case penInkTaken =>
    split
    · exact .refl
    next p _ =>
      split
      · exact (s.handlePenInk_moves (held := False) p False.elim).shifts.noticed
      · exact .refl
  case timerDeadlineReached k =>
    split
    · exact .refl
    next timer _ =>
      split
      · exact (s.onContext_moves (held := False) k
          (fun c => { c with timer := some { timer with waiting := some timer.deadline } }) fun c => ⟨rfl, rfl, rfl⟩).shifts
      · exact .refl
  case timerExpiryTaken k =>
    split
    · exact .refl
    next timer _ =>
      split
      · have hgone : EngineMoves False s (s.onContext k fun c => { c with timer := none }) :=
          s.onContext_moves k _ fun c => ⟨rfl, rfl, rfl⟩
        have hdelivered : EngineMoves False s _ :=
          hgone.trans (State.deliver_moves _ k (plainEvent .timer timer.deadline) False.elim)
        exact hdelivered.shifts.noticed
      · exact .refl
  case digestHandlingEnd =>
    split
    · exact .of_quiet s.dropInHand_outer
    · exact .refl
  case programSwitch =>
    split
    · have hswitch : Shifts full s s.cancelContexts.installProgram :=
        (s.cancelContexts_moves (held := False) False.elim).shifts.tail (.quiet (State.installProgram_outer _))
      exact hswitch.noticed.tail (.quiet (State.endCommit_outer _))
    · exact .refl
  case stopComplete =>
    split
    next h => exact s.completeStop_shifts hfull h.1 h.2
    · exact .refl
  case palmMemoryExpiry i =>
    split
    · split
      · exact .of_quiet rfl
      · exact .refl
    · exact .refl
  case penGuardExpiry =>
    split
    · exact .single (.pen s.pen.mode none (fun _ => .inr rfl) (fun _ h => absurd rfl h) rfl)
    · exact .refl
  case frameTimeout u =>
    split
    next h =>
      rw [Bool.and_eq_true] at h
      exact (s.failSurface_shifts u h.2).noticed
    · exact .refl
  case frameStart => exact s.unlessHeld_shifts (s.takeFrameStart_shifts _ _ _ _).noticed
  case rowRecord => exact s.unlessHeld_shifts (s.takeRowRecord_shifts _ _).noticed
  case frameEnd => exact s.unlessHeld_shifts (s.takeFrameEnd_shifts _ _ _).noticed
  case readEndedEarly => exact s.unlessHeld_shifts (.of_quiet (s.endRead_outer _))
  case badTransferKind => exact s.unlessHeld_shifts (.of_quiet s.countBadWrite_outer)
  case penSample =>
    refine s.unlessHeld_shifts ?_
    split
    · exact .refl
    next haside =>
      have hrun : s.link.part = .run := by
        by_contra hpart
        simp [State.setsAside, hpart] at haside
      split
      · exact (s.takeValid_shifts hrun _ _).noticed
      · exact (s.takeInvalid_shifts hrun).noticed
  case readTransfer => exact s.unlessHeld_shifts (s.takeRead_shifts _)
  case unknownScanRecord => exact .refl
  case powerOn =>
    split
    · exact .single (.reset .power true s.pending rfl)
    · exact .single (.reset .power false s.pending rfl)
  case resetPinAssert =>
    split
    · exact .refl
    · exact .single (.reset .pin true s.pending rfl)
  case resetPinRelease =>
    split
    · exact .single (.reset s.link.cause false s.pending rfl)
    · exact .refl

end

end Sys2Proof.Machine

/-! What shifts keep of the pen's guard and of the wait list (R14, R101, R102), and O35. -/

namespace Sys2Proof.Machine

section
variable {full : Prop} {s t : State}

theorem shifts_of_step (hfull : full → s.listed) (hstep : step s = .next t) :
    ∃ rest, Shifts full { s with pending := rest } t := by
  unfold step at hstep
  split at hstep
  · cases hstep
    refine ⟨s.pending, .of_quiet ?_⟩
    unfold State.tick
    split <;> rfl
  next i rest _ =>
    obtain ⟨t', heq, hshifts⟩ := exec_shifts { s with pending := rest } hfull i
    obtain rfl : t' = t := Host.Outcome.next.inj (heq.symm.trans hstep)
    exact ⟨rest, hshifts⟩

/-! ## The guard -/

/-- The guard is present only outside inking (R101, R102). -/
def Outer.guardSound (l : Outer) : Prop := l.guard ≠ none → l.mode ≠ .ink ∧ l.mode ≠ .coast .ink

theorem State.guardSound_iff : s.guardSound ↔ s.outer.guardSound := Iff.rfl

theorem Outer.guardSound_of_same {l m : Outer} (h : l.guardSound) (hmode : m.mode = l.mode) (hguard : m.guard = l.guard) :
    m.guardSound := by
  unfold Outer.guardSound
  rwa [hmode, hguard]

theorem Outer.closing_pen (l : Outer) (u : Surface) (out : ClosingOutcome) (sl : PerSurface (List (Option Track))) :
    (l.closing u out sl).mode = l.mode ∧ (l.closing u out sl).guard = l.guard := by
  cases out <;> exact ⟨rfl, rfl⟩

theorem Shift.guardSound (hshift : Shift full s t) (h : s.guardSound) : t.guardSound := by
  have hpen {l : Outer} (heq : t.outer = l) (hmode : l.mode = s.pen.mode) (hguard : l.guard = s.pen.guard) :
      t.guardSound := State.guardSound_iff.mpr (heq ▸ Outer.guardSound_of_same (l := s.outer) h hmode hguard)
  cases hshift with
  | engine hmove =>
    obtain ⟨-, -, -, -, -, -, -, -, -, -, -, -, hkept, -⟩ := hmove.keeps
    unfold State.guardSound
    rwa [hkept]
  | contact => simpa [State.guardSound] using h
  | closed o key out hop hwork sl hsl heq =>
    obtain ⟨hmode, hguard⟩ := s.outer.closing_pen o.surface out sl
    exact hpen heq hmode hguard
  | pen m g hmode hguard heq => exact State.guardSound_iff.mpr (heq ▸ hguard h)
  | stopping hrun heq => exact State.guardSound_iff.mpr (heq ▸ fun hsome => absurd rfl hsome)
  | reset cause b q heq => exact State.guardSound_iff.mpr (heq ▸ fun hsome => absurd rfl hsome)
  | quiet heq | held _ _ heq | turn _ _ heq | post _ _ _ _ heq | fail _ _ heq | acquire _ _ heq | live _ _ heq
  | ready _ _ _ heq | begin _ _ _ _ _ _ _ heq | skip _ _ heq | framed _ _ _ _ _ _ _ heq | wound heq | hold _ _ heq
  | run _ heq => exact hpen heq rfl rfl

end

/-- The pad quiet signal (R103). -/
theorem State.padQuiet_iff (s : State) : s.padQuiet = true ↔ s.pen.guard ≠ none ∨
    (s.pen.mode = .ink ∧ (s.tables.active.postureEntry s.posture).padQuietOnInk = true) := by
  rw [State.padQuiet, Bool.or_eq_true, Bool.and_eq_true, beq_iff_eq, Option.isSome_iff_ne_none, or_comm,
    and_comm (a := s.pen.mode = .ink)]
  rfl

/-- Settles O35. -/
theorem guardExpiresOutsideInking : Obligations.GuardExpiresOutsideInking := by
  refine ⟨fun s d hguard hreached => ?_, fun s t hs hstep => ?_, State.padQuiet_iff⟩
  · have hdue : s.pen.guard.any (reached s.now) = true := by
      rw [hguard]
      exact decide_eq_true hreached
    show Host.Outcome.next _ = _
    rw [if_pos hdue]
  · obtain ⟨rest, hshifts⟩ := shifts_of_step (full := False) False.elim hstep
    exact hshifts.keep (fun _ _ hshift => hshift.guardSound) hs

/-! ## The wait list -/

/-- Each surface has at most one ready frame and one closing request on a wait list (R14). -/
def listWithin (l : List WaitItem) : Prop :=
  ∀ u, l.countP (·.isFrame u) ≤ 1 ∧ l.countP (·.isClosing u) ≤ 1

theorem State.waitListWithin_iff {s : State} : (∀ u, s.waitListWithin u) ↔ listWithin s.engine.waitList := Iff.rfl

theorem WaitItem.isFrame_iff {w : WaitItem} {u : Surface} : w.isFrame u = true ↔ w.surface = u ∧ w.work = .frame := by
  cases hwork : w.work <;> simp [WaitItem.isFrame, hwork]

theorem WaitItem.isClosing_iff {w : WaitItem} {u : Surface} :
    w.isClosing u = true ↔ w.surface = u ∧ ∃ out, w.work = .closing out := by
  cases hwork : w.work <;> simp [WaitItem.isClosing, hwork]

/-- Items that keep their surfaces and their kinds of work keep the list within its bounds. -/
theorem listWithin_map {l : List WaitItem} {f : WaitItem → WaitItem} (hframe : ∀ w u, (f w).isFrame u = w.isFrame u)
    (hclosing : ∀ w u, (f w).isClosing u = w.isClosing u) (h : listWithin l) : listWithin (l.map f) := by
  intro u
  rw [List.countP_map, List.countP_map]
  simp only [Function.comp_def, hframe, hclosing]
  exact h u

theorem listWithin_sublist {l l' : List WaitItem} (hsub : l'.Sublist l) (h : listWithin l) : listWithin l' :=
  fun u => ⟨(hsub.countP_le).trans (h u).1, (hsub.countP_le).trans (h u).2⟩

theorem mergeClosing_isFrame (u v : Surface) (o : ClosingOutcome) (w : WaitItem) :
    (mergeClosing u o w).isFrame v = w.isFrame v := by
  cases hwork : w.work with
  | frame => simp [mergeClosing, hwork]
  | closing old =>
    simp only [mergeClosing, hwork]
    split <;> simp [WaitItem.isFrame, hwork]

theorem mergeClosing_isClosing (u v : Surface) (o : ClosingOutcome) (w : WaitItem) :
    (mergeClosing u o w).isClosing v = w.isClosing v := by
  cases hwork : w.work with
  | frame => simp [mergeClosing, hwork]
  | closing old =>
    simp only [mergeClosing, hwork]
    split <;> simp [WaitItem.isClosing, hwork]

theorem turnWaiting_isFrame (u v : Surface) (w : WaitItem) : (turnWaiting u w).isFrame v = w.isFrame v := by
  unfold turnWaiting
  split
  next h => simp [WaitItem.isFrame, h.2]
  · rfl

theorem turnWaiting_isClosing (u v : Surface) (w : WaitItem) : (turnWaiting u w).isClosing v = w.isClosing v := by
  unfold turnWaiting
  split
  next h => simp [WaitItem.isClosing, h.2]
  · rfl

/-- An item may be appended where none like it waits. -/
theorem listWithin_append {l : List WaitItem} {w : WaitItem} (h : listWithin l)
    (hframe : ∀ u, w.isFrame u = true → l.countP (·.isFrame u) = 0)
    (hclosing : ∀ u, w.isClosing u = true → l.countP (·.isClosing u) = 0) : listWithin (l ++ [w]) := by
  intro u
  obtain ⟨hframes, hclosings⟩ := h u
  rw [List.countP_append, List.countP_append, List.countP_singleton, List.countP_singleton]
  constructor
  · split
    next hw => rw [hframe u hw]
    · exact hframes
  · split
    next hw => rw [hclosing u hw]
    · exact hclosings

theorem postedList_within {l : List WaitItem} (h : listWithin l) (now : Time) (u : Surface) (o : ClosingOutcome) :
    listWithin (postedList l now u o) := by
  have hrest : listWithin (l.filter fun i => !i.isFrame u) := listWithin_sublist List.filter_sublist h
  unfold postedList
  dsimp only
  split
  · exact listWithin_map (fun w v => mergeClosing_isFrame u v o w) (fun w v => mergeClosing_isClosing u v o w) hrest
  next hnone =>
    refine listWithin_append hrest (fun v hv => ?_) fun v hv => ?_
    · exact nomatch (WaitItem.isFrame_iff.mp hv).2
    · obtain ⟨rfl, -⟩ := WaitItem.isClosing_iff.mp hv
      exact List.countP_eq_zero.mpr fun w hw hclosing => hnone (List.any_eq_true.mpr ⟨w, hw, hclosing⟩)

theorem readyList_within {l : List WaitItem} (h : listWithin l) (now : Time) (u : Surface) :
    listWithin ((l.filter fun w => !w.isFrame u) ++ [⟨now, u, .frame⟩]) := by
  refine listWithin_append (listWithin_sublist List.filter_sublist h) (fun v hv => ?_) fun v hv => ?_
  · obtain ⟨rfl, -⟩ := WaitItem.isFrame_iff.mp hv
    exact List.countP_eq_zero.mpr fun w hw hframe => by simpa [hframe] using (List.mem_filter.mp hw).2
  · exact nomatch (WaitItem.isClosing_iff.mp hv).2.choose_spec

section
variable {full : Prop} {s t : State}

theorem Outer.closing_waitList (l : Outer) (u : Surface) (out : ClosingOutcome) (sl : PerSurface (List (Option Track))) :
    (l.closing u out sl).engine.waitList = l.engine.waitList := by
  cases out <;> rfl

theorem Shift.listWithin (hshift : Shift full s t) (h : listWithin s.engine.waitList) : listWithin t.engine.waitList := by
  have hlist {l : Outer} (heq : t.outer = l) (hl : Machine.listWithin l.engine.waitList) :
      Machine.listWithin t.engine.waitList := by
    rwa [show t.engine.waitList = l.engine.waitList from congrArg (fun o : Outer => o.engine.waitList) heq]
  cases hshift with
  | engine hmove =>
    obtain ⟨-, -, -, -, -, -, hengine, -⟩ := hmove.keeps
    rwa [hengine]
  | contact => simpa using h
  | turn u hrun heq =>
    exact hlist heq (listWithin_map (fun w v => turnWaiting_isFrame u v w) (fun w v => turnWaiting_isClosing u v w) h)
  | post u o hout hbusy heq => exact hlist heq (postedList_within h s.now u o)
  | fail u hproc heq => exact hlist heq (postedList_within h s.now u .none)
  | ready u hproc hopen heq => exact hlist heq (readyList_within h s.now u)
  | begin w o hw hop hsurface hsnap hwork heq => exact hlist heq (listWithin_sublist List.erase_sublist h)
  | skip w hwork heq => exact hlist heq (listWithin_sublist List.erase_sublist h)
  | closed o key out hop hwork sl hsl heq =>
    exact hlist heq ((s.outer.closing_waitList o.surface out sl).symm ▸ h)
  | stopping hrun heq => exact hlist heq (postedList_within (postedList_within h s.now .pad .off) s.now .panel .off)
  | wound heq => exact hlist heq fun u => ⟨Nat.zero_le _, Nat.zero_le _⟩
  | reset cause b q heq => exact hlist heq fun u => ⟨Nat.zero_le _, Nat.zero_le _⟩
  | quiet heq | held _ _ heq | acquire _ _ heq | live _ _ heq | framed _ _ _ _ _ _ _ heq | pen _ _ _ _ heq | hold _ _ heq
  | run _ heq => exact hlist heq h

end

/-- Every list keeps to its capacity (R14, R17, R48, R78, R121, R144, R147). -/
theorem State.listsWithin_step {s t : State} (h : s.listsWithin) (hstep : step s = .next t) : t.listsWithin := by
  obtain ⟨hwait, hlists⟩ := State.listsWithin_iff.mp h
  obtain ⟨rest, heffect⟩ := effect_of_step s.ready_false hstep
  obtain ⟨rest', hshifts⟩ := shifts_of_step (full := False) False.elim hstep
  exact State.listsWithin_iff.mpr ⟨State.waitListWithin_iff.mpr
    (hshifts.keep (P := fun x => listWithin x.engine.waitList) (fun _ _ hshift => hshift.listWithin) hwait),
    heffect.listsKept hlists⟩

end Sys2Proof.Machine

/-! What shifts keep of winding down (R9, R13, R15, R18, R141, R185, R186), and O58. -/

namespace Sys2Proof.Machine

/-! ## The engine's moves where no context runs -/

section
variable {held : Prop} {s t : State}

theorem State.idle_iff : s.idle ↔ ∀ k, s.context k = none := by
  constructor
  · intro h k
    by_contra hne
    obtain ⟨c, hc⟩ := Option.ne_none_iff_exists'.mp hne
    rw [State.context_eq] at hc
    cases hget : s.gestures.contexts[k]? with
    | none => simp [hget] at hc
    | some r => simp [h r (List.mem_of_getElem? hget), hget] at hc
  · intro h r hr
    obtain ⟨k, hk⟩ := List.getElem?_of_mem hr
    simpa [State.context_eq, hk] using h k

theorem State.idle_of_setContext {k : Nat} (h : s.idle) : (s.setContext k none).idle := by
  rw [State.idle_iff] at *
  intro j
  rw [State.context_setContext, h j]
  split <;> simp

/-- Out of RUN no context begins (R187). -/
theorem EngineMove.idle (hmove : EngineMove held s t) (hpart : s.link.part ≠ .run) (h : s.idle) : t.idle := by
  have hnone := State.idle_iff.mp h
  cases hmove with
  | edit k c d hc => exact nomatch (hnone k).symm.trans hc
  | claim k c x e hc => exact nomatch (hnone k).symm.trans hc
  | start k c hfree hclaims hrun => exact absurd hrun hpart
  | giveUp k r => exact State.idle_iff.mpr fun j => by rw [State.context_giveUp, hnone j, hnone k]; simp
  | place d =>
    refine State.idle_iff.mpr fun j => ?_
    have hj := hnone j
    rw [State.context_eq] at hj ⊢
    simp only [State.placeClaims, List.getElem?_map]
    cases hget : s.gestures.contexts[j]? with
    | none => rfl
    | some r => simp_all
  | finish k => exact State.idle_of_setContext h
  | gesture | snapshot | pointer => exact State.idle_of_contexts (by simp) h
  | aside | releasePointer | setPointer | press | unpress | residues => exact State.idle_of_contexts rfl h

end

/-! ## Closing requests on the wait list -/

theorem WaitItem.shuts_iff {w : WaitItem} {u : Surface} :
    w.shuts u = true ↔ w.surface = u ∧ ∃ o, w.work = .closing o ∧ o.shuts = true := by
  cases hwork : w.work <;> simp [WaitItem.shuts, hwork]

theorem Operation.shuts_iff {o : Operation} {u : Surface} :
    o.shuts u = true ↔ o.surface = u ∧ ∃ key out, o.work = .closing key out ∧ out.shuts = true := by
  cases hwork : o.work <;> simp [Operation.shuts, hwork]

/-- A closing request of a surface with this outcome is on a wait list. -/
def closingIn (l : List WaitItem) (u : Surface) (o : ClosingOutcome) : Prop :=
  ∃ w ∈ l, w.surface = u ∧ w.work = .closing o

/-- A ready frame of a surface is on a wait list. -/
def frameIn (l : List WaitItem) (u : Surface) : Prop := ∃ w ∈ l, w.surface = u ∧ w.work = .frame

/-- A closing request of a surface that shuts it is on a wait list. -/
def shutIn (l : List WaitItem) (u : Surface) : Prop := closingIn l u .off ∨ closingIn l u .acquire

theorem frameIn_iff {l : List WaitItem} {u : Surface} : frameIn l u ↔ l.any (·.isFrame u) = true := by
  simp only [frameIn, List.any_eq_true, WaitItem.isFrame_iff]

theorem shutIn_iff {l : List WaitItem} {u : Surface} : shutIn l u ↔ l.any (·.shuts u) = true := by
  simp only [shutIn, closingIn, List.any_eq_true, WaitItem.shuts_iff]
  constructor
  · rintro (⟨w, hw, hsurface, hwork⟩ | ⟨w, hw, hsurface, hwork⟩)
    exacts [⟨w, hw, hsurface, _, hwork, rfl⟩, ⟨w, hw, hsurface, _, hwork, rfl⟩]
  · rintro ⟨w, hw, hsurface, o, hwork, hshuts⟩
    cases o with
    | off => exact .inl ⟨w, hw, hsurface, hwork⟩
    | acquire => exact .inr ⟨w, hw, hsurface, hwork⟩
    | none => cases hshuts

section
variable {l l' : List WaitItem} {u v : Surface} {o : ClosingOutcome} {now : Time}

theorem closingIn_of_sublist (h : l'.Sublist l) : closingIn l' v o → closingIn l v o := fun ⟨w, hw, hrest⟩ =>
  ⟨w, h.subset hw, hrest⟩

theorem frameIn_of_sublist (h : l'.Sublist l) : frameIn l' v → frameIn l v := fun ⟨w, hw, hrest⟩ =>
  ⟨w, h.subset hw, hrest⟩

theorem shutIn_of_sublist (h : l'.Sublist l) : shutIn l' v → shutIn l v :=
  Or.imp (closingIn_of_sublist h) (closingIn_of_sublist h)

theorem closingIn_erase {w : WaitItem} (hw : w.surface ≠ v ∨ w.work ≠ .closing o) (h : closingIn l v o) :
    closingIn (l.erase w) v o := by
  obtain ⟨i, hi, hsurface, hwork⟩ := h
  refine ⟨i, (List.mem_erase_of_ne ?_).mpr hi, hsurface, hwork⟩
  rintro rfl
  exact hw.elim (· hsurface) (· hwork)

theorem closingIn_filter (p : Surface) : closingIn (l.filter fun w => !w.isFrame p) v o ↔ closingIn l v o := by
  constructor
  · exact closingIn_of_sublist List.filter_sublist
  · rintro ⟨w, hw, hsurface, hwork⟩
    refine ⟨w, List.mem_filter.mpr ⟨hw, ?_⟩, hsurface, hwork⟩
    rw [Bool.not_eq_true', Bool.eq_false_iff, ne_eq, WaitItem.isFrame_iff, hwork]
    exact fun h => nomatch h.2

theorem frameIn_filter (p : Surface) : frameIn (l.filter fun w => !w.isFrame p) v ↔ v ≠ p ∧ frameIn l v := by
  constructor
  · rintro ⟨w, hw, hsurface, hwork⟩
    obtain ⟨hin, hnot⟩ := List.mem_filter.mp hw
    refine ⟨?_, w, hin, hsurface, hwork⟩
    rintro rfl
    rw [Bool.not_eq_true', Bool.eq_false_iff] at hnot
    exact hnot (WaitItem.isFrame_iff.mpr ⟨hsurface, hwork⟩)
  · rintro ⟨hne, w, hw, hsurface, hwork⟩
    refine ⟨w, List.mem_filter.mpr ⟨hw, ?_⟩, hsurface, hwork⟩
    rw [Bool.not_eq_true', Bool.eq_false_iff, ne_eq, WaitItem.isFrame_iff]
    rintro ⟨rfl, -⟩
    exact hne hsurface.symm

theorem closingIn_append {w : WaitItem} :
    closingIn (l ++ [w]) v o ↔ closingIn l v o ∨ (w.surface = v ∧ w.work = .closing o) := by
  simp only [closingIn, List.mem_append, List.mem_singleton, or_and_right, exists_or, exists_eq_left]

theorem frameIn_append {w : WaitItem} : frameIn (l ++ [w]) v ↔ frameIn l v ∨ (w.surface = v ∧ w.work = .frame) := by
  simp only [frameIn, List.mem_append, List.mem_singleton, or_and_right, exists_or, exists_eq_left]

/-- A posted request: the surface's frame is gone, OFF stays and comes, and ACQUIRE only stays (R13). -/
theorem frameIn_posted : frameIn (postedList l now u o) v ↔ v ≠ u ∧ frameIn l v := by
  rw [← frameIn_filter]
  unfold postedList
  dsimp only
  split
  · rw [frameIn_iff, frameIn_iff, List.any_map]
    simp only [Function.comp_def, mergeClosing_isFrame]
  · rw [frameIn_append]
    simp

theorem mergeClosing_work {w : WaitItem} (hsurface : w.surface = u) {old : ClosingOutcome} (hwork : w.work = .closing old) :
    mergeClosing u o w = { w with work := .closing (old.merge o) } := by
  simp only [mergeClosing, hwork, if_pos hsurface]

theorem mergeClosing_other {w : WaitItem} (hsurface : w.surface ≠ u) : mergeClosing u o w = w := by
  unfold mergeClosing
  split
  · rw [if_neg hsurface]
  · rfl

theorem mergeClosing_surface (w : WaitItem) : (mergeClosing u o w).surface = w.surface := by
  unfold mergeClosing
  split
  · split <;> rfl
  · rfl

theorem closingIn_posted_off (h : closingIn l v .off) : closingIn (postedList l now u o) v .off := by
  rw [← closingIn_filter u] at h
  unfold postedList
  dsimp only
  split
  · obtain ⟨w, hw, hsurface, hwork⟩ := h
    refine ⟨_, List.mem_map_of_mem hw, (mergeClosing_surface w).trans hsurface, ?_⟩
    by_cases hu : w.surface = u
    · rw [mergeClosing_work hu hwork]
      simp [ClosingOutcome.merge]
    · rw [mergeClosing_other hu, hwork]
  · exact closingIn_append.mpr (.inl h)

/-- A posted OFF waits. -/
theorem closingIn_posted : closingIn (postedList l now u .off) u .off := by
  unfold postedList
  dsimp only
  split
  next h =>
    obtain ⟨w, hw, hclosing⟩ := List.any_eq_true.mp h
    obtain ⟨hsurface, old, hwork⟩ := WaitItem.isClosing_iff.mp hclosing
    refine ⟨_, List.mem_map_of_mem hw, (mergeClosing_surface w).trans hsurface, ?_⟩
    rw [mergeClosing_work hsurface hwork]
    simp [ClosingOutcome.merge]
  · exact closingIn_append.mpr (.inr ⟨rfl, rfl⟩)

theorem merge_acquire {old : ClosingOutcome} (h : old.merge o = .acquire) : old = .acquire ∧ o ≠ .off := by
  unfold ClosingOutcome.merge at h
  split at h
  · cases h
  next hne => exact ⟨h, hne⟩

theorem closingIn_posted_acquire (hout : o ≠ .acquire) (h : closingIn (postedList l now u o) v .acquire) :
    closingIn l v .acquire ∧ (o = .off → v ≠ u) := by
  rw [← closingIn_filter u]
  unfold postedList at h
  dsimp only at h
  split at h
  · obtain ⟨i, hi, hsurface, hwork⟩ := h
    obtain ⟨w, hw, rfl⟩ := List.mem_map.mp hi
    rw [mergeClosing_surface] at hsurface
    by_cases hu : w.surface = u
    · cases hold : w.work with
      | frame => simp [mergeClosing, hold] at hwork
      | closing old =>
        rw [mergeClosing_work hu hold] at hwork
        obtain ⟨rfl, hoff⟩ := merge_acquire (WaitWork.closing.inj hwork)
        exact ⟨⟨w, hw, hsurface, hold⟩, fun h => absurd h hoff⟩
    · rw [mergeClosing_other hu] at hwork
      exact ⟨⟨w, hw, hsurface, hwork⟩, fun _ => hsurface ▸ hu⟩
  next hnone =>
    obtain h | ⟨-, hwork⟩ := closingIn_append.mp h
    · refine ⟨h, fun _ => ?_⟩
      rintro rfl
      obtain ⟨w, hw, hsurface, hwork⟩ := h
      exact hnone (List.any_eq_true.mpr ⟨w, hw, WaitItem.isClosing_iff.mpr ⟨hsurface, _, hwork⟩⟩)
    · exact absurd (WaitWork.closing.inj hwork) hout

/-- A request posted for another surface leaves what shuts a surface. -/
theorem shutIn_posted (hout : o ≠ .acquire) (hne : v ≠ u) (h : shutIn (postedList l now u o) v) : shutIn l v := by
  obtain hoff | hacquire := h
  · refine .inl ?_
    rw [← closingIn_filter u]
    unfold postedList at hoff
    dsimp only at hoff
    split at hoff
    · obtain ⟨i, hi, hsurface, hwork⟩ := hoff
      obtain ⟨w, hw, rfl⟩ := List.mem_map.mp hi
      rw [mergeClosing_surface] at hsurface
      rw [mergeClosing_other (hsurface ▸ hne)] at hwork
      exact ⟨w, hw, hsurface, hwork⟩
    · exact (closingIn_append.mp hoff).resolve_right fun h => hne h.1.symm
  · exact .inr (closingIn_posted_acquire hout hacquire).1

theorem turnWaiting_shuts (u v : Surface) (w : WaitItem) : (turnWaiting u w).shuts v = w.shuts v := by
  unfold turnWaiting
  split
  next h => simp [WaitItem.shuts, h.2, ClosingOutcome.shuts]
  · rfl

theorem turnInFlight_shuts (u v : Surface) (o : Operation) : (turnInFlight u o).shuts v = o.shuts v := by
  unfold turnInFlight
  split
  next key hwork =>
    split
    · simp [Operation.shuts, hwork, ClosingOutcome.shuts]
    · rfl
  · rfl

theorem shutIn_turned : shutIn (l.map (turnWaiting u)) v ↔ shutIn l v := by
  rw [shutIn_iff, shutIn_iff, List.any_map]
  simp only [Function.comp_def, turnWaiting_shuts]

theorem frameIn_turned : frameIn (l.map (turnWaiting u)) v ↔ frameIn l v := by
  rw [frameIn_iff, frameIn_iff, List.any_map]
  simp only [Function.comp_def, turnWaiting_isFrame]

end

end Sys2Proof.Machine

/-! Winding down read off the outer values, and O58 (R9, R13, R15, R18, R185 to R187). -/

namespace Sys2Proof.Machine

/-! ## What winding down says of the outer values -/

/-- Which slots of a list hold an open track. -/
def opensOf (l : List (Option Track)) : List Bool := l.map (·.any Track.open_)

namespace Outer
variable (l : Outer)

/-- What shuts a surface is in flight (R9). -/
def shutsNow (u : Surface) : Prop := ∃ o, l.engine.op = some o ∧ o.shuts u = true

/-- A closing request of a surface with this outcome is in flight. -/
def closesNow (u : Surface) (out : ClosingOutcome) : Prop :=
  ∃ o key, l.engine.op = some o ∧ o.surface = u ∧ o.work = .closing key out

/-- A frame of a surface is in flight. -/
def framesNow (u : Surface) : Prop := ∃ o f, l.engine.op = some o ∧ o.surface = u ∧ o.work = .frame f

/-- What HOLD is (R185). -/
def still : Prop :=
  (∀ u, l.states.get u = .off) ∧ (∀ c ∈ l.contexts, c = none) ∧ l.engine.op = none ∧ l.engine.waitList = []

/-- What STOPPING keeps of a surface (R186). -/
def stopping (u : Surface) : Prop :=
  ¬ closingIn l.engine.waitList u .acquire ∧
    (closingIn l.engine.waitList u .off ∨ l.closesNow u .off ∨ (l.states.get u = .off ∧ ¬ l.closesNow u .acquire))

/-- What a surface keeps in every part state (R9, R13, R15, R18). -/
structure surface (u : Surface) : Prop where
  unshut : frameIn l.engine.waitList u →
    (l.states.get u = .acquire ∨ l.states.get u = .live) ∧ ¬ shutIn l.engine.waitList u ∧ ¬ l.shutsNow u
  off : l.states.get u = .off → (∀ b ∈ opensOf (l.slots.get u), b = false) ∧ ¬ l.framesNow u
  same : ∀ o, l.engine.op = some o → o.surface = u → opensOf (l.slots.get u) = opensOf (o.snap.tracks.slots.get u)

/-- How the part winds down (R185 to R187). -/
structure winding : Prop where
  still : l.part = .hold → l.still
  penOut : l.part ≠ .run → l.mode = .out
  stopping : l.part = .stopping → ∀ u, l.stopping u
  surface : ∀ u, l.surface u

end Outer

theorem State.waitsFor_iff (s : State) (u : Surface) (o : ClosingOutcome) :
    s.waitsFor u o ↔ closingIn s.outer.engine.waitList u o := Iff.rfl

theorem closed_iff {t : TrackTable} {u : Surface} : t.closed u ↔ ∀ b ∈ opensOf (t.slots.get u), b = false := by
  simp only [TrackTable.closed, opensOf, List.forall_mem_map]
  refine forall₂_congr fun r _ => ?_
  cases r <;> simp

theorem State.surfaceSound_iff (s : State) (u : Surface) : s.surfaceSound u ↔ s.outer.surface u := by
  have hstate : s.outer.states.get u = (s.intake.get u).state := s.states_get u
  have hshut : s.shut u = true ↔ (s.intake.get u).state = .off ∨ shutIn s.engine.waitList u ∨ s.outer.shutsNow u := by
    rw [State.shut, Bool.or_eq_true, Bool.or_eq_true, beq_iff_eq, ← shutIn_iff, Option.any_eq_true, or_assoc]
    rfl
  have hproc : s.processed u = true ↔ (s.intake.get u).state = .acquire ∨ (s.intake.get u).state = .live := by
    rw [State.processed, Bool.or_eq_true, beq_iff_eq, beq_iff_eq]
  unfold State.surfaceSound
  rw [hproc, hshut, ← frameIn_iff, closed_iff, ← Bool.not_eq_true, ← frameIn_iff]
  constructor
  · rintro ⟨hunshut, hprocessed, hoff, hsame⟩
    refine ⟨fun hframe => ⟨hstate ▸ hprocessed hframe, fun h => hunshut (.inr (.inl h)) hframe,
      fun h => hunshut (.inr (.inr h)) hframe⟩, fun h => hoff (hstate ▸ h), hsame⟩
  · rintro ⟨hunshut, hoff, hsame⟩
    rw [hstate] at hunshut hoff
    refine ⟨?_, fun hframe => (hunshut hframe).1, hoff, hsame⟩
    rintro (h | h | h) hframe
    · obtain ⟨hstate | hstate, -⟩ := hunshut hframe <;> exact nomatch h.symm.trans hstate
    · exact (hunshut hframe).2.1 h
    · exact (hunshut hframe).2.2 h

theorem State.windingSound_iff (s : State) : s.windingSound ↔ s.outer.winding := by
  have hstates : (∀ u, (s.intake.get u).state = .off) ↔ ∀ u, s.outer.states.get u = .off :=
    forall_congr' fun u => by rw [← s.states_get u]; rfl
  have hstill : s.heldStill ↔ s.outer.still := and_congr hstates Iff.rfl
  have hstopping (u : Surface) : s.stoppingSurface u ↔ s.outer.stopping u := by
    unfold State.stoppingSurface
    rw [← s.states_get u]
    rfl
  unfold State.windingSound
  rw [hstill, forall_congr' hstopping, forall_congr' s.surfaceSound_iff]
  exact ⟨fun ⟨hheld, hpen, hstop, hsurface⟩ => ⟨hheld, hpen, hstop, hsurface⟩,
    fun ⟨hheld, hpen, hstop, hsurface⟩ => ⟨hheld, hpen, hstop, hsurface⟩⟩

/-! ## Changes that leave it -/

theorem slotCarries.opens {r r' : Option Track} (h : slotCarries r r') : r'.any Track.open_ = r.any Track.open_ := by
  obtain ⟨hfrom, hstays⟩ := h
  cases r' with
  | some y =>
    obtain ⟨x, rfl, hcarries⟩ := hfrom y rfl
    exact hcarries.open_
  | none =>
    cases r with
    | none => rfl
    | some x =>
      cases hopen : x.open_ with
      | false => simp [hopen]
      | true => exact absurd rfl (hstays x rfl hopen)

theorem opensOf_of_carries {l l' : List (Option Track)} (h : List.Forall₂ slotCarries l l') : opensOf l' = opensOf l := by
  induction h with
  | nil => rfl
  | cons hslot _ ih => rw [opensOf, opensOf, List.map_cons, List.map_cons, hslot.opens]; exact congrArg _ ih

theorem TrackTable.carries.opens {t t' : TrackTable} (h : t.carries t') (u : Surface) :
    opensOf (t'.slots.get u) = opensOf (t.slots.get u) := opensOf_of_carries (h.1 u)

namespace Outer
variable {l m : Outer} {u : Surface}

/-- Only which slots are open and whether a context runs matters of slots and contexts. -/
theorem winding_of_opens (h : l.winding) (hpart : m.part = l.part) (hstates : m.states = l.states)
    (hengine : m.engine = l.engine) (hmode : m.mode = l.mode)
    (hcontexts : l.part = .hold → (∀ c ∈ l.contexts, c = none) → ∀ c ∈ m.contexts, c = none)
    (hopens : ∀ u, opensOf (m.slots.get u) = opensOf (l.slots.get u)) : m.winding := by
  obtain ⟨hstill, hpen, hstop, hsurface⟩ := h
  have hsame (u : Surface) : (m.stopping u ↔ l.stopping u) ∧ (m.shutsNow u ↔ l.shutsNow u) ∧
      (m.framesNow u ↔ l.framesNow u) := by
    simp only [Outer.stopping, Outer.shutsNow, Outer.framesNow, Outer.closesNow, hengine, hstates, iff_self, and_self]
  refine ⟨fun hhold => ?_, fun hne => ?_, fun hstopping u => ?_, fun u => ?_⟩
  · obtain ⟨hoff, hidle, hop, hwait⟩ := hstill (hpart ▸ hhold)
    exact ⟨hstates ▸ hoff, hcontexts (hpart ▸ hhold) hidle, hengine ▸ hop, hengine ▸ hwait⟩
  · rw [hmode]
    exact hpen (hpart ▸ hne)
  · exact (hsame u).1.mpr (hstop (hpart ▸ hstopping) u)
  · obtain ⟨hunshut, hoff, hsnap⟩ := hsurface u
    refine ⟨?_, ?_, ?_⟩
    · rw [hengine, hstates, (hsame u).2.1]
      exact hunshut
    · rw [hstates, hopens, (hsame u).2.2]
      exact hoff
    · rw [hengine, hopens]
      exact hsnap

/-! ## The wait list, the operation in flight and the surfaces' states changed -/

theorem stopping_of (h : l.stopping u) (hwait : closingIn m.engine.waitList u .acquire → closingIn l.engine.waitList u .acquire)
    (hoff : closingIn l.engine.waitList u .off → closingIn m.engine.waitList u .off)
    (hop : m.engine.op = l.engine.op) (hstates : l.states.get u = .off → m.states.get u = .off) : m.stopping u := by
  obtain ⟨hnot, hcase⟩ := h
  have hcloses (out : ClosingOutcome) : m.closesNow u out ↔ l.closesNow u out := by simp only [closesNow, hop]
  refine ⟨fun h => hnot (hwait h), ?_⟩
  rw [hcloses, hcloses]
  exact hcase.imp hoff (.imp_right (.imp_left hstates))

theorem surface_of (h : l.surface u) (hframe : frameIn m.engine.waitList u → frameIn l.engine.waitList u ∧
      (shutIn m.engine.waitList u → shutIn l.engine.waitList u)) (hop : m.engine.op = l.engine.op)
    (hstates : m.states.get u = l.states.get u) (hslots : m.slots.get u = l.slots.get u) : m.surface u := by
  obtain ⟨hunshut, hoff, hsame⟩ := h
  have hshuts : m.shutsNow u ↔ l.shutsNow u := by simp only [shutsNow, hop]
  have hframes : m.framesNow u ↔ l.framesNow u := by simp only [framesNow, hop]
  refine ⟨fun hf => ?_, ?_, ?_⟩
  · obtain ⟨hframe, hshut⟩ := hframe hf
    obtain ⟨hstate, hnot, hnow⟩ := hunshut hframe
    exact ⟨hstates ▸ hstate, fun hs => hnot (hshut hs), fun hs => hnow (hshuts.mp hs)⟩
  · rw [hstates, hslots, hframes]
    exact hoff
  · rw [hop, hslots]
    exact hsame

end Outer

end Sys2Proof.Machine

/-! Each shift of winding down, and O58 (R9, R13, R15, R18, R185 to R187). -/

namespace Sys2Proof.Machine

namespace Outer
variable {l m : Outer} {u : Surface}

/-! ## Surfaces' states and wait items -/

theorem winding.not_hold_of_state (h : l.winding) (hstate : l.states.get u ≠ .off) : l.part ≠ .hold :=
  fun hhold => hstate ((h.still hhold).1 u)

theorem winding.not_hold_of_mem (h : l.winding) {w : WaitItem} (hw : w ∈ l.engine.waitList) : l.part ≠ .hold := by
  intro hhold
  rw [(h.still hhold).2.2.2] at hw
  exact nomatch hw

theorem winding.not_hold_of_op (h : l.winding) {o : Operation} (ho : l.engine.op = some o) : l.part ≠ .hold :=
  fun hhold => nomatch ho.symm.trans (h.still hhold).2.2.1

/-- A change of the wait list alone. -/
theorem winding.waiting (h : l.winding) (hpart : l.part ≠ .hold) {w : List WaitItem}
    (hframe : ∀ u, frameIn w u → frameIn l.engine.waitList u ∧ (shutIn w u → shutIn l.engine.waitList u))
    (hacquire : ∀ u, closingIn w u .acquire → closingIn l.engine.waitList u .acquire)
    (hoff : ∀ u, closingIn l.engine.waitList u .off → closingIn w u .off) : (l.waiting w).winding :=
  ⟨fun hhold => absurd hhold hpart, h.penOut, fun hstop u => stopping_of (h.stopping hstop u) (hacquire u) (hoff u) rfl id,
    fun u => surface_of (h.surface u) (hframe u) rfl rfl rfl⟩

/-- A surface enters a state other than OFF. -/
theorem winding.enter (h : l.winding) (hpart : l.part ≠ .hold) {st : SurfaceState} (hst : st ≠ .off)
    (hmay : l.part = .stopping → l.states.get u ≠ .off)
    (hframe : frameIn l.engine.waitList u → st = .acquire ∨ st = .live) : (l.enter u st).winding := by
  refine ⟨fun hhold => absurd hhold hpart, h.penOut, fun hstop v => ?_, fun v => ?_⟩
  · refine stopping_of (h.stopping hstop v) id id rfl fun hoff => ?_
    by_cases hv : v = u
    · subst hv
      exact absurd hoff (hmay hstop)
    · exact (PerSurface.get_set_other _ _ _ _ hv).trans hoff
  · by_cases hv : v = u
    · subst hv
      have hself : (l.enter v st).states.get v = st := PerSurface.get_set_same _ _ _
      obtain ⟨hunshut, -, hsame⟩ := h.surface v
      exact ⟨fun hf => ⟨by rw [hself]; exact hframe hf, (hunshut hf).2⟩, fun hoff => absurd (hself.symm.trans hoff) hst, hsame⟩
    · exact surface_of (h.surface v) (fun hf => ⟨hf, id⟩) rfl (PerSurface.get_set_other _ _ _ _ hv) rfl

theorem winding.posted (h : l.winding) (hpart : l.part ≠ .hold) {o : ClosingOutcome} (hout : o ≠ .acquire) (now : Time) :
    (l.waiting (postedList l.engine.waitList now u o)).winding := by
  refine h.waiting hpart (fun v hf => ?_) (fun v hacquire => (closingIn_posted_acquire hout hacquire).1)
    fun v => closingIn_posted_off
  obtain ⟨hne, hframe⟩ := frameIn_posted.mp hf
  exact ⟨hframe, shutIn_posted hout hne⟩

theorem winding.failed (h : l.winding) (hproc : l.states.get u = .acquire ∨ l.states.get u = .live) (now : Time) :
    ((l.enter u .failed).waiting (postedList l.engine.waitList now u .none)).winding := by
  have hstate : l.states.get u ≠ .off := by
    rintro hoff
    rw [hoff] at hproc
    exact hproc.elim nofun nofun
  have hpart := h.not_hold_of_state hstate
  exact (h.posted hpart (o := .none) nofun now).enter (u := u) (st := .failed) hpart nofun (fun _ => hstate)
    fun hf => absurd rfl (frameIn_posted.mp hf).1

theorem winding.ready (h : l.winding) (hproc : l.states.get u = .acquire ∨ l.states.get u = .live)
    (hshut : ¬ shutIn l.engine.waitList u) (hnow : ¬ l.shutsNow u) (now : Time) :
    (l.waiting ((l.engine.waitList.filter fun w => !w.isFrame u) ++ [⟨now, u, .frame⟩])).winding := by
  have hpart : l.part ≠ .hold := h.not_hold_of_state fun hoff => by
    rw [hoff] at hproc
    exact hproc.elim nofun nofun
  have hclosing (v : Surface) (o : ClosingOutcome) :
      closingIn ((l.engine.waitList.filter fun w => !w.isFrame u) ++ [⟨now, u, .frame⟩]) v o ↔
        closingIn l.engine.waitList v o := by
    rw [closingIn_append, closingIn_filter, or_iff_left fun h => nomatch h.2]
  have hshuts (v : Surface) : shutIn ((l.engine.waitList.filter fun w => !w.isFrame u) ++ [⟨now, u, .frame⟩]) v →
      shutIn l.engine.waitList v := Or.imp (hclosing v .off).mp (hclosing v .acquire).mp
  refine ⟨fun hhold => absurd hhold hpart, h.penOut, fun hstop v =>
    stopping_of (h.stopping hstop v) (hclosing v .acquire).mp (hclosing v .off).mpr rfl id, fun v => ?_⟩
  obtain ⟨hunshut, hoff, hsame⟩ := h.surface v
  refine ⟨fun hf => ?_, hoff, hsame⟩
  obtain hf | ⟨hv, -⟩ := frameIn_append.mp hf
  · obtain ⟨hstate, hnot, hnot'⟩ := hunshut ((frameIn_filter u).mp hf).2
    exact ⟨hstate, fun hs => hnot (hshuts v hs), hnot'⟩
  · obtain rfl : u = v := hv
    exact ⟨hproc, fun hs => hshut (hshuts u hs), hnow⟩

theorem winding.skipped (h : l.winding) {w : WaitItem} (hwork : w.work = .frame) :
    (l.waiting (l.engine.waitList.erase w)).winding := by
  by_cases hw : w ∈ l.engine.waitList
  case neg =>
    rw [List.erase_of_not_mem hw]
    exact h
  exact h.waiting (h.not_hold_of_mem hw) (fun _ hf => ⟨frameIn_of_sublist List.erase_sublist hf, shutIn_of_sublist List.erase_sublist⟩)
    (fun _ => closingIn_of_sublist List.erase_sublist) fun _ => closingIn_erase (.inr (by rw [hwork]; nofun))

/-! ## The operation in flight -/

/-- In RUN, a surface's closings may turn from OFF to ACQUIRE (R13). -/
theorem winding.turned (h : l.winding) (hrun : l.part = .run) :
    ((l.waiting (l.engine.waitList.map (turnWaiting u))).flying (l.engine.op.map (turnInFlight u))).winding := by
  refine ⟨(fun hhold => nomatch hrun.symm.trans hhold), h.penOut, (fun hstop => nomatch hrun.symm.trans hstop), fun v => ?_⟩
  obtain ⟨hunshut, hoff, hsame⟩ := h.surface v
  refine ⟨fun hf => ?_, fun hstate => ⟨(hoff hstate).1, ?_⟩, ?_⟩
  · obtain ⟨hstate, hnot, hnow⟩ := hunshut (frameIn_turned.mp hf)
    refine ⟨hstate, fun hs => hnot (shutIn_turned.mp hs), ?_⟩
    rintro ⟨o', ho', hshuts⟩
    obtain ⟨o, ho, rfl⟩ := Option.map_eq_some_iff.mp ho'
    exact hnow ⟨o, ho, turnInFlight_shuts u v o ▸ hshuts⟩
  · rintro ⟨o', f, ho', hsurface, hwork⟩
    obtain ⟨o, ho, rfl⟩ := Option.map_eq_some_iff.mp ho'
    obtain ⟨-, hs, hw | ⟨key, hw, hw'⟩⟩ := continues_turnInFlight u o
    · exact (hoff hstate).2 ⟨o, f, ho, hs.symm.trans hsurface, hw.symm.trans hwork⟩
    · exact nomatch hw'.symm.trans hwork
  · intro o' ho' hsurface
    obtain ⟨o, ho, rfl⟩ := Option.map_eq_some_iff.mp ho'
    obtain ⟨hsnap, hs, -⟩ := continues_turnInFlight u o
    rw [hsnap]
    exact hsame o ho (hs.symm.trans hsurface)

/-- Holding an operation changes nothing of it but its mark. -/
theorem winding.held (h : l.winding) {o : Operation} (ho : l.engine.op = some o) :
    (l.flying (some { o with held := true })).winding := by
  have hpart := h.not_hold_of_op ho
  have hcloses (v : Surface) (out : ClosingOutcome) :
      (l.flying (some { o with held := true })).closesNow v out ↔ l.closesNow v out := by
    simp [closesNow, flying, ho]
  refine ⟨fun hhold => absurd hhold hpart, h.penOut, fun hstop v => ?_, fun v => ?_⟩
  · obtain ⟨hnot, hcase⟩ := h.stopping hstop v
    refine ⟨hnot, ?_⟩
    rw [hcloses, hcloses]
    exact hcase
  · obtain ⟨hunshut, hoff, hsame⟩ := h.surface v
    refine ⟨fun hf => ?_, fun hstate => ⟨(hoff hstate).1, ?_⟩, ?_⟩
    · obtain ⟨hstate, hnot, hnow⟩ := hunshut hf
      refine ⟨hstate, hnot, ?_⟩
      rintro ⟨o', ho', hshuts⟩
      cases ho'
      exact hnow ⟨o, ho, hshuts⟩
    · rintro ⟨o', f, ho', hrest⟩
      cases ho'
      exact (hoff hstate).2 ⟨o, f, ho, hrest⟩
    · rintro o' ho' hsurface
      cases ho'
      exact hsame o ho hsurface

theorem winding.begun (h : l.winding) {w : WaitItem} (hw : w ∈ l.engine.waitList) (hop : l.engine.op = none)
    {o : Operation} (hsurface : o.surface = w.surface) (hsnap : o.snap.tracks.slots = l.slots)
    (hwork : (w.work = .frame ∧ ∃ f, o.work = .frame f) ∨ ∃ out, w.work = .closing out ∧ o.work = .closing w.key out) :
    ((l.waiting (l.engine.waitList.erase w)).flying (some o)).winding := by
  have hcloses (v : Surface) (out : ClosingOutcome)
      (hnow : ((l.waiting (l.engine.waitList.erase w)).flying (some o)).closesNow v out) :
      w.surface = v ∧ w.work = .closing out := by
    obtain ⟨o', key, ho', hs, hclosing⟩ := hnow
    cases ho'
    obtain ⟨-, f, hf⟩ | ⟨out', hw', ho⟩ := hwork
    · exact nomatch hf.symm.trans hclosing
    · rw [ho] at hclosing
      cases hclosing
      exact ⟨hsurface.symm.trans hs, hw'⟩
  refine ⟨fun hhold => absurd hhold (h.not_hold_of_mem hw), h.penOut, fun hstop v => ?_, fun v => ?_⟩
  · obtain ⟨hnot, hcase⟩ := h.stopping hstop v
    refine ⟨fun hin => hnot (closingIn_of_sublist List.erase_sublist hin), ?_⟩
    by_cases hclosing : w.surface = v ∧ w.work = .closing .off
    · obtain ⟨hv, hoff⟩ := hclosing
      obtain ⟨hframe, -⟩ | ⟨out, hout, ho⟩ := hwork
      · exact nomatch hoff.symm.trans hframe
      · rw [hoff] at hout
        cases hout
        exact .inr (.inl ⟨o, w.key, rfl, hsurface.trans hv, ho⟩)
    · obtain hwait | ⟨o', -, ho', -⟩ | ⟨hstate, -⟩ := hcase
      · exact .inl (closingIn_erase (not_and_or.mp hclosing) hwait)
      · exact nomatch hop.symm.trans ho'
      · refine .inr (.inr ⟨hstate, fun hnow => ?_⟩)
        obtain ⟨hv, hacquire⟩ := hcloses v _ hnow
        exact hnot ⟨w, hw, hv, hacquire⟩
  · obtain ⟨hunshut, hoff, -⟩ := h.surface v
    refine ⟨fun hf => ?_, fun hstate => ⟨(hoff hstate).1, ?_⟩, fun o' ho' _ => ?_⟩
    · obtain ⟨hstate, hnot, -⟩ := hunshut (frameIn_of_sublist List.erase_sublist hf)
      refine ⟨hstate, fun hs => hnot (shutIn_of_sublist List.erase_sublist hs), ?_⟩
      rintro ⟨o', ho', hshuts⟩
      obtain ⟨hs, key, out, hclosing, hout⟩ := Operation.shuts_iff.mp hshuts
      obtain ⟨hv, hww⟩ := hcloses v out ⟨o', key, ho', hs, hclosing⟩
      exact hnot (shutIn_iff.mpr (List.any_eq_true.mpr ⟨w, hw, WaitItem.shuts_iff.mpr ⟨hv, out, hww, hout⟩⟩))
    · rintro ⟨o', f, ho', hs, hframe⟩
      cases ho'
      obtain ⟨hww, -⟩ | ⟨out, -, ho⟩ := hwork
      · obtain ⟨hstate' | hstate', -⟩ := hunshut ⟨w, hw, hsurface.symm.trans hs, hww⟩ <;>
          exact nomatch hstate.symm.trans hstate'
      · exact nomatch ho.symm.trans hframe
    · cases ho'
      rw [hsnap]
      rfl

/-- A frame's operation ends: its surface is not OFF, so its slots may be any. -/
theorem winding.framed (h : l.winding) {o : Operation} {f : ReadyFrame} (hop : l.engine.op = some o)
    (hwork : o.work = .frame f) (cs : List (Option Context)) (r : List (Option Track)) :
    Outer.winding { (l.flying none).slotted o.surface r with contexts := cs } := by
  refine ⟨fun hhold => absurd hhold (h.not_hold_of_op hop), h.penOut, fun hstop v => ?_, fun v => ?_⟩
  · obtain ⟨hnot, hcase⟩ := h.stopping hstop v
    refine ⟨hnot, hcase.imp_right ?_⟩
    rintro (⟨o', key, ho', hs, hclosing⟩ | ⟨hstate, -⟩)
    · rw [hop] at ho'
      cases ho'
      exact nomatch hwork.symm.trans hclosing
    · exact .inr ⟨hstate, fun ⟨o', key, ho', _⟩ => nomatch ho'⟩
  · obtain ⟨hunshut, hoff, -⟩ := h.surface v
    refine ⟨fun hf => ⟨(hunshut hf).1, (hunshut hf).2.1, fun ⟨o', ho', _⟩ => nomatch ho'⟩,
      fun hstate => ⟨?_, fun ⟨o', f, ho', _⟩ => nomatch ho'⟩, fun o' ho' => nomatch ho'⟩
    have hv : v ≠ o.surface := fun hv => (hoff hstate).2 ⟨o, f, hop, hv.symm, hwork⟩
    rw [show Outer.slots { (l.flying none).slotted o.surface r with contexts := cs } = l.slots.set o.surface r from rfl,
      PerSurface.get_set_other _ _ _ _ hv]
    exact (hoff hstate).1

end Outer

end Sys2Proof.Machine

/-! The ends of operations and of winding down, and O58 (R9, R13, R15, R18, R185 to R187). -/

namespace Sys2Proof.Machine

/-- What a closing leaves of a slot has ended (R63). -/
theorem closeSlot_open {r : Option Track} {y : Track} (h : closeSlot r = some y) : y.open_ = false := by
  obtain ⟨x, rfl, -, -, -, -, -, cause, hended⟩ := closeSlot_eq_some h
  exact Track.open_eq_false hended

theorem opensOf_closed (l : List (Option Track)) : ∀ b ∈ opensOf (l.map closeSlot), b = false := by
  simp only [opensOf, List.map_map, List.forall_mem_map]
  intro r _
  cases h : closeSlot r with
  | none => simp [h]
  | some y => simp [h, closeSlot_open h]

namespace Outer
variable {l m : Outer} {u : Surface}

/-- A closing's operation ends and applies its outcome: it leaves no track open. -/
theorem winding.closed (h : l.winding) {o : Operation} {key : Time} {out : ClosingOutcome} (hop : l.engine.op = some o)
    (hwork : o.work = .closing key out) {sl : PerSurface (List (Option Track))}
    (hother : ∀ v, v ≠ o.surface → sl.get v = l.slots.get v)
    (hsl : (hasOpenTracks o.snap o.surface = false ∧ sl = l.slots) ∨ allClosed (sl.get o.surface)) :
    (l.closing o.surface out sl).winding := by
  have hengine : (l.closing o.surface out sl).engine = ⟨l.engine.waitList, none⟩ := by cases out <;> rfl
  have hparts : (l.closing o.surface out sl).part = l.part ∧ (l.closing o.surface out sl).mode = l.mode ∧
      (l.closing o.surface out sl).slots = sl := by cases out <;> exact ⟨rfl, rfl, rfl⟩
  have hstates (v : Surface) : (l.closing o.surface out sl).states.get v =
      if v = o.surface then (match out with | .off => .off | .acquire => .acquire | .none => l.states.get v)
      else l.states.get v := by
    cases out with
    | off => exact PerSurface.get_set _ _ _ _
    | acquire => exact PerSurface.get_set _ _ _ _
    | none => exact (ite_self _).symm
  have hnone (v : Surface) : ¬ (l.closing o.surface out sl).shutsNow v ∧ ¬ (l.closing o.surface out sl).framesNow v ∧
      ∀ out', ¬ (l.closing o.surface out sl).closesNow v out' := by
    simp [shutsNow, framesNow, closesNow, hengine]
  have hcloses {v : Surface} {out' : ClosingOutcome} (hnow : l.closesNow v out') : o.surface = v ∧ out = out' := by
    obtain ⟨o', key', ho', hs, hclosing⟩ := hnow
    rw [hop] at ho'
    cases ho'
    rw [hwork] at hclosing
    cases hclosing
    exact ⟨hs, rfl⟩
  have hclosed : ∀ b ∈ opensOf (sl.get o.surface), b = false := by
    obtain ⟨hshut, rfl⟩ | hall := hsl
    · rw [(h.surface o.surface).same o hop rfl]
      simp only [opensOf, List.forall_mem_map]
      exact fun r hr => Bool.eq_false_iff.mpr (List.any_eq_false.mp hshut r hr)
    · simp only [opensOf, List.forall_mem_map]
      intro r hr
      cases r with
      | none => rfl
      | some x => exact hall _ hr x rfl
  refine ⟨fun hhold => absurd (hparts.1 ▸ hhold) (h.not_hold_of_op hop), fun hne => hparts.2.1.trans (h.penOut (hparts.1 ▸ hne)),
    fun hstop v => ?_, fun v => ?_⟩
  · obtain ⟨hnot, hcase⟩ := h.stopping (hparts.1 ▸ hstop) v
    refine ⟨hengine ▸ hnot, ?_⟩
    rw [hengine, hstates]
    refine hcase.imp_right fun hcase => .inr ⟨?_, (hnone v).2.2 _⟩
    obtain hnow | ⟨hstate, hnot'⟩ := hcase
    · obtain ⟨rfl, rfl⟩ := hcloses hnow
      exact if_pos rfl
    · split
      next hv =>
        subst hv
        cases out with
        | off => rfl
        | acquire => exact absurd ⟨o, key, hop, rfl, hwork⟩ hnot'
        | none => exact hstate
      · exact hstate
  · obtain ⟨hunshut, hoff, -⟩ := h.surface v
    refine ⟨fun hf => ?_, fun hstate => ⟨?_, (hnone v).2.1⟩, fun o' ho' => ?_⟩
    · rw [hengine] at hf ⊢
      obtain ⟨hstate, hnot, hnow⟩ := hunshut hf
      refine ⟨?_, hnot, (hnone v).1⟩
      rw [hstates]
      split
      next hv =>
        subst hv
        cases out with
        | off => exact absurd ⟨o, hop, Operation.shuts_iff.mpr ⟨rfl, key, .off, hwork, rfl⟩⟩ hnow
        | acquire => exact .inl rfl
        | none => exact hstate
      · exact hstate
    · rw [hparts.2.2]
      by_cases hv : v = o.surface
      · rw [hv]
        exact hclosed
      · rw [hother v hv]
        rw [hstates, if_neg hv] at hstate
        exact (hoff hstate).1
    · rw [hengine] at ho'
      exact nomatch ho'

/-- STOP: both surfaces get their OFF requests, and the pen goes out (R186). -/
theorem winding.stopped (h : l.winding) (hrun : l.part = .run) (now : Time) : Outer.winding { (l.waiting
    (postedList (postedList l.engine.waitList now .pad .off) now .panel .off)).penned .out none with part := .stopping } := by
  have hposted := (h.posted (u := .pad) (fun hhold => nomatch hrun.symm.trans hhold) (o := .off) nofun now).posted
    (u := .panel) (fun hhold => nomatch hrun.symm.trans hhold) (o := .off) nofun now
  refine ⟨(fun hhold => nomatch hhold), fun _ => rfl, fun _ u => ⟨fun hacquire => ?_, .inl ?_⟩, fun u => ?_⟩
  · obtain ⟨hpad, hpanel⟩ := closingIn_posted_acquire (o := .off) nofun hacquire
    have hpad := (closingIn_posted_acquire (o := .off) nofun hpad).2 rfl
    cases u with
    | pad => exact hpad rfl
    | panel => exact hpanel rfl rfl
  · cases u with
    | pad => exact closingIn_posted_off closingIn_posted
    | panel => exact closingIn_posted
  · obtain ⟨hunshut, hoff, hsame⟩ := hposted.surface u
    exact ⟨hunshut, hoff, hsame⟩

theorem surface_of_still {l : Outer} (hoff : ∀ u, l.states.get u = .off → ∀ b ∈ opensOf (l.slots.get u), b = false)
    (hengine : l.engine = ⟨[], none⟩) (u : Surface) : l.surface u := by
  refine ⟨fun hf => ?_, fun hstate => ⟨hoff u hstate, ?_⟩, fun o ho => ?_⟩
  · obtain ⟨w, hw, -⟩ := hf
    rw [hengine] at hw
    exact nomatch hw
  · rintro ⟨o, f, ho, -⟩
    rw [hengine] at ho
    exact nomatch ho
  · rw [hengine] at ho
    exact nomatch ho

theorem woundDown_states (l : Outer) (u : Surface) : l.woundDown.states.get u = .off := by cases u <;> rfl

theorem winding.wound (h : l.winding) : l.woundDown.winding := by
  refine ⟨fun hhold => ⟨l.woundDown_states, (h.still hhold).2.1, rfl, rfl⟩, h.penOut,
    fun _ u => ⟨(fun ⟨w, hw, _⟩ => nomatch hw), .inr (.inr ⟨l.woundDown_states u, fun ⟨o, key, ho, _⟩ => nomatch ho⟩)⟩,
    surface_of_still (fun u _ => ?_) rfl⟩
  cases u <;> exact opensOf_closed _

/-- A stop that has drained is still (R186). -/
theorem winding.drained (h : l.winding) (hstop : l.part = .stopping) (hop : l.engine.op = none)
    (hnone : ∀ u, l.engine.waitList.any (·.isClosing u) = false) :
    (∀ u, l.states.get u = .off) ∧ l.engine = ⟨[], none⟩ ∧ l.mode = .out := by
  have hclosing (u : Surface) (o : ClosingOutcome) : ¬ closingIn l.engine.waitList u o := by
    rintro ⟨w, hw, hs, hwork⟩
    exact absurd (WaitItem.isClosing_iff.mpr ⟨hs, o, hwork⟩) (List.any_eq_false.mp (hnone u) w hw)
  have hoff (u : Surface) : l.states.get u = .off := by
    obtain ⟨-, hwait | ⟨o, key, ho, -⟩ | ⟨hstate, -⟩⟩ := h.stopping hstop u
    · exact absurd hwait (hclosing u .off)
    · exact nomatch hop.symm.trans ho
    · exact hstate
  refine ⟨hoff, ?_, h.penOut (by rw [hstop]; nofun)⟩
  have hempty : l.engine.waitList = [] := by
    refine List.eq_nil_iff_forall_not_mem.mpr fun w hw => ?_
    cases hwork : w.work with
    | frame =>
      obtain ⟨hstate | hstate, -⟩ := (h.surface w.surface).unshut ⟨w, hw, rfl, hwork⟩ <;>
        exact nomatch (hoff w.surface).symm.trans hstate
    | closing o => exact hclosing w.surface o ⟨w, hw, rfl, hwork⟩
  show Engine.mk l.engine.waitList l.engine.op = _
  rw [hempty, hop]

end Outer

section
variable {s t : State}

theorem opensOf_replicate (u : Surface) : ∀ b ∈ opensOf (TrackTable.reset.slots.get u), b = false := by
  cases u <;> decide

/-- Every shift keeps how the part winds down. -/
theorem Shift.winding (hshift : Shift True s t) (hshaped : s.tracks.shaped) (h : s.outer.winding) : t.outer.winding := by
  have hproc {u : Surface} (hproc : s.processed u = true) :
      s.outer.states.get u = .acquire ∨ s.outer.states.get u = .live := by
    rw [State.processed, Bool.or_eq_true, beq_iff_eq, beq_iff_eq, ← s.states_get u] at hproc
    exact hproc
  cases hshift with
  | quiet heq => exact heq ▸ h
  | engine hmove =>
    obtain ⟨-, -, -, -, hintake, -, hengine, -, -, -, -, -, hpen, -⟩ := hmove.keeps
    refine Outer.winding_of_opens h (EngineMoves.part (.single hmove)) (State.states_of_intake hintake) hengine (congrArg PenTracker.mode hpen)
      (fun hhold hidle => hmove.idle (fun hrun => nomatch hhold.symm.trans hrun) hidle) fun u => hmove.carries.opens u
  | contact time u cause =>
    exact Outer.winding_of_opens h (by simp [State.outer]) (State.states_of_intake (by simp)) (by simp [State.outer])
      (by simp [State.outer]) (fun _ hidle => by simpa [State.outer] using hidle)
      fun v => (State.carries_offerContact hshaped time u cause).opens v
  | held o hop heq => exact heq ▸ h.held hop
  | turn u hrun heq => exact heq ▸ h.turned hrun
  | post u o hout hbusy heq =>
    refine heq ▸ h.posted (fun hhold => ?_) hout s.now
    obtain ⟨hoff, -, hop, hwait⟩ := h.still hhold
    obtain hstate | hclosings := hbusy
    · exact hstate ((s.states_get u).symm.trans (hoff u))
    · rw [State.closings, show s.engine.waitList = [] from hwait, show s.engine.op = none from hop] at hclosings
      exact nomatch hclosings
  | fail u hprocessed heq => exact heq ▸ h.failed (hproc hprocessed) s.now
  | acquire u hmay heq =>
    refine heq ▸ h.enter (u := u) (st := .acquire) (fun hhold => ?_) nofun (fun hstop => ?_) fun _ => .inl rfl
    · obtain hrun | hstate := hmay
      · exact nomatch hhold.symm.trans hrun
      · exact hstate ((s.states_get u).symm.trans ((h.still hhold).1 u))
    · obtain hrun | hstate := hmay
      · exact nomatch hstop.symm.trans hrun
      · exact fun hoff => hstate ((s.states_get u).symm.trans hoff)
  | live u hstate heq =>
    have hne : s.outer.states.get u ≠ .off := by
      rw [show s.outer.states.get u = .acquire from (s.states_get u).trans hstate]
      nofun
    exact heq ▸ h.enter (u := u) (st := .live) (h.not_hold_of_state hne) nofun (fun _ => hne) fun _ => .inr rfl
  | ready u hprocessed hopen heq =>
    simp only [State.shut, Bool.or_eq_false_iff] at hopen
    obtain ⟨⟨-, hwait⟩, hop⟩ := hopen
    refine heq ▸ h.ready (hproc hprocessed) (fun hin => ?_) (fun ⟨o, ho, hshuts⟩ => ?_) s.now
    · exact nomatch hwait.symm.trans (shutIn_iff.mp hin)
    · exact nomatch hop.symm.trans ((Option.any_eq_true _ _).mpr ⟨o, ho, hshuts⟩)
  | begin w o hw hop hsurface hsnap hwork heq =>
    exact heq ▸ h.begun hw hop hsurface (congrArg TrackTable.slots hsnap) hwork
  | skip w hwork heq => exact heq ▸ h.skipped hwork
  | framed o f hop hwork cs r hr heq => exact heq ▸ h.framed hop hwork cs r
  | closed o key out hop hwork sl hsl heq =>
    obtain ⟨-, hother, hclosed⟩ := hsl trivial
    exact heq ▸ h.closed hop hwork hother hclosed
  | pen m g hmode hguard heq =>
    obtain ⟨hstill, hpen, hstop, hsurface⟩ := h
    refine heq ▸ ⟨hstill, fun hne => (hmode hne).elim id fun hsame => hsame.trans (hpen hne), hstop, fun u => ?_⟩
    obtain ⟨hunshut, hoff, hsame⟩ := hsurface u
    exact ⟨hunshut, hoff, hsame⟩
  | stopping hrun heq => exact heq ▸ h.stopped hrun s.now
  | wound heq => exact heq ▸ h.wound
  | hold hidle hstill heq =>
    have hfacts : (∀ u, s.outer.states.get u = .off) ∧ s.outer.engine = ⟨[], none⟩ ∧ s.outer.mode = .out := by
      obtain ⟨hstop, hdrained⟩ | ⟨hoff, hengine, hmode⟩ := hstill
      · simp only [State.drained, Bool.and_eq_true, Bool.not_eq_true', Option.isNone_iff_eq_none] at hdrained
        obtain ⟨⟨hop, hpad⟩, hpanel⟩ := hdrained
        refine h.drained hstop hop fun u => ?_
        cases u with
        | pad => exact hpad
        | panel => exact hpanel
      · exact ⟨fun u => (s.states_get u).trans (hoff u), hengine, hmode⟩
    obtain ⟨hoff, hengine, hmode⟩ := hfacts
    refine heq ▸ ⟨fun _ => ⟨hoff, hidle trivial, congrArg Engine.op hengine, congrArg Engine.waitList hengine⟩,
      fun _ => hmode, (fun hstop => nomatch hstop), ?_⟩
    exact Outer.surface_of_still (fun u hstate => ((h.surface u).off hstate).1) hengine
  | run hhold heq =>
    obtain ⟨-, -, hop, hwait⟩ := h.still hhold
    refine heq ▸ ⟨(fun hhold => nomatch hhold), (fun hne => absurd rfl hne), (fun hstop => nomatch hstop), fun u => ?_⟩
    obtain ⟨hunshut, hoff, hsame⟩ := h.surface u
    exact ⟨hunshut, hoff, hsame⟩
  | reset cause b q heq =>
    refine heq ▸ ⟨fun _ => ⟨fun u => ?_, fun c hc => ?_, rfl, rfl⟩, fun _ => rfl, (fun hstop => nomatch hstop),
      Outer.surface_of_still (fun u _ => ?_) rfl⟩
    · cases u <;> rfl
    · exact List.eq_of_mem_replicate hc
    · exact opensOf_replicate u

theorem Shift.shaped (hshift : Shift True s t) (h : s.tracks.shaped) : t.tracks.shaped := by
  have hslots {sl : PerSurface (List (Option Track))} (heq : t.outer.slots = sl) (hsl : ∀ u, (sl.get u).length = 10) :
      t.tracks.shaped := TrackTable.shaped_of_get fun u => by
    rw [show t.tracks.slots = sl from heq]
    exact hsl u
  have hkept {l : Outer} (heq : t.outer = l) (hsame : l.slots = s.tracks.slots) : t.tracks.shaped :=
    hslots (congrArg Outer.slots heq) (hsame ▸ TrackTable.shaped_get h)
  cases hshift with
  | engine hmove => exact hmove.carries.shaped h
  | contact time u cause => exact (State.carries_offerContact h time u cause).shaped h
  | framed o f hop hwork cs r hr heq =>
    refine hslots (congrArg Outer.slots heq) fun u => ?_
    rw [show Outer.slots { (s.outer.flying none).slotted o.surface r with contexts := cs } =
      s.tracks.slots.set o.surface r from rfl, PerSurface.get_set]
    split
    · exact hr trivial
    · exact TrackTable.shaped_get h u
  | closed o key out hop hwork sl hsl heq =>
    exact hslots ((congrArg Outer.slots heq).trans (by cases out <;> rfl)) (hsl trivial).1
  | wound heq =>
    refine hslots (congrArg Outer.slots heq) fun u => ?_
    cases u
    · exact (List.length_map _).trans (TrackTable.shaped_get h .pad)
    · exact (List.length_map _).trans (TrackTable.shaped_get h .panel)
  | reset cause b q heq => exact hslots (congrArg Outer.slots heq) fun u => by cases u <;> rfl
  | quiet heq | held _ _ heq | turn _ _ heq | post _ _ _ _ heq | fail _ _ heq | acquire _ _ heq | live _ _ heq
  | ready _ _ _ heq | begin _ _ _ _ _ _ _ heq | skip _ _ heq | pen _ _ _ _ heq | stopping _ heq | hold _ _ heq
  | run _ heq => exact hkept heq rfl

/-- Settles O58. -/
theorem windingStaysSound : Obligations.WindingStaysSound := by
  intro s t hlists hwinding hstep
  obtain ⟨-, -, hshaped, hops, -, hcontexts, -⟩ := State.listsWithin_iff.mp hlists
  obtain ⟨rest, hshifts⟩ := shifts_of_step (full := True) (fun _ => ⟨hcontexts, hshaped, hops⟩) hstep
  exact t.windingSound_iff.mpr (hshifts.keep (P := fun x => x.tracks.shaped ∧ x.outer.winding)
    (fun _ _ hshift ⟨hshaped, hwinding⟩ => ⟨hshift.shaped hshaped, hshift.winding hshaped hwinding⟩)
    ⟨hshaped, s.windingSound_iff.mp hwinding⟩).2

end

end Sys2Proof.Machine

/-! What leaves the program switch's wait alone, and the tables through every step (R143, R160 to R169): O50. -/

namespace Sys2Proof.Machine

/-! ## The program switch's wait -/

section
variable (s : State)

@[simp] theorem State.takeFrameStart_switchWaiting (u : Surface) (n : Half) (columns rows : Byte) :
    (s.takeFrameStart u n columns rows).gestures.switchWaiting = s.gestures.switchWaiting := by
  simp [State.takeFrameStart, State.examineStart, apply_ite State.gestures]

@[simp] theorem State.takeRowRecord_switchWaiting (u : Surface) (body : List Byte) :
    (s.takeRowRecord u body).gestures.switchWaiting = s.gestures.switchWaiting := by
  simp [State.takeRowRecord, apply_ite State.gestures]

@[simp] theorem State.takeFrameEnd_switchWaiting (u : Surface) (n check : Half) :
    (s.takeFrameEnd u n check).gestures.switchWaiting = s.gestures.switchWaiting := by
  simp [State.takeFrameEnd, apply_ite State.gestures]

@[simp] theorem State.takeValid_switchWaiting (held : PenHeld) (tipDown : Bool) :
    (s.takeValid held tipDown).gestures.switchWaiting = s.gestures.switchWaiting := by
  simp [State.takeValid, State.penInk, State.penHover, State.handPenInk, apply_ite State.gestures,
    apply_ite Gestures.switchWaiting]

@[simp] theorem State.takeInvalid_switchWaiting : s.takeInvalid.gestures.switchWaiting = s.gestures.switchWaiting := by
  cases hmode : s.pen.mode <;> simp [State.takeInvalid, hmode, State.coastOn, apply_ite State.gestures]

/-! ### Frame engine -/

@[simp] theorem State.takeItem_switchWaiting (w : WaitItem) : (s.takeItem w).gestures.switchWaiting = s.gestures.switchWaiting := by
  unfold State.takeItem
  split
  · rfl
  · split <;> rfl

@[simp] theorem State.completeAcquire_switchWaiting (u : Surface) (sn : Snapshot) (f : ReadyFrame) :
    (s.completeAcquire u sn f).gestures.switchWaiting = s.gestures.switchWaiting := by
  simp [State.completeAcquire, apply_ite State.gestures]

@[simp] theorem State.forceRelease_switchWaiting (n : Nat) (b e : Option Track) :
    (s.forceRelease n b e).gestures.switchWaiting = s.gestures.switchWaiting := by
  unfold State.forceRelease
  split <;> simp

@[simp] theorem State.completeLive_switchWaiting (u : Surface) (sn : Snapshot) (f : ReadyFrame) :
    (s.completeLive u sn f).gestures.switchWaiting = s.gestures.switchWaiting := by
  have hreleased := foldl_keeps (fun (acc : State) (c : Nat × Option Track × Option Track) =>
    acc.forceRelease c.1 c.2.1 c.2.2) (fun x : State => x.gestures.switchWaiting) (fun acc c => acc.forceRelease_switchWaiting ..)
  simp [State.completeLive, apply_ite State.gestures, hreleased]

@[simp] theorem State.closeTracks_switchWaiting (u : Surface) (sn : Snapshot) (key : Time) :
    (s.closeTracks u sn key).gestures.switchWaiting = s.gestures.switchWaiting := by
  simp [State.closeTracks, apply_ite State.gestures]

@[simp] theorem State.applyOutcome_switchWaiting (u : Surface) (o : ClosingOutcome) :
    (s.applyOutcome u o).gestures.switchWaiting = s.gestures.switchWaiting := by
  cases o <;> simp [State.applyOutcome]

@[simp] theorem State.completeClosing_switchWaiting (u : Surface) (sn : Snapshot) (key : Time) (o : ClosingOutcome) :
    (s.completeClosing u sn key o).gestures.switchWaiting = s.gestures.switchWaiting := by
  simp [State.completeClosing, apply_ite State.gestures, apply_ite Gestures.switchWaiting]

@[simp] theorem State.applyOperation_switchWaiting (o : Operation) : (s.applyOperation o).gestures.switchWaiting = s.gestures.switchWaiting := by
  unfold State.applyOperation
  split
  · simp
  · split <;> simp

@[simp] theorem State.outcomePen_switchWaiting (o : Operation) : (s.outcomePen o).gestures.switchWaiting = s.gestures.switchWaiting := by
  unfold State.outcomePen
  split <;> simp

/-! ### Gesture engine -/

theorem EngineMoves.switchWaiting {s t : State} (h : EngineMoves False s t) :
    t.gestures.switchWaiting = s.gestures.switchWaiting := by
  obtain ⟨-, -, -, -, -, -, -, -, -, -, -, -, -, -, -, -, -, hkept, -⟩ := h.keeps
  exact hkept

@[simp] theorem State.deliver_switchWaiting (k : Nat) (e : Event) :
    (s.deliver k e).gestures.switchWaiting = s.gestures.switchWaiting :=
  (s.deliver_moves (held := False) k e False.elim).switchWaiting

@[simp] theorem State.handleDigest_switchWaiting (d : Digest) :
    (s.handleDigest d).gestures.switchWaiting = s.gestures.switchWaiting :=
  (s.handleDigest_moves (held := False) d False.elim).switchWaiting

@[simp] theorem State.handlePenInk_switchWaiting (p : PenInk) :
    (s.handlePenInk p).gestures.switchWaiting = s.gestures.switchWaiting :=
  (s.handlePenInk_moves (held := False) p False.elim).switchWaiting

@[simp] theorem State.cancelContexts_switchWaiting : s.cancelContexts.gestures.switchWaiting = s.gestures.switchWaiting :=
  (s.cancelContexts_moves (held := False) False.elim).switchWaiting

@[simp] theorem State.generalCancel_switchWaiting : s.generalCancel.gestures.switchWaiting = s.gestures.switchWaiting := by
  simp [State.generalCancel, apply_ite State.gestures, apply_ite Gestures.switchWaiting]

/-! ### Link and management commands -/

@[simp] theorem State.takeRead_switchWaiting (extra : Nat) : (s.takeRead extra).gestures.switchWaiting = s.gestures.switchWaiting := by
  unfold State.takeRead
  split <;> simp

@[simp] theorem State.endRead_switchWaiting (sent : Nat) : (s.endRead sent).gestures.switchWaiting = s.gestures.switchWaiting := by
  unfold State.endRead
  split <;> simp

@[simp] theorem State.countBadWrite_switchWaiting : s.countBadWrite.gestures.switchWaiting = s.gestures.switchWaiting := by
  simp [State.countBadWrite]

@[simp] theorem State.countDroppedWrite_switchWaiting : s.countDroppedWrite.gestures.switchWaiting = s.gestures.switchWaiting := by
  simp [State.countDroppedWrite]

@[simp] theorem State.setPosture_switchWaiting (tag : Byte) (p : Posture) : (s.setPosture tag p).gestures.switchWaiting = s.gestures.switchWaiting := by
  simp [State.setPosture, State.changePosture, State.postureDone, apply_ite State.gestures]

@[simp] theorem State.takePostureCode_switchWaiting (tag : Byte) (v : Half) :
    (s.takePostureCode tag v).gestures.switchWaiting = s.gestures.switchWaiting := by
  unfold State.takePostureCode
  split <;> simp

@[simp] theorem State.runSurface_switchWaiting (u : Surface) : (s.runSurface u).gestures.switchWaiting = s.gestures.switchWaiting := by
  simp [State.runSurface, apply_ite State.gestures]

@[simp] theorem State.takePostureAngle_switchWaiting (tag : Byte) (v : Half) :
    (s.takePostureAngle tag v).gestures.switchWaiting = s.gestures.switchWaiting := by
  simp [State.takePostureAngle]

@[simp] theorem State.takePostureBadForm_switchWaiting (tag : Byte) : (s.takePostureBadForm tag).gestures.switchWaiting = s.gestures.switchWaiting := by
  simp [State.takePostureBadForm]

@[simp] theorem State.takeCheck_switchWaiting (tag : Byte) : (s.takeCheck tag).gestures.switchWaiting = s.gestures.switchWaiting := by
  simp [State.takeCheck]

@[simp] theorem State.takeRun_switchWaiting (tag : Byte) : (s.takeRun tag).gestures.switchWaiting = s.gestures.switchWaiting := by
  unfold State.takeRun
  split <;> simp

@[simp] theorem State.takeStop_switchWaiting (tag : Byte) : (s.takeStop tag).gestures.switchWaiting = s.gestures.switchWaiting := by
  unfold State.takeStop
  split <;> simp [State.beginStop]

@[simp] theorem State.stopDone_switchWaiting : s.stopDone.gestures.switchWaiting = s.gestures.switchWaiting := by
  unfold State.stopDone
  split <;> simp

@[simp] theorem State.takeRecal_switchWaiting (tag u : Byte) : (s.takeRecal tag u).gestures.switchWaiting = s.gestures.switchWaiting := by
  unfold State.takeRecal
  split
  · simp
  · split <;> simp [apply_ite State.gestures]

@[simp] theorem State.answer_switchWaiting (tag selector : Byte) (body : List Byte) :
    (s.answer tag selector body).gestures.switchWaiting = s.gestures.switchWaiting := by
  simp [State.answer]

@[simp] theorem State.takeQueryTracks_switchWaiting (tag u : Byte) : (s.takeQueryTracks tag u).gestures.switchWaiting = s.gestures.switchWaiting := by
  unfold State.takeQueryTracks
  split <;> simp

@[simp] theorem State.takeQueryBaseline_switchWaiting (tag u r : Byte) :
    (s.takeQueryBaseline tag u r).gestures.switchWaiting = s.gestures.switchWaiting := by
  unfold State.takeQueryBaseline
  split <;> simp [apply_ite State.gestures, apply_ite Gestures.switchWaiting]

@[simp] theorem State.takeQueryRange_switchWaiting (tag kind part : Byte) (first count : Half) :
    (s.takeQueryRange tag kind part first count).gestures.switchWaiting = s.gestures.switchWaiting := by
  unfold State.takeQueryRange
  split <;> simp [apply_ite State.gestures, apply_ite Gestures.switchWaiting]

@[simp] theorem State.takeWatch_switchWaiting (tag template state : Byte) :
    (s.takeWatch tag template state).gestures.switchWaiting = s.gestures.switchWaiting := by
  simp [State.takeWatch, apply_ite State.gestures, apply_ite Gestures.switchWaiting]

@[simp] theorem State.takeUnwatch_switchWaiting (tag template state : Byte) :
    (s.takeUnwatch tag template state).gestures.switchWaiting = s.gestures.switchWaiting := by
  simp [State.takeUnwatch]

@[simp] theorem State.takeClear_switchWaiting (tag : Byte) : (s.takeClear tag).gestures.switchWaiting = s.gestures.switchWaiting := by
  simp [State.takeClear, State.clearCounters]

@[simp] theorem State.takeBadLength_switchWaiting (tag code : Byte) :
    (s.takeBadLength tag code).gestures.switchWaiting = s.gestures.switchWaiting := by
  simp [State.takeBadLength, apply_ite State.gestures]

@[simp] theorem State.abortReport_switchWaiting (u : Surface) : (s.abortReport u).gestures.switchWaiting = s.gestures.switchWaiting := by
  simp [State.abortReport, apply_ite State.gestures]

@[simp] theorem State.windDown_switchWaiting : s.windDown.gestures.switchWaiting = s.gestures.switchWaiting := by
  simp [State.windDown, State.abortStores, State.abortTracks, State.abortEngine]

@[simp] theorem State.windUp_switchWaiting : s.windUp.gestures.switchWaiting = s.gestures.switchWaiting := by simp [State.windUp]

end

end Sys2Proof.Machine

/-! The tables through every step (R143, R160 to R169): O50. -/

namespace Sys2Proof.Machine

/-! ## Tables with a kind taken from another copy -/

theorem validateKind_takeKind (t f : Tables) (j k : Kind) :
    validateKind (t.takeKind f j) k = if k = j then validateKind f k else validateKind t k := by
  cases j <;> cases k <;> rfl

theorem tune_takeKind (t f : Tables) (j : Kind) : (t.takeKind f j).tune = if j = .tune then f.tune else t.tune := by
  cases j <;> rfl

/-- Taking kinds from another copy takes its entries of those and leaves the others, for what sees one kind alone. -/
theorem takeKinds_of_takeKind {α : Type} (g : Tables → α) (k : Kind)
    (hg : ∀ (t f : Tables) (j : Kind), g (t.takeKind f j) = if k = j then g f else g t) (t f : Tables) (ks : KindSet) :
    g (t.takeKinds f ks) = if ks.has k then g f else g t := by
  have hfold (l : List Kind) (t : Tables) :
      g (l.foldl (fun acc j => if ks.has j then acc.takeKind f j else acc) t) =
        if k ∈ l ∧ ks.has k = true then g f else g t := by
    induction l generalizing t with
    | nil => simp
    | cons j l ih =>
      rw [List.foldl_cons, ih]
      by_cases hj : k = j
      · subst hj
        by_cases hk : ks.has k = true <;> simp [hk, hg]
      · by_cases hks : ks.has j = true <;> simp [hks, hg, hj]
  have hall : k ∈ Kind.all := by cases k <;> decide
  exact (hfold Kind.all t).trans (by simp [hall])

theorem validateKind_takeKinds (t f : Tables) (ks : KindSet) (k : Kind) :
    validateKind (t.takeKinds f ks) k = if ks.has k then validateKind f k else validateKind t k :=
  takeKinds_of_takeKind (fun x => validateKind x k) k (fun t f j => validateKind_takeKind t f j k) t f ks

theorem tune_takeKinds (t f : Tables) (ks : KindSet) :
    (t.takeKinds f ks).tune = if ks.tune then f.tune else t.tune :=
  takeKinds_of_takeKind Tables.tune .tune (fun t f j => by rw [tune_takeKind]; simp only [eq_comm]) t f ks

/-! ## TUNE within its ranges (R165) -/

theorem tuneRanges_ordered : ∀ r ∈ tuneRanges, r.lo ≤ r.hi := by decide

theorem clampedTune_within {l : List Nat} (h : l.length = tuneRanges.length) : tuneWithin (clampedTune l) := by
  have hlength : (clampedTune l).length = tuneRanges.length := by
    rw [clampedTune, List.length_map, List.length_zip, h, Nat.min_self]
  refine ⟨hlength, fun p hp => ?_⟩
  obtain ⟨i, hi, rfl⟩ := List.mem_iff_getElem.mp hp
  have hi' : i < tuneRanges.length := by
    rw [List.length_zip, hlength, Nat.min_self] at hi
    exact hi
  have hordered := tuneRanges_ordered _ (List.getElem_mem hi')
  simp only [List.getElem_zip, clampedTune, List.getElem_map, clampTune, clampNat]
  omega

theorem writeFixed_length {α : Type} {old new : List α} {offset : Nat} (h : offset + new.length ≤ old.length) :
    (writeFixed old offset new).length = old.length := by
  simp only [writeFixed, List.length_append, List.length_take, List.length_drop]
  omega

/-- LOAD writes only entries that fit, so TUNE keeps its length (R162). -/
theorem loadTarget_tune_length {t : Tables} {kind part : Byte} {offset : Half} {entries : List Byte} {p : Part}
    {es : List (List Byte)} (h : loadTarget t kind part offset entries = some (p, es)) :
    (t.write p offset.toNat es).tune.length = t.tune.length := by
  have hfits : loadFits t p offset.toNat es.length = true := by
    simp only [loadTarget, Option.bind_eq_some_iff, Option.ite_none_right_eq_some] at h
    obtain ⟨p', -, es', -, hfits, heq⟩ := h
    cases heq
    exact hfits
  cases p with
  | tune =>
    have hlen : offset.toNat + es.length ≤ t.tune.length := of_decide_eq_true hfits
    exact writeFixed_length (by simpa using hlen)
  | _ => rfl

/-! ## Stores with valid tables -/

/-- What `State.tablesSound` says of the store and of the program switch's wait. -/
structure TableStore.Sound (t : TableStore) (waits : Bool) : Prop where
  active : t.active.valid
  length : t.staging.tune.length = tuneRanges.length
  waiting : waits = true → ∃ c, t.commit = some c ∧ c.program = true
  commit : ∀ c, t.commit = some c → (∀ k, c.toSwitch k → validateKind t.staging k = none) ∧
    (c.frameSide.tune = true → tuneWithin t.staging.tune) ∧ c.frameSide.program = false

theorem State.tablesSound_iff (s : State) : s.tablesSound ↔ s.tables.Sound s.gestures.switchWaiting :=
  ⟨fun ⟨hactive, hlength, hwaiting, hcommit⟩ => ⟨hactive, hlength, hwaiting, hcommit⟩,
    fun ⟨hactive, hlength, hwaiting, hcommit⟩ => ⟨hactive, hlength, hwaiting, hcommit⟩⟩

namespace TableStore
variable {t : TableStore} {waits : Bool}

/-- A store with no commit pending: the program switch does not wait. -/
theorem Sound.not_waiting (h : t.Sound waits) (hcommit : ∀ c, t.commit = some c → c.program = false) : waits = false := by
  cases waits with
  | false => rfl
  | true =>
    obtain ⟨c, hc, hprogram⟩ := h.waiting rfl
    exact nomatch hprogram.symm.trans (hcommit c hc)

theorem sound_reset : TableStore.reset.Sound false := by
  refine ⟨⟨⟨rfl, by decide⟩, fun k => ?_⟩, rfl, nofun, nofun⟩
  cases k <;> decide

theorem Sound.load (h : t.Sound waits) (hcommit : t.commit = none) {kind part : Byte} {offset : Half}
    {entries : List Byte} {p : Part} {es : List (List Byte)}
    (htarget : loadTarget t.staging kind part offset entries = some (p, es)) (ks : KindSet) :
    Sound { t with staging := t.staging.write p offset.toNat es, dirty := ks } waits :=
  ⟨h.active, (loadTarget_tune_length htarget).trans h.length, h.waiting, fun _ hc => nomatch hcommit.symm.trans hc⟩

theorem Sound.discard (h : t.Sound waits) (hcommit : t.commit = none) (ks : KindSet) :
    Sound { t with staging := t.active, dirty := ks } waits :=
  ⟨h.active, h.active.1.1, h.waiting, fun _ hc => nomatch hcommit.symm.trans hc⟩

/-- A commit is accepted where the dirty kinds are valid; TUNE is clamped (R164, R165, R167). -/
theorem Sound.accept (h : t.Sound waits) (hcommit : t.commit = none) (hvalid : validateKinds t.staging t.dirty = none)
    (tag : Byte) (n : Nat) :
    Sound { t with
      staging := if t.dirty.tune then { t.staging with tune := clampedTune t.staging.tune } else t.staging
      commit := some ⟨tag, t.dirty.frameSide, t.dirty.program, n⟩ } waits := by
  have hclamped := clampedTune_within h.length
  refine ⟨h.active, ?_, fun hwaits => ?_, fun c hc => ?_⟩
  · show (ite _ _ _ : Tables).tune.length = _
    split
    · exact hclamped.1
    · exact h.length
  · exact nomatch hwaits.symm.trans (h.not_waiting fun c hc => nomatch hcommit.symm.trans hc)
  · cases hc
    refine ⟨fun k hk => ?_, fun htune => ?_, rfl⟩
    · have hkind : validateKind t.staging k = none := by
        rw [CommitRecord.toSwitch_accepted] at hk
        have hall := List.findSome?_eq_none_iff.mp hvalid k (by cases k <;> decide)
        rwa [if_pos hk] at hall
      show validateKind (ite _ _ _) k = none
      split
      · cases k <;> exact hkind
      · exact hkind
    · have htune : t.dirty.tune = true := htune
      show tuneWithin (ite _ _ _ : Tables).tune
      rw [if_pos htune]
      exact hclamped

theorem Sound.switchFrameSide (h : t.Sound waits) {c : CommitRecord} (hcommit : t.commit = some c) :
    Sound { t with
      active := t.active.takeKinds t.staging c.frameSide
      commit := some { c with frameSide := KindSet.empty } } waits := by
  obtain ⟨hkinds, htune, hprogram⟩ := h.commit c hcommit
  refine ⟨⟨?_, fun k => ?_⟩, h.length, fun hwaits => ?_, fun d hd => ?_⟩
  · show tuneWithin (Tables.takeKinds _ _ _).tune
    rw [tune_takeKinds]
    split
    next hside => exact htune hside
    · exact h.active.1
  · show validateKind (Tables.takeKinds _ _ _) k = none
    rw [validateKind_takeKinds]
    split
    next hside => exact hkinds k (.inl hside)
    · exact h.active.2 k
  · obtain ⟨d, hd, hdprogram⟩ := h.waiting hwaits
    rw [hcommit] at hd
    cases hd
    exact ⟨_, rfl, hdprogram⟩
  · cases hd
    refine ⟨fun k hk => ?_, nofun, rfl⟩
    obtain hside | hside := hk
    · cases k <;> exact nomatch hside
    · exact hkinds k (.inr hside)

theorem Sound.installProgram (h : t.Sound waits) (hprogram : ∀ c, t.commit = some c → c.program = true)
    (hpending : t.commit ≠ none) :
    Sound { t with
      active := t.active.takeKind t.staging .program
      commit := t.commit.map fun c => { c with program := false } } false := by
  obtain ⟨c, hcommit⟩ := Option.ne_none_iff_exists'.mp hpending
  obtain ⟨hkinds, htune, hside⟩ := h.commit c hcommit
  refine ⟨⟨h.active.1, fun k => ?_⟩, h.length, nofun, fun d hd => ?_⟩
  · show validateKind (Tables.takeKind _ _ _) k = none
    rw [validateKind_takeKind]
    split
    next hk => exact hkinds k (.inr ⟨hk, hprogram c hcommit⟩)
    · exact h.active.2 k
  · rw [hcommit] at hd
    cases hd
    exact ⟨fun k hk => hkinds k (hk.imp_right fun hp => nomatch hp.2), htune, hside⟩

theorem Sound.endCommit (h : t.Sound waits) (hprogram : ∀ c, t.commit = some c → c.program = false) (ks : KindSet) :
    Sound { t with dirty := ks, commit := none } waits :=
  ⟨h.active, h.length, (fun hwaits => nomatch hwaits.symm.trans (h.not_waiting hprogram)), nofun⟩

end TableStore

end Sys2Proof.Machine

/-! Every command keeps the tables sound, and O50 (R143, R160 to R169). -/

namespace Sys2Proof.Machine

/-! ## The store's commands and switches -/

section
variable {s t : State}

theorem State.tablesSound_of_same (h : s.tablesSound) (htables : t.tables = s.tables)
    (hwaits : t.gestures.switchWaiting = s.gestures.switchWaiting) : t.tablesSound := by
  rw [State.tablesSound_iff, htables, hwaits]
  exact s.tablesSound_iff.mp h

theorem State.tablesSound_of_store (h : t.tables.Sound t.gestures.switchWaiting) : t.tablesSound :=
  t.tablesSound_iff.mpr h

theorem State.takeLoad_sound (h : s.tablesSound) (tag kind part : Byte) (offset : Half) (entries : List Byte) :
    (s.takeLoad tag kind part offset entries).tablesSound := by
  unfold State.takeLoad
  split
  · exact State.tablesSound_of_same h (by simp) (by simp)
  next hpending =>
    split
    · exact State.tablesSound_of_same h (by simp) (by simp)
    next p es htarget =>
      refine State.tablesSound_of_store ?_
      rw [State.done_tables, State.done_gestures]
      exact (s.tablesSound_iff.mp h).load (by simpa using hpending) htarget _

theorem State.takeDiscard_sound (h : s.tablesSound) (tag : Byte) : (s.takeDiscard tag).tablesSound := by
  unfold State.takeDiscard
  split
  · exact State.tablesSound_of_same h (by simp) (by simp)
  next hpending =>
    refine State.tablesSound_of_store ?_
    rw [State.done_tables, State.done_gestures]
    exact (s.tablesSound_iff.mp h).discard (by simpa using hpending) _

theorem State.switchFrameSide_sound (h : s.tablesSound) : s.switchFrameSide.tablesSound := by
  unfold State.switchFrameSide
  split
  · exact h
  next c hcommit =>
    have hswitched := (s.tablesSound_iff.mp h).switchFrameSide hcommit
    split
    · exact h
    · refine State.tablesSound_of_store ?_
      split
      · rw [State.applyEntry_tables, State.applyEntry_gestures]
        exact hswitched
      · exact hswitched

theorem State.installProgram_sound (h : s.tablesSound) (hprogram : s.tables.commit.any (·.program) = true) :
    s.installProgram.tablesSound := by
  obtain ⟨c, hcommit, hc⟩ := (Option.any_eq_true _ _).mp hprogram
  refine State.tablesSound_of_store ((s.tablesSound_iff.mp h).installProgram (fun d hd => ?_) ?_)
  · rw [hcommit] at hd
    cases hd
    exact hc
  · rw [hcommit]
    exact Option.some_ne_none c

theorem State.switchProgram_sound (h : s.tablesSound) : s.switchProgram.tablesSound := by
  unfold State.switchProgram
  split
  next hprogram => exact State.installProgram_sound h hprogram
  · exact h

theorem State.switchAtHold_sound (h : s.tablesSound) : s.switchAtHold.tablesSound :=
  State.switchProgram_sound (State.switchFrameSide_sound h)

theorem State.endCommit_sound (h : s.tablesSound) : s.endCommit.tablesSound := by
  unfold State.endCommit
  split
  · exact h
  next c hcommit =>
    split
    next hover =>
      refine State.tablesSound_of_store ?_
      rw [State.done_tables, State.done_gestures]
      refine (s.tablesSound_iff.mp h).endCommit (fun d hd => ?_) _
      rw [hcommit] at hd
      cases hd
      exact hover.2
    · exact h

theorem State.endCommit_noticeRises_sound (h : s.tablesSound) (before : State) :
    (State.noticeRises before s).endCommit.tablesSound :=
  State.endCommit_sound (State.tablesSound_of_same h (by simp) (by simp))

/-- The frame-side switch leaves what PROGRAM has still to do. -/
theorem State.switchFrameSide_program : s.switchFrameSide.tables.commit.map CommitRecord.program =
    s.tables.commit.map CommitRecord.program := by
  unfold State.switchFrameSide
  split
  next hcommit => rw [hcommit]
  next c hcommit =>
    split
    · rfl
    · simp only [apply_ite State.tables, State.applyEntry_tables, ite_self, hcommit, Option.map_some]

/-- An accepted commit switches at once what it may, and PROGRAM waits for its switch out of HOLD (R167). -/
theorem State.switchAtCommit_sound (h : s.tablesSound) {c : CommitRecord} (hcommit : s.tables.commit = some c)
    (hprogram : c.program = s.tables.dirty.program) : s.switchAtCommit.tablesSound := by
  unfold State.switchAtCommit
  split
  · exact State.switchAtHold_sound h
  · dsimp only
    have hside : (if s.engine.op.isNone then s.switchFrameSide else s).tablesSound := by
      split
      · exact State.switchFrameSide_sound h
      · exact h
    have hkept : (if s.engine.op.isNone then s.switchFrameSide else s).tables.commit.map CommitRecord.program =
        some c.program := by
      split
      · rw [State.switchFrameSide_program, hcommit]
        rfl
      · rw [hcommit]
        rfl
    generalize (if s.engine.op.isNone then s.switchFrameSide else s) = x at hside hkept
    obtain ⟨hactive, hlength, -, hrest⟩ := x.tablesSound_iff.mp hside
    refine State.tablesSound_of_store ⟨hactive, hlength, fun hwaits => ?_, hrest⟩
    obtain ⟨d, hd, hdprogram⟩ := Option.map_eq_some_iff.mp hkept
    exact ⟨d, hd, (hdprogram.trans hprogram).trans hwaits⟩

theorem State.takeCommit_sound (h : s.tablesSound) (tag : Byte) : (s.takeCommit tag).tablesSound := by
  unfold State.takeCommit
  split
  · exact State.tablesSound_of_same h (by simp) (by simp)
  next hpending =>
    split
    · exact State.tablesSound_of_same h (by simp) (by simp)
    · split
      · exact State.tablesSound_of_same h (by simp) (by simp)
      next hvalid =>
        have haccepted : (s.acceptCommit tag).tablesSound :=
          State.tablesSound_of_store ((s.tablesSound_iff.mp h).accept (by simpa using hpending) hvalid tag _)
        exact State.endCommit_noticeRises_sound (State.switchAtCommit_sound haccepted rfl rfl) s

/-! ## The other commands -/

theorem State.completeOperation_sound (h : s.tablesSound) (o : Operation) : (s.completeOperation o).tablesSound :=
  State.endCommit_noticeRises_sound
    (State.switchFrameSide_sound (State.tablesSound_of_same h (by simp) (by simp))) _

theorem State.completeProgramSwitch_sound (h : s.tablesSound) (hwaits : s.gestures.switchWaiting = true) :
    (State.noticeRises s s.cancelContexts.installProgram).endCommit.tablesSound := by
  obtain ⟨c, hcommit, hprogram⟩ := (s.tablesSound_iff.mp h).waiting hwaits
  refine State.endCommit_noticeRises_sound (State.installProgram_sound (State.tablesSound_of_same h (by simp) (by simp)) ?_) _
  rw [State.cancelContexts_tables]
  exact (Option.any_eq_true _ _).mpr ⟨c, hcommit, hprogram⟩

theorem State.completeStop_sound (h : s.tablesSound) : s.completeStop.tablesSound :=
  State.tablesSound_of_same (State.endCommit_noticeRises_sound (s := (s.generalCancel.setPart .hold).switchAtHold)
    (State.switchAtHold_sound (State.tablesSound_of_same h (by simp) (by simp))) s) (by simp [State.completeStop])
    (by simp [State.completeStop])

theorem State.abortAll_sound (h : s.tablesSound) : s.abortAll.tablesSound :=
  State.endCommit_noticeRises_sound (State.switchAtHold_sound (State.tablesSound_of_same h (by simp)
    (by simp [State.windUp, State.windDown, State.abortStores, State.abortTracks, State.abortEngine]))) _

theorem State.takeAbort_sound (h : s.tablesSound) (tag : Byte) : (s.takeAbort tag).tablesSound := by
  unfold State.takeAbort
  split
  · exact State.tablesSound_of_same h (by simp) (by simp)
  all_goals exact State.tablesSound_of_same (State.abortAll_sound h) (by simp) (by simp)

theorem State.runMgmt_sound (h : s.tablesSound) (m : Mgmt) : (s.runMgmt m).tablesSound := by
  cases m
  case load => exact State.takeLoad_sound h _ _ _ _ _
  case discard => exact State.takeDiscard_sound h _
  case commit => exact State.takeCommit_sound h _
  case abort => exact State.takeAbort_sound h _
  case reset => exact State.tablesSound_of_store TableStore.sound_reset
  all_goals exact State.tablesSound_of_same h (by simp [State.runMgmt]) (by simp [State.runMgmt])

theorem State.takeWrite_sound (h : s.tablesSound) {f : State → State}
    (hf : ∀ s : State, s.tablesSound → (f s).tablesSound) : (s.takeWrite f).tablesSound := by
  obtain ⟨-, heq⟩ | ⟨-, -, heq⟩ | ⟨-, -, heq⟩ := s.takeWrite_cases f <;> rw [heq]
  · exact h
  · exact hf _ h
  · exact State.tablesSound_of_same h (by simp) (by simp)

theorem State.unlessHeld_sound (h : s.tablesSound) {f : State → State} (hf : (f s).tablesSound) :
    (s.unlessHeld f).tablesSound := by
  obtain ⟨-, heq⟩ | ⟨-, heq⟩ := s.unlessHeld_cases f <;> rw [heq]
  · exact h
  · exact hf

theorem State.takeRecord_sound (h : s.tablesSound) (record : List Byte) : (s.takeRecord record).tablesSound := by
  unfold State.takeRecord
  split
  · exact State.runMgmt_sound h _
  · exact h

theorem exec_sound (h : s.tablesSound) (i : Instr) : ∃ t, exec i s = .next t ∧ t.tablesSound := by
  cases i
  all_goals refine ⟨_, rfl, ?_⟩
  case load => exact State.takeWrite_sound h fun _ hs => State.takeLoad_sound hs _ _ _ _ _
  case discard => exact State.takeWrite_sound h fun _ hs => State.takeDiscard_sound hs _
  case commit => exact State.takeWrite_sound h fun _ hs => State.takeCommit_sound hs _
  case abort => exact State.takeWrite_sound h fun _ hs => State.takeAbort_sound hs _
  case reset => exact State.takeWrite_sound h fun _ _ => State.tablesSound_of_store TableStore.sound_reset
  case check | run | stop | postureCode | postureAngle | postureBadForm | recal | watch | unwatch | clear
      | unknownCommand | queryCondition | queryTrackTable | queryContexts | queryPen | queryPosture
      | queryBaselineRow | queryTableRange | queryBadSelector =>
    exact State.takeWrite_sound h fun _ hs => State.tablesSound_of_same hs (by simp) (by simp)
  case writeTransfer =>
    split
    · exact State.takeWrite_sound h fun _ hs => State.takeRecord_sound hs _
    · exact State.unlessHeld_sound h (State.tablesSound_of_same h (by simp) (by simp))
  case frameOperationComplete =>
    split
    · exact h
    · split
      · exact h
      · split
        · exact h
        · exact State.completeOperation_sound h _
  case heldOperationComplete =>
    split
    · exact h
    · split
      · exact State.completeOperation_sound h _
      · exact h
  case programSwitch =>
    split
    next hdue => exact State.completeProgramSwitch_sound h (by
      simp only [State.switchDue, Bool.and_eq_true] at hdue
      exact hdue.1.1)
    · exact h
  case stopComplete =>
    split
    · exact State.completeStop_sound h
    · exact h
  case powerOn => split <;> exact State.tablesSound_of_store TableStore.sound_reset
  case resetPinAssert =>
    split
    · exact h
    · exact State.tablesSound_of_store TableStore.sound_reset
  case resetPinRelease =>
    split
    · exact State.tablesSound_of_store TableStore.sound_reset
    · exact h
  case frameStart | rowRecord | frameEnd | readTransfer | readEndedEarly | badTransferKind =>
    exact State.unlessHeld_sound h (State.tablesSound_of_same h (by simp) (by simp))
  case penSample =>
    exact State.unlessHeld_sound h (State.tablesSound_of_same h (by simp [apply_ite State.tables])
      (by simp [apply_ite State.gestures, apply_ite Gestures.switchWaiting]))
  case unknownScanRecord => exact h
  case frameTimeout | frameOperationBegin | palmMemoryExpiry | penGuardExpiry | timerDeadlineReached
      | timerExpiryTaken | digestTaken | penInkTaken | digestHandlingEnd =>
    repeat' split
    all_goals exact State.tablesSound_of_same h (by simp) (by simp)

theorem State.tablesSound_step (h : s.tablesSound) (hstep : step s = .next t) : t.tablesSound := by
  unfold step at hstep
  split at hstep
  · cases hstep
    exact State.tablesSound_of_same h (by simp [State.tick, apply_ite State.tables])
      (by simp [State.tick, apply_ite State.gestures])
  next i rest hpending =>
    obtain ⟨t', heq, hsound⟩ := exec_sound (s := { s with pending := rest }) h i
    obtain rfl : t' = t := Host.Outcome.next.inj (heq.symm.trans hstep)
    exact hsound

/-- Settles O50. -/
theorem activeTablesStayValid : Obligations.ActiveTablesStayValid := fun _ _ h hstep => State.tablesSound_step h hstep

end

end Sys2Proof.Machine

/-! A context's claims keep to its template's maximum (R121, R122), through every step. -/

namespace Sys2Proof.Machine

/-! ## Claims and the active templates -/

/-- A context claims no more tracks than its template's maximum (R122). -/
def State.claimsFit (s : State) : Prop :=
  ∀ k c, s.context k = some c → c.claims.length ≤ (s.tables.active.template c.template).maxTracks

/-- A valid program's templates claim at most five tracks (R121, R164). -/
theorem maxTracks_le {t : Tables} (h : validateKind t .program = none) (i : Nat) : (t.template i).maxTracks ≤ 5 := by
  unfold Tables.template
  by_cases hi : i < t.templates.length
  case neg => simp [List.getD, List.getElem?_eq_none (Nat.not_lt.mp hi), noTemplate]
  have hchecks : firstFailing (templateChecks t.templates t.rows.length t.templates[i] i) = none := by
    have hall := List.findSome?_eq_none_iff.mp (Option.or_eq_none_iff.mp h).1 (t.templates[i], i)
      (List.mk_mem_zipIdx_iff_getElem?.mpr (List.getElem?_eq_getElem hi))
    simpa using hall
  have htracks := List.find?_eq_none.mp (Option.map_eq_none_iff.mp hchecks)
    (.tracks, decide (t.templates[i].maxTracks < 1 ∨ 5 < t.templates[i].maxTracks)) (by simp [templateChecks])
  simp only [decide_eq_true_eq, not_or, Nat.not_lt] at htracks
  simpa [List.getD, List.getElem?_eq_getElem hi] using htracks.2

section
variable {held plain : Prop} {s t : State}

theorem State.claimsWithin_of_fit (h : s.claimsFit) (hsound : s.tablesSound) : s.claimsWithin := fun k c hc =>
  ⟨h k c hc, (h k c hc).trans (maxTracks_le (hsound.1.2 .program) _)⟩

/-- Contexts whose claims have not grown, under the same templates. -/
theorem State.claimsFit_of (h : s.claimsFit) (htemplates : t.tables.active.templates = s.tables.active.templates)
    (hcontext : ∀ k d, t.context k = some d → d.claims = [] ∨
      ∃ c, s.context k = some c ∧ d.template = c.template ∧ d.claims.length ≤ c.claims.length) : t.claimsFit := by
  intro k d hd
  obtain hempty | ⟨c, hc, htemplate, hle⟩ := hcontext k d hd
  · simp [hempty]
  · rw [Tables.template, htemplates, htemplate]
    exact hle.trans (h k c hc)

theorem State.claimsFit_of_same (h : s.claimsFit) (htemplates : t.tables.active.templates = s.tables.active.templates)
    (hcontexts : t.gestures.contexts = s.gestures.contexts) : t.claimsFit :=
  State.claimsFit_of h htemplates fun k d hd =>
    .inr ⟨d, (State.context_of_gestures hcontexts k).symm.trans hd, rfl, Nat.le_refl _⟩

theorem State.claimsFit_of_idle (h : s.idle) : s.claimsFit := fun k _ hc =>
  nomatch (State.idle_iff.mp h k).symm.trans hc

theorem State.context_placeClaims (d : Digest) (k : Nat) : (s.placeClaims d).context k = (s.context k).map fun c =>
    if s.ofSurface d.surface c then { c with claims := c.claims.map (ClaimEntry.place d.positions) } else c := by
  rw [State.context_eq, State.context_eq]
  simp only [State.placeClaims, List.getElem?_map]
  cases s.gestures.contexts[k]? <;> rfl

theorem EngineMove.claimsFit (hmove : EngineMove held s t) (h : s.claimsFit) : t.claimsFit := by
  have htemplates : t.tables.active.templates = s.tables.active.templates := by
    obtain ⟨-, -, -, -, -, -, -, -, -, -, -, -, -, -, -, htables, -⟩ := hmove.keeps
    rw [htables]
  cases hmove with
  | gesture | snapshot | pointer => exact State.claimsFit_of_same h htemplates (by simp)
  | aside | releasePointer | setPointer | press | unpress | residues => exact State.claimsFit_of_same h htemplates rfl
  | edit k c d hc htemplate hserial hclaims =>
    refine State.claimsFit_of h htemplates fun j e he => .inr ?_
    rw [State.context_setContext_of_running hc] at he
    split at he
    next hj =>
      cases he
      have hlength := congrArg List.length hclaims
      simp only [List.length_map] at hlength
      exact ⟨c, hj ▸ hc, htemplate, hlength.le⟩
    · exact ⟨e, he, rfl, Nat.le_refl _⟩
  | place d =>
    refine State.claimsFit_of h htemplates fun j e he => .inr ?_
    rw [State.context_placeClaims] at he
    obtain ⟨c, hc, rfl⟩ := Option.map_eq_some_iff.mp he
    refine ⟨c, hc, ?_⟩
    split
    · exact ⟨rfl, (List.length_map _).le⟩
    · exact ⟨rfl, Nat.le_refl _⟩
  | claim k c x e hc hnew hroom =>
    have hputs : (s.putTrack e.track.slot (some { x with owner := some k })).context k = some c := hc
    intro j d hd
    rw [State.grant, State.context_setContext_of_running hputs] at hd
    split at hd
    · cases hd
      rw [List.length_append]
      exact hroom
    · exact h j d hd
  | giveUp k r =>
    refine State.claimsFit_of h htemplates fun j e he => .inr ?_
    rw [State.context_giveUp] at he
    split at he
    next hj =>
      obtain ⟨c, hc, rfl⟩ := Option.map_eq_some_iff.mp he
      exact ⟨c, hj ▸ hc, rfl, List.length_filter_le _ _⟩
    · exact ⟨e, he, rfl, Nat.le_refl _⟩
  | start k c hfree hclaims =>
    refine State.claimsFit_of h htemplates fun j e he => ?_
    rw [State.context_setContext] at he
    split at he
    · split at he
      · cases he
        exact .inl hclaims
      · cases he
    · exact .inr ⟨e, he, rfl, Nat.le_refl _⟩
  | finish k =>
    refine State.claimsFit_of h htemplates fun j e he => .inr ⟨e, ?_, rfl, Nat.le_refl _⟩
    rw [State.context_setContext] at he
    split at he
    · split at he <;> cases he
    · exact he

theorem Move.claimsFit (hmove : Move held True s t) (h : s.claimsFit) : t.claimsFit := by
  have hinner {l : Inner} (heq : t.inner = l) (htemplates : l.templates = s.inner.templates)
      (hcontexts : l.contexts = s.inner.contexts) : t.claimsFit :=
    State.claimsFit_of_same h ((congrArg Inner.templates heq).trans htemplates)
      ((congrArg Inner.contexts heq).trans hcontexts)
  cases hmove with
  | engine hmove => exact hmove.claimsFit h
  | contact | unsent => exact State.claimsFit_of_same h (by simp) (by simp)
  | dropInHand => exact State.claimsFit_of_same h rfl rfl
  | quiet heq | shed _ heq | working _ _ _ _ heq | expire _ heq | watch _ _ heq => exact hinner heq rfl rfl
  | store l heq hl =>
    obtain hsame | hidle := hl trivial
    · exact hinner heq hsame rfl
    · exact State.claimsFit_of_idle (State.idle_of_contexts (congrArg Inner.contexts heq) hidle)

theorem Opened.claimsFit (hopened : Opened s t) (h : s.claimsFit) : t.claimsFit := by
  cases hopened with
  | same => exact h
  | begun o hidle hsnap heq =>
    exact State.claimsFit_of_same h (congrArg Inner.templates heq) (congrArg Inner.contexts heq)
  | dropped => exact State.claimsFit_of_same h rfl rfl
  | live o f hop =>
    refine State.claimsFit_of h ?_ fun k d hd => .inr ?_
    · exact congrArg (fun x : TableStore => x.active.templates)
        (foldl_keeps _ State.tables (fun x _ => x.forceRelease_tables _ _ _) _ (s.setOp none))
    · have hreleased : ((s.setOp none).releases o.surface (liveWork o.snap o.surface f)).context k = some d := hd
      rw [State.context_releases] at hreleased
      obtain ⟨c, hc, rfl⟩ := Option.map_eq_some_iff.mp hreleased
      exact ⟨c, hc, rfl, List.length_filter_le _ _⟩
  | closed o key out hop =>
    unfold State.closeSettled
    split <;> exact State.claimsFit_of_same h rfl rfl
  | wound => exact State.claimsFit_of_same h rfl rfl

theorem State.idle_atReset (cause : ResetCause) (b : Bool) (q : List Instr) : (State.atReset cause b q).idle :=
  fun _ hc => List.eq_of_mem_replicate hc

theorem Effect.claimsFit (heffect : Effect held True s t) (h : s.claimsFit) : t.claimsFit := by
  cases heffect with
  | moves a hopened hmoves => exact hmoves.keep (fun _ _ hmove => hmove.claimsFit) (hopened.claimsFit h)
  | afterReset cause heq => rw [heq]; exact State.claimsFit_of_idle (State.idle_atReset cause false s.pending)
  | atReset cause heq => rw [heq]; exact State.claimsFit_of_idle (State.idle_atReset cause true s.pending)

/-- A context's claims keep to its template's maximum and to five. -/
theorem State.claimsWithin_step (hlists : s.listsWithin) (hwinding : s.windingSound) (hsound : s.tablesSound)
    (h : s.claimsWithin) (hstep : step s = .next t) : t.claimsWithin := by
  obtain ⟨-, -, -, -, -, hcontexts, -⟩ := State.listsWithin_iff.mp hlists
  obtain ⟨rest, heffect⟩ := effect_of_step (held := False) (plain := True)
    ⟨False.elim, fun _ => ⟨hcontexts, fun hhold => (hwinding.1 hhold).2.1, fun c hc => (hsound.2.2.2 c hc).2.2⟩⟩ hstep
  exact State.claimsWithin_of_fit (heffect.claimsFit fun k c hc => (h k c hc).1) (State.tablesSound_step hsound hstep)

end

end Sys2Proof.Machine

/-! The tracks bound to palm entries through a completion's decisions (R78 to R83). -/

namespace Sys2Proof.Machine

/-- The bound tracks of a memory are bound once, each to an entry of its surface, and satisfy a test. -/
def boundTo (S : TrackRef → Prop) (m : List PalmEntry) : Prop :=
  (∀ e ∈ m, ∀ r ∈ e.bound, slotSurface r.slot = e.surface ∧ S r) ∧ (m.flatMap PalmEntry.bound).Nodup

section
variable {S S' : TrackRef → Prop} {m m' front back : List PalmEntry} {e : PalmEntry} {r : TrackRef} {u : Surface}

theorem boundTo.mono (h : boundTo S m) (hS : ∀ r, S r → S' r) : boundTo S' m :=
  ⟨fun e he r hr => (h.1 e he r hr).imp_right (hS r), h.2⟩

theorem boundTo.mem (h : boundTo S m) {x : TrackRef} (hx : x ∈ m.flatMap PalmEntry.bound) : S x := by
  obtain ⟨e, he, hr⟩ := List.mem_flatMap.mp hx
  exact (h.1 e he x hr).2

theorem boundTo_perm (hperm : m.Perm m') (h : boundTo S m) : boundTo S m' :=
  ⟨fun e he => h.1 e (hperm.mem_iff.mpr he), (hperm.flatMap_right _).nodup_iff.mp h.2⟩

theorem boundTo_cons : boundTo S (e :: m) ↔ (∀ r ∈ e.bound, slotSurface r.slot = e.surface ∧ S r) ∧ e.bound.Nodup ∧
    (∀ r ∈ e.bound, r ∉ m.flatMap PalmEntry.bound) ∧ boundTo S m := by
  simp only [boundTo, List.forall_mem_cons, List.flatMap_cons, List.nodup_append']
  simp only [List.Disjoint]
  tauto

theorem boundTo_sublist (hsub : m'.Sublist m) (h : boundTo S m) : boundTo S m' :=
  ⟨fun e he => h.1 e (hsub.subset he), h.2.sublist (hsub.flatMap _)⟩

theorem boundTo_rest (h : boundTo S (front ++ e :: back)) : boundTo S (front ++ back) :=
  boundTo_sublist ((List.Sublist.refl front).append (List.sublist_cons_self e back)) h

/-- Binding a track that is not bound yet to an entry of its surface, which comes to the head. -/
theorem boundTo_bind (h : boundTo S (front ++ e :: back)) (hsurface : slotSurface r.slot = e.surface) (hnew : ¬ S r) :
    boundTo (fun x => S x ∨ x = r) (e.bind r :: (front ++ back)) := by
  obtain ⟨he, hnodup, hapart, hrest⟩ := boundTo_cons.mp (boundTo_perm List.perm_middle h)
  refine boundTo_cons.mpr ⟨fun x hx => ?_, ?_, fun x hx hmem => ?_, hrest.mono fun x hx => .inl hx⟩
  · obtain hx | hx := List.mem_append.mp hx
    · exact (he x hx).imp_right .inl
    · rw [List.mem_singleton.mp hx]
      exact ⟨hsurface, .inr rfl⟩
  · exact List.nodup_append'.mpr ⟨hnodup, List.nodup_singleton r, fun x hx hxr =>
      hnew (List.mem_singleton.mp hxr ▸ (he x hx).2)⟩
  · obtain hx | hx := List.mem_append.mp hx
    · exact hapart x hx hmem
    · exact hnew (List.mem_singleton.mp hx ▸ hrest.mem hmem)

theorem boundTo_fresh (h : boundTo S m) (box : Box) (hsurface : slotSurface r.slot = u) (hnew : ¬ S r) :
    boundTo (fun x => S x ∨ x = r) ({ surface := u, box := box, bound := [r], deadline := none } :: m) := by
  refine boundTo_cons.mpr ⟨fun x hx => ?_, List.nodup_singleton r, fun x hx hmem => ?_, h.mono fun x hx => .inl hx⟩
  · rw [List.mem_singleton.mp hx]
    exact ⟨hsurface, .inr rfl⟩
  · exact hnew (List.mem_singleton.mp hx ▸ h.mem hmem)

/-! ## The four steps -/

theorem boundTo_unbind {deadline : Option Time} (h : boundTo S m) :
    boundTo (fun x => S x ∧ x ≠ r) (m.filterMap (unbindFrom deadline r)) := by
  refine ⟨fun e' he' x hx => ?_, ?_⟩
  · obtain ⟨e, he, heq⟩ := List.mem_filterMap.mp he'
    obtain ⟨hsurface, -, hbound, -⟩ := unbindFrom_spec heq
    obtain ⟨hmem, hne⟩ := hbound x hx
    rw [hsurface]
    exact (h.1 e he x hmem).imp_right fun hS => ⟨hS, hne⟩
  · have hsub (l : List PalmEntry) : ((l.filterMap (unbindFrom deadline r)).flatMap PalmEntry.bound).Sublist
        (l.flatMap PalmEntry.bound) := by
      induction l with
      | nil => exact .refl _
      | cons e l ih =>
        cases heq : unbindFrom deadline r e with
        | none =>
          rw [List.filterMap_cons_none heq, List.flatMap_cons]
          exact ih.trans (List.sublist_append_right _ _)
        | some e' =>
          obtain ⟨-, -, -, hbound, -⟩ := unbindFrom_spec heq
          rw [List.filterMap_cons_some heq, List.flatMap_cons, List.flatMap_cons]
          exact hbound.append ih
    exact h.2.sublist (hsub m)

/-- No track that left its binding stays bound (R80). -/
theorem boundTo_unbound {deadline : Option Time} {before after : List (Option Track)} (h : boundTo S m) :
    boundTo (fun x => S x ∧ x ∉ unboundTracks u before after) (palmUnbound u deadline before after m) := by
  unfold palmUnbound
  generalize unboundTracks u before after = rs
  induction rs generalizing m S with
  | nil => exact h.mono fun x hx => ⟨hx, List.not_mem_nil⟩
  | cons r rs ih =>
    refine (ih (boundTo_unbind (r := r) h)).mono fun x hx => ?_
    obtain ⟨⟨hS, hne⟩, hnot⟩ := hx
    exact ⟨hS, fun hmem => (List.mem_cons.mp hmem).elim hne hnot⟩

theorem hitFold_passed (hits : List (TrackRef × PalmEntry)) (acc : List PalmEntry × List TrackRef) {x : TrackRef}
    (hx : x ∈ (hits.foldl hitOne acc).2) : x ∈ acc.2 ∨ x ∈ hits.map Prod.fst := by
  induction hits generalizing acc with
  | nil => exact .inl hx
  | cons h hits ih =>
    rw [List.foldl_cons] at hx
    obtain hx | hx := ih _ hx
    · unfold hitOne at hx
      split at hx
      · exact .inl hx
      · refine (List.mem_append.mp hx).imp_right fun hx => ?_
        rw [List.mem_singleton.mp hx]
        exact List.mem_cons_self
    · exact .inr (List.mem_cons_of_mem _ hx)

/-- The hit tracks that are not passed on are bound (R81). -/
theorem boundTo_hitFold (hits : List (TrackRef × PalmEntry)) (acc : List PalmEntry × List TrackRef)
    (h : boundTo S acc.1) (hnodup : (hits.map Prod.fst).Nodup)
    (hhits : ∀ h ∈ hits, slotSurface h.1.slot = h.2.surface ∧ ¬ S h.1 ∧ h.1 ∉ acc.2) :
    boundTo (fun x => S x ∨ (x ∈ hits.map Prod.fst ∧ x ∉ (hits.foldl hitOne acc).2)) (hits.foldl hitOne acc).1 := by
  induction hits generalizing acc S with
  | nil => exact h.mono fun x hx => .inl hx
  | cons hit hits ih =>
    obtain ⟨r, hitEntry⟩ := hit
    obtain ⟨hfirst, hrest⟩ := List.forall_mem_cons.mp hhits
    obtain ⟨hsurface, hnew, hnotPassed⟩ := hfirst
    rw [List.map_cons, List.nodup_cons] at hnodup
    obtain ⟨hr, hnodup⟩ := hnodup
    have hother {x : TrackRef × PalmEntry} (hx : x ∈ hits) : x.1 ≠ r := fun heq =>
      hr (List.mem_map.mpr ⟨x, hx, heq⟩)
    rw [List.foldl_cons]
    obtain hno | ⟨front, e, back, hm, he, hfront⟩ := first_cases (isHit hitEntry) acc.1
    · rw [hitOne_of_none hno]
      refine (ih (acc.1, acc.2 ++ [r]) h hnodup fun x hx => ?_).mono fun x hx => ?_
      · obtain ⟨hs, hn, hp⟩ := hrest x hx
        exact ⟨hs, hn, fun hmem => (List.mem_append.mp hmem).elim hp fun hmem =>
          hother hx (List.mem_singleton.mp hmem)⟩
      · exact hx.imp_right fun ⟨hx, hnot⟩ => ⟨List.mem_cons_of_mem _ hx, hnot⟩
    · rw [hitOne_of_first hm he hfront]
      obtain ⟨hesurface, -⟩ := isHit_iff.mp he
      have hbound := boundTo_bind (hm ▸ h) (hsurface.trans hesurface.symm) hnew
      refine (ih (e.bind r :: (front ++ back), acc.2) hbound hnodup fun x hx => ?_).mono fun x hx => ?_
      · obtain ⟨hs, hn, hp⟩ := hrest x hx
        exact ⟨hs, fun hS => hS.elim hn (hother hx), hp⟩
      · obtain (hS | rfl) | ⟨hmem, hnot⟩ := hx
        · exact .inl hS
        · refine .inr ⟨List.mem_cons_self, fun hpassed => ?_⟩
          exact (hitFold_passed _ _ hpassed).elim hnotPassed hr
        · exact .inr ⟨List.mem_cons_of_mem _ hmem, hnot⟩

theorem boundTo_placePalm (h : boundTo S m) (box : Box) (hsurface : slotSurface r.slot = u) (hnew : ¬ S r) :
    boundTo (fun x => S x ∨ x = r) (placePalm u box r m) := by
  have hkeep : boundTo S m ∧ boundTo (fun x => S x ∨ x = r) (placePalm u box r m) := by
    obtain hno | ⟨front, e, back, rfl, he, hfront⟩ := first_cases (PalmEntry.covers u box) m
    · rw [placePalm_of_none hno]
      split
      · exact ⟨h, boundTo_fresh h box hsurface hnew⟩
      · obtain hnone | ⟨front, e, back, rfl, hdrop⟩ := dropUnbound_cases m
        · rw [hnone]
          exact ⟨h, h.mono fun x hx => .inl hx⟩
        · rw [hdrop]
          exact ⟨h, boundTo_fresh (boundTo_rest h) box hsurface hnew⟩
    · rw [placePalm_of_first he hfront]
      exact ⟨h, boundTo_bind h (hsurface.trans (PalmEntry.covers_iff.mp he).1.symm) hnew⟩
  exact hkeep.2

/-- New palms that are not bound yet are bound (R82). -/
theorem boundTo_placed (ps : List (TrackRef × Box)) (h : boundTo S m) (hnodup : (ps.map Prod.fst).Nodup)
    (hps : ∀ p ∈ ps, slotSurface p.1.slot = u ∧ ¬ S p.1) :
    boundTo (fun x => S x ∨ x ∈ ps.map Prod.fst) (ps.foldl (fun acc p => placePalm u p.2 p.1 acc) m) := by
  induction ps generalizing m S with
  | nil => exact h.mono fun x hx => .inl hx
  | cons p ps ih =>
    obtain ⟨⟨hsurface, hnew⟩, hrest⟩ := List.forall_mem_cons.mp hps
    rw [List.map_cons, List.nodup_cons] at hnodup
    obtain ⟨hp, hnodup⟩ := hnodup
    rw [List.foldl_cons]
    refine (ih (boundTo_placePalm h p.2 hsurface hnew) hnodup fun x hx => ?_).mono fun x hx => ?_
    · obtain ⟨hs, hn⟩ := hrest x hx
      exact ⟨hs, fun hS => hS.elim hn fun heq => hp (List.mem_map.mpr ⟨x, hx, heq⟩)⟩
    · obtain (hS | rfl) | hmem := hx
      · exact .inl hS
      · exact .inr List.mem_cons_self
      · exact .inr (List.mem_cons_of_mem _ hmem)

theorem boundTo_follow {slots : List (Option Track)} (h : boundTo S m) : boundTo S (m.map (followTracks u slots)) := by
  have hfollow (e : PalmEntry) : (followTracks u slots e).surface = e.surface ∧ (followTracks u slots e).bound = e.bound := by
    obtain hsame | ⟨-, -, box, heq⟩ := followTracks_cases u slots e
    · rw [hsame]
      exact ⟨rfl, rfl⟩
    · rw [heq]
      exact ⟨rfl, rfl⟩
  refine ⟨fun e' he' r hr => ?_, ?_⟩
  · obtain ⟨e, he, rfl⟩ := List.mem_map.mp he'
    obtain ⟨hsurface, hbound⟩ := hfollow e
    rw [hbound] at hr
    rw [hsurface]
    exact h.1 e he r hr
  · rw [List.flatMap_map]
    simp only [fun e => (hfollow e).2]
    exact h.2

theorem boundTo_merge (hmerge : mergeOnce u m = some m') (h : boundTo S m) : boundTo S m' := by
  obtain ⟨front, a, mid, b, back, rfl, ha, hb, -, rfl⟩ := mergeOnce_spec hmerge
  refine ⟨fun e he r hr => ?_, ?_⟩
  · have hall := h.1
    rw [List.mem_append, List.mem_cons, List.mem_append] at he
    obtain he | rfl | he | he := he
    · exact hall e (by simp [he]) r hr
    · obtain hr | hr := List.mem_append.mp hr
      · exact hall a (by simp) r hr
      · obtain ⟨hsurface, hS⟩ := hall b (by simp) r hr
        exact ⟨hsurface.trans (hb.trans ha.symm), hS⟩
    · exact hall e (by simp [he]) r hr
    · exact hall e (by simp [he]) r hr
  · have hperm : ((front ++ a.merge b :: (mid ++ back)).flatMap PalmEntry.bound).Perm
        ((front ++ a :: (mid ++ b :: back)).flatMap PalmEntry.bound) := by
      simp only [List.flatMap_append, List.flatMap_cons, PalmEntry.merge, List.append_assoc]
      refine (List.Perm.refl _).append ((List.Perm.refl _).append ?_)
      rw [← List.append_assoc, ← List.append_assoc (mid.flatMap _)]
      exact List.perm_append_comm.append (.refl _)
    exact hperm.nodup_iff.mpr h.2

/-- The tracks bound after a completion's palm decisions: of those bound before the ones that did not leave, the hit
tracks, and the new palms (R79 to R83). -/
theorem boundTo_palmAfter {hold : Nat} {now : Time} {before after : List (Option Track)}
    {hits : List (TrackRef × PalmEntry)} (h : boundTo S m)
    (hnodup : (hits.map Prod.fst).Nodup)
    (hhits : ∀ h ∈ hits, slotSurface h.1.slot = h.2.surface ∧ ¬ (S h.1 ∧ h.1 ∉ unboundTracks u before after))
    (hpalms : ∀ passed, ((newPalms u before after hits passed).map Prod.fst).Nodup ∧
      ∀ p ∈ newPalms u before after hits passed, slotSurface p.1.slot = u ∧
        ¬ (S p.1 ∧ p.1 ∉ unboundTracks u before after) ∧ (p.1 ∈ passed ∨ p.1 ∉ hits.map Prod.fst)) :
    boundTo (fun x => (S x ∧ x ∉ unboundTracks u before after) ∨ x ∈ hits.map Prod.fst ∨
      ∃ passed, x ∈ (newPalms u before after hits passed).map Prod.fst)
      (palmAfter u hold now before after hits m) := by
  have hunbound := boundTo_unbound (u := u) (deadline := palmDeadline hold now) (before := before) (after := after) h
  have hhit := boundTo_hitFold hits (palmUnbound u (palmDeadline hold now) before after m, []) hunbound hnodup
    fun h hh => ⟨(hhits h hh).1, (hhits h hh).2, List.not_mem_nil⟩
  rw [← hitStep_eq_foldl] at hhit
  obtain ⟨hnodup', hnew⟩ := hpalms (hitStep hits (palmUnbound u (palmDeadline hold now) before after m)).2
  have hplaced := boundTo_placed _ hhit hnodup' fun p hp => by
    obtain ⟨hsurface, hnot, hpassed⟩ := hnew p hp
    refine ⟨hsurface, fun hS => hS.elim hnot fun ⟨hmem, hno⟩ => ?_⟩
    exact hpassed.elim hno fun hno => hno hmem
  rw [palmAfter_eq]
  refine mergeAll_keep (P := boundTo _) (fun x x' hmerge hx => boundTo_merge hmerge hx) _ (boundTo_follow
    (hplaced.mono fun x hx => ?_))
  obtain (hS | ⟨hmem, -⟩) | hmem := hx
  · exact .inl hS
  · exact .inr (.inl hmem)
  · exact .inr (.inr ⟨_, hmem⟩)

end

end Sys2Proof.Machine

/-! The tracks bound to palm entries through every step, and O57 (R78, R80). -/

namespace Sys2Proof.Machine

/-! ## The tracks of a live frame that palm memory binds -/

section
variable {sn : Snapshot} {u : Surface} {f : ReadyFrame} {i : Nat}

theorem Track.open_iff {x : Track} : x.open_ = true ↔ ∀ cause, x.state ≠ .ended cause := by
  cases hstate : x.state <;> simp [Track.open_, Track.confirmed, hstate]

theorem Track.takesPart_of_open {x : Track} (h : x.open_ = true) : x.takesPart = true :=
  x.takesPart_iff.mpr (Track.open_iff.mp h)

theorem Track.matched_open {x : Track} (h : x.takesPart = true) (b : Blob) : (x.matched sn u b).open_ = true := by
  rw [Track.open_iff]
  obtain ⟨-, -, heq⟩ | ⟨hstate, -, heq⟩ | ⟨hstate, heq⟩ | ⟨-, heq⟩ := x.matched_cases sn u b (x.takesPart_iff.mp h) <;>
    rw [heq]
  · exact fun _ => by simp [Track.confirm]
  · exact fun _ => by simp [hstate]
  · exact fun _ => by simp [hstate]
  · exact fun _ => by simp

/-- A track that a frame without a match ends was ACTIVE or MISSING, and ends with cause LIFT (R55). -/
theorem Track.unmatched_ended {x y : Track} {lift : Nat} (h : x.unmatched lift = some y) (hopen : x.open_ = true)
    {cause : EndCause} (hended : y.state = .ended cause) : (x.state = .active ∨ x.state = .missing) ∧ y.state = .ended .lift := by
  cases hstate : x.state with
  | tentative =>
    rw [x.unmatched_of_tentative lift hstate] at h
    cases h
  | active =>
    rw [x.unmatched_of_active lift hstate] at h
    split at h <;> cases h
    · exact ⟨.inl rfl, rfl⟩
    · cases hended
  | missing =>
    rw [x.unmatched_of_missing lift hstate] at h
    split at h <;> cases h
    · exact ⟨.inr rfl, rfl⟩
    · exact nomatch hstate.symm.trans hended
  | ended cause' => exact absurd hstate (Track.open_iff.mp hopen cause')

/-- An open PALM track that does not leave its binding stays an open PALM track (R75, R80). -/
theorem liveWork_bound (hlatch : sn.tracks.latchSound) {x : Track} (hx : (sn.tracks.slots.get u)[i]? = some (some x))
    (hopen : x.open_ = true) (hpalm : x.cls = .palm)
    (hbound : unboundHere (some x) ((liveWork sn u f).after.getD i none) = false) :
    ∃ y, (liveWork sn u f).after[i]? = some (some y) ∧ y.id = x.id ∧ y.open_ = true ∧ y.cls = .palm ∧
      goesOn (some x) (some y) = true := by
  have htentative {e : Option Track} (hstate : x.state = .tentative) (hgone : goesOn (some x) e = false) :
      unboundHere (some x) e = true := (unboundHere_iff _ _).mpr ⟨x, rfl, .inr ⟨hstate, hgone⟩⟩
  obtain hsame | ⟨hfree, id, b, hopened⟩ := liveWork_slot sn u f i
  · rw [slotsMatched_getElem?, hx, Option.map_some] at hsame
    rw [List.getD_eq_getElem?_getD, hsame, Option.getD_some] at hbound
    cases hslot : slotAfter sn u (liveWork sn u f).extraction.blobs
      (associate (gateRadius sn.tables.tune) u (sn.tracks.slots.get u) (liveWork sn u f).extraction.blobs) i (some x) with
    | none =>
      rw [hslot] at hbound
      have hstate := ((slotAfter_eq_none_iff _).mp hslot x rfl).1
      exact nomatch hbound.symm.trans (htentative hstate (by simp [goesOn, sameTrack]))
    | some y =>
      rw [hslot] at hsame hbound
      obtain ⟨x', hx', hid, -, -, hkept⟩ := slotAfter_keeps _ _ _ _ _ hslot
      cases hx'
      have hgoes := (slotAfter_goesOn hslot).1
      have hlatched := TrackTable.latchSound_iff.mp hlatch u x (List.mem_of_getElem? hx)
      refine ⟨y, hsame, hid, ?_, hkept hlatched hpalm, hgoes⟩
      obtain ⟨x', hx', ⟨htakes, b, rfl⟩ | ⟨htakes, hmissed⟩ | ⟨-, rfl⟩⟩ := slotAfter_eq_some _ _ _ _ _ hslot <;> cases hx'
      · exact Track.matched_open htakes b
      · rw [Track.open_iff]
        intro cause hended
        obtain ⟨hstate, hlift⟩ := Track.unmatched_ended hmissed hopen hended
        exact absurd ((unboundHere_iff _ _).mpr ⟨x, rfl, .inl ⟨hstate, hgoes, by rw [Option.map_some, hlift]⟩⟩)
          (by simp [hbound])
      · exact hopen
  · rw [slotsMatched_getElem?, hx] at hfree
    have hstate := ((slotAfter_eq_none_iff _).mp (Option.some.inj hfree) x rfl).1
    rw [List.getD_eq_getElem?_getD, hopened, Option.getD_some] at hbound
    exact nomatch hbound.symm.trans (htentative hstate (by simp [goesOn, openedHere_openTrack]))

/-- A track that becomes PALM in a frame is open (R75). -/
theorem liveWork_becamePalm {y : Track} (hy : (liveWork sn u f).after[i]? = some (some y))
    (hpalm : becamePalm ((sn.tracks.slots.get u).getD i none) (some y) = true) : y.open_ = true := by
  obtain hsame | ⟨hfree, id, b, hopened⟩ := liveWork_slot sn u f i
  · rw [hy, slotsMatched_getElem?] at hsame
    obtain ⟨r, hr, hslot⟩ := Option.map_eq_some_iff.mp hsame.symm
    obtain ⟨x, rfl, hcase⟩ := slotAfter_eq_some _ _ _ _ _ hslot
    rw [List.getD_eq_getElem?_getD, hr, Option.getD_some, becamePalm_some] at hpalm
    obtain ⟨hcls, hnot⟩ := hpalm
    have hgoes := (slotAfter_goesOn hslot).1
    have hx : x.cls ≠ .palm := fun hx => hnot ⟨hgoes, congrArg some hx⟩
    obtain ⟨htakes, b, rfl⟩ | ⟨-, hmissed⟩ | ⟨-, rfl⟩ := hcase
    · exact Track.matched_open htakes b
    · obtain ⟨-, hsame, -⟩ := x.unmatched_eq_some _ hmissed
      exact absurd (hsame.symm.trans hcls) hx
    · exact absurd hcls hx
  · rw [hy] at hopened
    cases hopened
    obtain hstate | hstate := openTrack_state sn u f.time id b <;> simp [Track.open_, Track.confirmed, hstate]

theorem liveWork_before_length (hshaped : sn.tracks.shaped) : (liveWork sn u f).before.length = 10 :=
  TrackTable.shaped_get hshaped u

theorem map_fst_zip_sublist {α β : Type} : ∀ (l : List α) (m : List β), ((l.zip m).map Prod.fst).Sublist l
  | [], _ => .slnil
  | _ :: _, [] => List.nil_sublist _
  | _ :: l, _ :: m => (map_fst_zip_sublist l m).cons_cons _

/-- The tracks that a frame opens in catch areas, with the entries that caught them (R77). -/
theorem liveWork_hits : ∃ l : List (Nat × Blob), (l.map Prod.fst).Nodup ∧
    (∀ p ∈ l, ∃ id, (liveWork sn u f).after[p.1]? = some (some (openTrack sn u f.time id p.2))) ∧
    (liveWork sn u f).opening.hits = l.filterMap fun p => ((liveWork sn u f).after.getD p.1 none).bind fun y =>
      (palmHit sn u p.2.pos).map fun e => ((⟨u.firstSlot + p.1, y.id⟩ : TrackRef), e) := by
  have hfills := liveWork_fills sn u f
  refine ⟨_, ?_, fun p hp => ?_, hfills.hits⟩
  · exact (List.nodup_range.filter _).sublist (map_fst_zip_sublist _ _)
  · obtain ⟨n, hn⟩ := List.mem_iff_getElem?.mp hp
    obtain ⟨hplace, hblob⟩ := List.getElem?_zip_eq_some.mp hn
    exact hfills.taken n p.1 p.2 hplace hblob

/-- A hit track was opened in the frame, PALM, in a catch area of an entry of its surface (R77). -/
theorem liveWork_hit (hshaped : sn.tracks.shaped) {h : TrackRef × PalmEntry} (hh : h ∈ (liveWork sn u f).opening.hits) :
    ∃ i y, i < 10 ∧ h.1 = ⟨u.firstSlot + i, y.id⟩ ∧ h.2.surface = u ∧ (liveWork sn u f).after[i]? = some (some y) ∧
      openedHere (some y) = true ∧ y.open_ = true ∧ y.cls = .palm := by
  obtain ⟨l, -, htaken, hhits⟩ := liveWork_hits (sn := sn) (u := u) (f := f)
  rw [hhits] at hh
  obtain ⟨p, hp, heq⟩ := List.mem_filterMap.mp hh
  obtain ⟨id, hopened⟩ := htaken p hp
  rw [List.getD_eq_getElem?_getD, hopened, Option.getD_some, Option.bind_some] at heq
  obtain ⟨e, he, rfl⟩ := Option.map_eq_some_iff.mp heq
  have hsurface := List.find?_some he
  rw [catches_iff] at hsurface
  refine ⟨p.1, _, ?_, rfl, hsurface.1, hopened, openedHere_openTrack _ _ _ _ _, ?_, ?_⟩
  · rw [← liveWork_after_length hshaped u f]
    exact (List.getElem?_eq_some_iff.mp hopened).1
  · obtain hstate | hstate := openTrack_state sn u f.time id p.2 <;> simp [Track.open_, Track.confirmed, hstate]
  · simp [openTrack_eq, openClass, forcedAt, he]

theorem liveWork_hits_nodup : ((liveWork sn u f).opening.hits.map Prod.fst).Nodup := by
  obtain ⟨l, hnodup, -, hhits⟩ := liveWork_hits (sn := sn) (u := u) (f := f)
  rw [hhits, List.Nodup, List.pairwise_map, List.pairwise_filterMap]
  refine (List.pairwise_map.mp hnodup).imp fun {p q} hne x hx y hy heq => hne ?_
  obtain ⟨t, -, hx⟩ := Option.bind_eq_some_iff.mp hx
  obtain ⟨t', -, hy⟩ := Option.bind_eq_some_iff.mp hy
  obtain ⟨e, -, rfl⟩ := Option.map_eq_some_iff.mp hx
  obtain ⟨e', -, rfl⟩ := Option.map_eq_some_iff.mp hy
  exact Nat.add_left_cancel (congrArg TrackRef.slot heq)

/-- A new palm is an open PALM track that did not go on as one (R82). -/
theorem mem_newPalms (hshaped : sn.tracks.shaped) {hits : List (TrackRef × PalmEntry)} {passed : List TrackRef}
    {p : TrackRef × Box} (hp : p ∈ newPalms u (liveWork sn u f).before (liveWork sn u f).after hits passed) :
    ∃ i y, i < 10 ∧ p.1 = ⟨u.firstSlot + i, y.id⟩ ∧ (liveWork sn u f).after[i]? = some (some y) ∧ y.open_ = true ∧
      y.cls = .palm ∧ (∀ x, (sn.tracks.slots.get u)[i]? = some (some x) → goesOn (some x) (some y) = true → x.cls ≠ .palm) ∧
      (p.1 ∈ passed ∨ p.1 ∉ hits.map Prod.fst) := by
  rw [newPalms_eq (liveWork_before_length hshaped) (liveWork_after_length hshaped u f)] at hp
  obtain ⟨i, hi, heq⟩ := List.mem_filterMap.mp hp
  obtain ⟨y, hy, heq⟩ := Option.bind_eq_some_iff.mp heq
  dsimp only at heq
  split at heq
  next hcond =>
    cases heq
    obtain ⟨hcls, hnew, hpassed⟩ := hcond
    have hafter : (liveWork sn u f).after[i]? = some (some y) := by
      rw [List.getD_eq_getElem?_getD] at hy
      cases hget : (liveWork sn u f).after[i]? with
      | none => simp [hget] at hy
      | some r => simpa [hget] using hy
    refine ⟨i, y, List.mem_range.mp hi, rfl, hafter, ?_, hcls, fun x hx hgoes hpalm => hnew ?_, hpassed.imp_right fun hno hmem => ?_⟩
    · exact liveWork_becamePalm hafter ((becamePalm_some _ _).mpr ⟨hcls, hnew⟩)
    · have hbefore : (liveWork sn u f).before.getD i none = some x := by
        rw [List.getD_eq_getElem?_getD, show (liveWork sn u f).before = sn.tracks.slots.get u from rfl, hx]
        rfl
      rw [hbefore]
      exact ⟨hgoes, congrArg some hpalm⟩
    · obtain ⟨h, hh, heq⟩ := List.mem_map.mp hmem
      exact hno h hh heq
  · cases heq

theorem newPalms_nodup (hshaped : sn.tracks.shaped) (hits : List (TrackRef × PalmEntry)) (passed : List TrackRef) :
    ((newPalms u (liveWork sn u f).before (liveWork sn u f).after hits passed).map Prod.fst).Nodup := by
  rw [newPalms_eq (liveWork_before_length hshaped) (liveWork_after_length hshaped u f), List.Nodup, List.pairwise_map,
    List.pairwise_filterMap]
  refine List.nodup_range.imp fun {i j} hne x hx y hy heq => hne ?_
  obtain ⟨t, -, hx⟩ := Option.bind_eq_some_iff.mp hx
  obtain ⟨t', -, hy⟩ := Option.bind_eq_some_iff.mp hy
  obtain ⟨-, hx⟩ := Option.ite_none_right_eq_some.mp hx
  obtain ⟨-, hy⟩ := Option.ite_none_right_eq_some.mp hy
  cases hx
  cases hy
  exact Nat.add_left_cancel (congrArg TrackRef.slot heq)

end

/-! ## Every step -/

/-- A track ref names an open PALM track of a table (R80). -/
def TrackTable.bindable (t : TrackTable) (r : TrackRef) : Prop :=
  ∃ x, t.at r.slot = some x ∧ x.id = r.id ∧ x.open_ = true ∧ x.cls = .palm

/-- Ten slots of a surface bind ten tracks at most. -/
theorem boundTo_length {t : TrackTable} (hshaped : t.shaped) {m : List PalmEntry} (h : boundTo t.bindable m)
    {e : PalmEntry} (he : e ∈ m) : e.bound.length ≤ 10 := by
  have hnodup : e.bound.Nodup := (List.nodup_flatMap.mp h.2).1 e he
  have hplaces : ∀ n ∈ e.bound.map fun r => r.slot - e.surface.firstSlot, n < 10 := by
    intro n hn
    obtain ⟨r, hr, rfl⟩ := List.mem_map.mp hn
    obtain ⟨hsurface, x, hx, -⟩ := h.1 e he r hr
    rw [TrackTable.at_eq_some, hsurface] at hx
    have hlt := (List.getElem?_eq_some_iff.mp hx).1
    rwa [TrackTable.shaped_get hshaped] at hlt
  have hinj : (e.bound.map fun r => r.slot - e.surface.firstSlot).Nodup := by
    refine List.Nodup.map_on (fun r hr r' hr' heq => ?_) hnodup
    obtain ⟨hsurface, x, hx, hid, -⟩ := h.1 e he r hr
    obtain ⟨hsurface', x', hx', hid', -⟩ := h.1 e he r' hr'
    have hslot : r.slot = r'.slot := by rw [← firstSlot_place hsurface, heq, firstSlot_place hsurface']
    rw [hslot, hx'] at hx
    cases hx
    cases r
    cases r'
    simp_all
  have hle := hinj.length_le_of_subset (l₂ := List.range 10) fun n hn => List.mem_range.mpr (hplaces n hn)
  simpa using hle

section
variable {held plain : Prop} {s t : State}

theorem State.boundWithin_iff (hshaped : s.tracks.shaped) : s.boundWithin ↔ boundTo s.tracks.bindable s.palm :=
  ⟨fun ⟨hall, hnodup⟩ => ⟨fun e he => (hall e he).2, hnodup⟩,
    fun h => ⟨fun e he => ⟨boundTo_length hshaped h he, h.1 e he⟩, h.2⟩⟩

theorem TrackTable.carries.bindable {t t' : TrackTable} (h : t.carries t') {r : TrackRef} (hr : t.bindable r) :
    t'.bindable r := by
  obtain ⟨x, hx, hid, hopen, hpalm⟩ := hr
  obtain ⟨y, hy, hcarries⟩ := h.at_open hx hopen
  obtain ⟨hyid, -, hycls, -⟩ := id hcarries
  exact ⟨y, hy, hyid.trans hid, hcarries.open_.trans hopen, hycls.trans hpalm⟩

theorem Move.boundTo (hmove : Move held plain s t) (hshaped : s.tracks.shaped) (h : boundTo s.tracks.bindable s.palm) :
    boundTo t.tracks.bindable t.palm := by
  refine Machine.boundTo.mono (S := s.tracks.bindable) ?_ fun r => (hmove.carries hshaped).bindable
  have hinner {l : Inner} (heq : t.inner = l) (hl : l.palm.Sublist s.palm) : Machine.boundTo s.tracks.bindable t.palm :=
    boundTo_sublist ((show t.palm = l.palm from congrArg Inner.palm heq) ▸ hl) h
  cases hmove with
  | engine hmove =>
    obtain ⟨-, -, -, -, -, -, -, -, -, -, -, hpalm, -⟩ := hmove.keeps
    rwa [hpalm]
  | contact | unsent => simpa using h
  | dropInHand => exact h
  | expire i heq => exact hinner heq (List.eraseIdx_sublist _ _)
  | quiet heq | shed _ heq | working _ _ _ _ heq | watch _ _ heq | store _ heq => exact hinner heq (.refl _)

/-- A bound track of the surface in flight that does not leave its binding (R80). -/
theorem State.bindable_kept (hlatch : s.latchSound) (hholds : s.snapshotHolds) {o : Operation} (hop : s.engine.op = some o)
    (hsn : o.snap.tracks.shaped) {f : ReadyFrame} {r : TrackRef} (hr : s.tracks.bindable r)
    (hsurface : slotSurface r.slot = o.surface)
    (hstays : r ∉ unboundTracks o.surface (liveWork o.snap o.surface f).before (liveWork o.snap o.surface f).after) :
    ∃ x y, (o.snap.tracks.slots.get o.surface)[r.slot - o.surface.firstSlot]? = some (some x) ∧ x.cls = .palm ∧
      (liveWork o.snap o.surface f).after[r.slot - o.surface.firstSlot]? = some (some y) ∧ y.id = r.id ∧
      y.open_ = true ∧ y.cls = .palm ∧ goesOn (some x) (some y) = true := by
  obtain ⟨t, ht, htid, htopen, htpalm⟩ := hr
  obtain ⟨x, hx, hid, hstate, hcls⟩ := (State.snapshotHolds_at hholds hop hsurface).1 t ht
  rw [TrackTable.at_eq_some, hsurface] at hx
  have hopen : x.open_ = true := by rwa [Track.open_, Track.confirmed, hstate]
  have hpalm : x.cls = .palm := hcls.trans htpalm
  have hbound : unboundHere (some x)
      ((liveWork o.snap o.surface f).after.getD (r.slot - o.surface.firstSlot) none) = false := by
    by_contra hunbound
    rw [Bool.not_eq_false] at hunbound
    refine hstays (List.mem_filterMap.mpr ⟨(r.slot, some x,
      (liveWork o.snap o.surface f).after.getD (r.slot - o.surface.firstSlot) none), ?_, ?_⟩)
    · rw [slotChanges_eq (liveWork_before_length hsn) (liveWork_after_length hsn _ _)]
      refine List.mem_map.mpr ⟨r.slot - o.surface.firstSlot, List.mem_range.mpr ?_, ?_⟩
      · rw [← TrackTable.shaped_get hsn o.surface]
        exact (List.getElem?_eq_some_iff.mp hx).1
      · rw [firstSlot_place hsurface, List.getD_eq_getElem?_getD,
          show (liveWork o.snap o.surface f).before = o.snap.tracks.slots.get o.surface from rfl, hx]
        rfl
    · obtain ⟨slot, id⟩ := r
      dsimp only
      rw [if_pos hunbound, Option.map_some, hid.trans htid]
  obtain ⟨y, hy, hyid, hyopen, hypalm, hgoes⟩ := liveWork_bound (hlatch.2 o hop) hx hopen hpalm hbound
  exact ⟨x, y, hx, hpalm, hy, hyid.trans (hid.trans htid), hyopen, hypalm, hgoes⟩

/-- An open PALM track of a live frame, in the table that its completion leaves. -/
theorem liveTable_bindable {now : TrackTable} {sn : Snapshot} {u : Surface} {f : ReadyFrame} (hnow : now.shaped)
    (hsn : sn.tracks.shaped) {i : Nat} {y : Track} (hi : i < 10) (hy : (liveWork sn u f).after[i]? = some (some y))
    (hopen : y.open_ = true) (hpalm : y.cls = .palm) :
    (liveTable now u sn (liveWork sn u f)).bindable ⟨u.firstSlot + i, y.id⟩ := by
  have hbefore : i < (liveWork sn u f).before.length := (liveWork_before_length hsn).symm ▸ hi
  have hslots : i < (now.slots.get u).length := (TrackTable.shaped_get hnow u).symm ▸ hi
  have hslot := liveTable_getElem? (now := now) (u := u) (sn := sn) (liveWork sn u f) i
  rw [List.getElem?_eq_getElem hbefore, hy, List.getElem?_eq_getElem hslots] at hslot
  obtain ⟨z, hz, hcarries⟩ := finishSlot_of_some (n := slop sn.tables.tune) (b := (liveWork sn u f).before[i])
    (c := (now.slots.get u)[i]) (x := y)
  obtain ⟨hid, -, hcls, -⟩ := id hcarries
  refine ⟨z, ?_, hid, hcarries.open_.trans hopen, hcls.trans hpalm⟩
  rw [TrackTable.at_eq_some, slotSurface_firstSlot_add u hi, Nat.add_sub_cancel_left, hslot]
  exact congrArg some hz

theorem liveTable_bindable_other {now : TrackTable} {sn : Snapshot} {u : Surface} {w : LiveResult} {r : TrackRef}
    (hsurface : slotSurface r.slot ≠ u) (hr : now.bindable r) : (liveTable now u sn w).bindable r := by
  obtain ⟨x, hx, hrest⟩ := hr
  refine ⟨x, ?_, hrest⟩
  rwa [TrackTable.at_eq_some, liveTable_slots_other hsurface, ← TrackTable.at_eq_some]

/-- A live completion binds the hit tracks and the new palms, and keeps the tracks that stay (R79 to R83). -/
theorem State.boundTo_liveSettled (hlatch : s.latchSound) (hholds : s.snapshotHolds) (hshaped : s.tracks.shaped)
    {o : Operation} (hop : s.engine.op = some o) (hsn : o.snap.tracks.shaped) (f : ReadyFrame)
    (h : boundTo s.tracks.bindable s.palm) :
    boundTo ((s.setOp none).liveSettled o.surface o.snap f).tracks.bindable
      ((s.setOp none).liveSettled o.surface o.snap f).palm := by
  have hplace {i : Nat} (hi : i < 10) : slotSurface (o.surface.firstSlot + i) = o.surface := slotSurface_firstSlot_add _ hi
  have hkept {i : Nat} {y : Track} (hi : i < 10) (hy : (liveWork o.snap o.surface f).after[i]? = some (some y))
      (hr : s.tracks.bindable ⟨o.surface.firstSlot + i, y.id⟩ ∧ (⟨o.surface.firstSlot + i, y.id⟩ : TrackRef) ∉
        unboundTracks o.surface (liveWork o.snap o.surface f).before (liveWork o.snap o.surface f).after) :
      ∃ x, (o.snap.tracks.slots.get o.surface)[i]? = some (some x) ∧ x.cls = .palm ∧ goesOn (some x) (some y) = true := by
    obtain ⟨x, y', hx, hpalm, hy', -, -, -, hgoes⟩ := State.bindable_kept hlatch hholds hop hsn hr.1 (hplace hi) hr.2
    rw [Nat.add_sub_cancel_left] at hx hy'
    rw [hy] at hy'
    cases hy'
    exact ⟨x, hx, hpalm, hgoes⟩
  refine (boundTo_palmAfter h liveWork_hits_nodup (fun hit hhit => ?_) fun passed => ⟨newPalms_nodup hsn _ _, fun p hp => ?_⟩).mono
    fun r hr => ?_
  · obtain ⟨i, y, hi, hfst, hsurface, hy, hopened, -⟩ := liveWork_hit hsn hhit
    rw [hfst, hsurface]
    refine ⟨hplace hi, fun hr => ?_⟩
    obtain ⟨x, -, -, hgoes⟩ := hkept hi hy hr
    simp [goesOn, hopened] at hgoes
  · obtain ⟨i, y, hi, hfst, hy, -, -, hnew, hpassed⟩ := mem_newPalms hsn hp
    refine ⟨hfst ▸ hplace hi, fun hr => ?_, hpassed⟩
    rw [hfst] at hr
    obtain ⟨x, hx, hpalm, hgoes⟩ := hkept hi hy hr
    exact hnew x hx hgoes hpalm
  · obtain ⟨hr, hstays⟩ | hmem | ⟨passed, hmem⟩ := hr
    · by_cases hsurface : slotSurface r.slot = o.surface
      · obtain ⟨x, y, -, -, hy, hid, hopen, hpalm, -⟩ := State.bindable_kept hlatch hholds hop hsn hr hsurface hstays
        have hi : r.slot - o.surface.firstSlot < 10 := by
          rw [← liveWork_after_length hsn o.surface f]
          exact (List.getElem?_eq_some_iff.mp hy).1
        have hbindable := liveTable_bindable hshaped hsn hi hy hopen hpalm
        rwa [firstSlot_place hsurface, hid] at hbindable
      · exact liveTable_bindable_other hsurface hr
    · obtain ⟨hit, hhit, rfl⟩ := List.mem_map.mp hmem
      obtain ⟨i, y, hi, hfst, -, hy, -, hopen, hpalm⟩ := liveWork_hit hsn hhit
      rw [hfst]
      exact liveTable_bindable hshaped hsn hi hy hopen hpalm
    · obtain ⟨p, hp, rfl⟩ := List.mem_map.mp hmem
      obtain ⟨i, y, hi, hfst, hy, hopen, hpalm, -⟩ := mem_newPalms hsn hp
      rw [hfst]
      exact liveTable_bindable hshaped hsn hi hy hopen hpalm

theorem Opened.boundTo (hopened : Opened s t) (hlists : s.listsKept) (hlatch : s.latchSound) (hids : s.idsSound)
    (h : boundTo s.tracks.bindable s.palm) : boundTo t.tracks.bindable t.palm := by
  obtain ⟨-, hshaped, hops, -⟩ := hlists
  cases hopened with
  | same => exact h
  | begun o hidle hsnap heq =>
    have hpalm : t.palm = s.palm := (congrArg Inner.palm heq).trans rfl
    rw [hpalm]
    exact h.mono fun r => (State.tracks_of_inner ((congrArg Inner.slots heq).trans rfl)
      ((congrArg Inner.nextId heq).trans rfl)).bindable
  | dropped => exact h
  | live o f hop => exact State.boundTo_liveSettled hlatch hids.2.2 hshaped hop (hops o hop) f h
  | closed o key out hop =>
    unfold State.closeSettled
    have hcleared : Machine.boundTo (fun r => s.tracks.bindable r ∧ slotSurface r.slot ≠ o.surface)
        (s.palm.filter fun e => e.surface != o.surface) := by
      obtain ⟨hall, hnodup⟩ := boundTo_sublist List.filter_sublist h
      refine ⟨fun e he r hr => ?_, hnodup⟩
      obtain ⟨hsurface, hbindable⟩ := hall e he r hr
      refine ⟨hsurface, hbindable, ?_⟩
      rw [hsurface]
      simpa using (List.mem_filter.mp he).2
    split
    · refine hcleared.mono fun r ⟨⟨x, hx, hrest⟩, hsurface⟩ => ⟨x, ?_, hrest⟩
      rw [TrackTable.at_eq_some] at hx ⊢
      exact (congrArg (·[r.slot - (slotSurface r.slot).firstSlot]?)
        (tracksClosed_slots_other (sn := o.snap) (s.setOp none) hsurface key)).trans hx
    · exact hcleared.mono fun r hr => hr.1
  | wound => exact ⟨nofun, .nil⟩

theorem Effect.boundTo (heffect : Effect held plain s t) (hlists : s.listsKept) (hlatch : s.latchSound)
    (hids : s.idsSound) (h : boundTo s.tracks.bindable s.palm) : boundTo t.tracks.bindable t.palm := by
  cases heffect with
  | moves a hopened hmoves =>
    refine (hmoves.keep (P := fun x => x.tracks.shaped ∧ Machine.boundTo x.tracks.bindable x.palm)
      (fun _ _ hmove ⟨hshaped, hbound⟩ => ⟨(hmove.carries hshaped).shaped hshaped, hmove.boundTo hshaped hbound⟩)
      ⟨(hopened.listsKept hlists).2.1, hopened.boundTo hlists hlatch hids h⟩).2
  | afterReset cause heq => rw [heq]; exact ⟨nofun, .nil⟩
  | atReset cause heq => rw [heq]; exact ⟨nofun, .nil⟩

/-- The tracks bound to a palm entry stay ten at most, open PALM tracks of its surface, each bound once. -/
theorem State.boundWithin_step (hlists : s.listsWithin) (hlatch : s.latchSound) (hids : s.idsSound) (h : s.boundWithin)
    (hstep : step s = .next t) : t.boundWithin := by
  obtain ⟨-, hkept⟩ := State.listsWithin_iff.mp hlists
  obtain ⟨rest, heffect⟩ := effect_of_step s.ready_false hstep
  exact (State.boundWithin_iff (heffect.listsKept hkept).2.1).mpr
    (heffect.boundTo hkept hlatch hids ((State.boundWithin_iff hkept.2.1).mp h))

end

/-- Settles O57. -/
theorem listsStayWithinTheirCapacity : Obligations.ListsStayWithinTheirCapacity :=
  ⟨fun _ _ => State.listsWithin_step, fun _ _ => State.claimsWithin_step, fun _ _ => State.boundWithin_step⟩

end Sys2Proof.Machine

/-! What every operation does to the report queue and the waiting replies (R176 to R181). -/

namespace Sys2Proof.Machine

/-! ## The queue, the waiting replies, and the replies that a commit and a stop owe -/

/-- The report queue, the waiting replies, and whether a commit and a stop still owe their DONE. -/
structure Ports where
  queue : List Record
  waiting : List Record
  commit : Bool
  stop : Bool

def State.ports (s : State) : Ports :=
  { queue := s.queue, waiting := s.link.waiting, commit := s.tables.commit.isSome, stop := s.link.stopTag.isSome }

/-- The bounds of R176 and R179, but for the number of replies. -/
structure Ports.sound (p : Ports) : Prop where
  length : p.queue.length ≤ 32
  ordinary : ordinaryCount p.queue ≤ 28
  replies : ∀ r ∈ p.waiting, r.ordinary = false
  behind : p.queue.length < 32 → p.waiting = []

/-- How many replies wait or are owed (R179). -/
def Ports.owes (p : Ports) : Nat := p.waiting.length + p.commit.toNat + p.stop.toNat

/-- The bounds stay, and at most `n` more replies wait or are owed. -/
def Ports.leads (n : Nat) (p q : Ports) : Prop := p.sound → q.sound ∧ q.owes ≤ p.owes + n

theorem State.bounds_iff (s : State) : (s.queueWithin ∧ s.repliesWithin) ↔ s.ports.sound ∧ s.ports.owes ≤ 3 :=
  ⟨fun ⟨⟨hlength, hordinary, hreplies⟩, hbehind, howes⟩ => ⟨⟨hlength, hordinary, hreplies, hbehind⟩, howes⟩,
    fun ⟨⟨hlength, hordinary, hreplies, hbehind⟩, howes⟩ => ⟨⟨hlength, hordinary, hreplies⟩, hbehind, howes⟩⟩

namespace Ports
variable {n m : Nat} {p q r : Ports}

theorem leads.refl (p : Ports) : p.leads n p := fun h => ⟨h, Nat.le_add_right _ _⟩

theorem leads.of_eq (h : q = p) : p.leads n q := by
  rw [h]
  exact .refl p

theorem leads.trans (h : p.leads n q) (h' : q.leads m r) : p.leads (n + m) r := fun hp => by
  obtain ⟨hq, hle⟩ := h hp
  obtain ⟨hr, hle'⟩ := h' hq
  exact ⟨hr, by omega⟩

/-- A record that the queue has room for (R176, R177). -/
theorem leads.join (x : Record) (hroom : hasRoom p.queue = true) : p.leads n { p with queue := p.queue ++ [x] } := by
  rintro ⟨hlength, hordinary, hreplies, hbehind⟩
  rw [hasRoom_iff] at hroom
  refine ⟨⟨?_, ?_, hreplies, fun _ => hbehind hroom.2⟩, Nat.le_add_right _ _⟩
  · rw [List.length_append, List.length_singleton]
    omega
  · rw [ordinaryCount_append, ordinaryCount_cons]
    have hone : x.ordinary.toNat ≤ 1 := by cases x.ordinary <;> decide
    simp only [ordinaryCount, List.countP_nil] at hroom ⊢
    omega

/-- A NOTICE or a REPLY that the queue has a place for (R177). -/
theorem leads.place {x : Record} (hx : x.ordinary = false) (hplace : p.queue.length < 32) :
    p.leads n { p with queue := p.queue ++ [x] } := by
  rintro ⟨hlength, hordinary, hreplies, hbehind⟩
  refine ⟨⟨?_, ?_, hreplies, fun _ => hbehind hplace⟩, Nat.le_add_right _ _⟩
  · rw [List.length_append, List.length_singleton]
    omega
  · rw [ordinaryCount_append, ordinaryCount_cons, hx]
    exact hordinary

/-- Records exchanged, of the same number and as many ordinary ones. -/
theorem leads.swap {l : List Record} (hlength : l.length = p.queue.length)
    (hordinary : ordinaryCount l = ordinaryCount p.queue) : p.leads n { p with queue := l } := by
  rintro ⟨hle, hcount, hreplies, hbehind⟩
  exact ⟨⟨hlength ▸ hle, hordinary ▸ hcount, hreplies, fun hlt => hbehind (hlength ▸ hlt)⟩, Nat.le_add_right _ _⟩

end Ports

/-- A state leads to one with at most `n` more replies that wait or are owed. -/
def State.leads (s : State) (n : Nat) (t : State) : Prop := s.ports.leads n t.ports

section
variable {s t u : State} {n m : Nat}

theorem State.leads.refl (s : State) : s.leads n s := Ports.leads.refl _

theorem State.leads_of_ports (h : t.ports = s.ports) : s.leads n t := Ports.leads.of_eq h

theorem State.leads.trans (h : s.leads n t) (h' : t.leads m u) : s.leads (n + m) u := Ports.leads.trans h h'

/-- A step that adds no reply after others. -/
theorem State.leads.then (h : s.leads n t) (h' : t.leads 0 u) : s.leads n u := Ports.leads.trans h h'

theorem State.leads_ite {c : Prop} [Decidable c] (ht : s.leads n t) (hu : s.leads n u) :
    s.leads n (if c then t else u) := by
  split
  · exact ht
  · exact hu

end

section
variable (s : State) {n : Nat}

/-! ## Offers -/

theorem State.enqueue_ports (time : Time) (p : Payload) :
    (s.enqueue time p).ports = { s.ports with queue := s.queue ++ [⟨time, p, false⟩] } := rfl

theorem State.offerNotice_leads (x : Notice) : s.leads n (s.offerNotice x) := by
  obtain ⟨hplace, heq⟩ | ⟨-, heq⟩ := s.offerNotice_cases x <;> rw [heq]
  · exact Ports.leads.place rfl hplace
  · exact .refl s

theorem State.offerReply_leads (r : Reply) : s.leads 1 (s.offerReply r) := by
  obtain ⟨hplace, heq⟩ | ⟨hfull, heq⟩ := s.offerReply_cases r <;> rw [heq]
  · exact Ports.leads.place rfl hplace
  · rintro ⟨hlength, hordinary, hreplies, hbehind⟩
    refine ⟨⟨hlength, hordinary, fun x hx => ?_, fun hlt => absurd hlt (Nat.not_lt.mpr hfull)⟩, ?_⟩
    · obtain hx | hx := List.mem_append.mp hx
      · exact hreplies x hx
      · rw [List.mem_singleton.mp hx]
        rfl
    · simp only [Ports.owes, State.ports, List.length_append, List.length_singleton]
      omega

theorem State.offerContact_leads (time : Time) (r : ContactReport) : s.leads n (s.offerContact time r) := by
  obtain ⟨hroom, heq⟩ | ⟨-, heq⟩ := s.offerContact_cases time r <;> rw [heq]
  · exact Ports.leads.join _ hroom
  · exact .refl s

theorem State.offerSnapshot_leads (time : Time) (r : SnapshotReport) : s.leads n (s.offerSnapshot time r) := by
  obtain ⟨hroom, heq⟩ | ⟨-, heq⟩ := s.offerSnapshot_cases time r <;> rw [heq]
  · exact Ports.leads.join _ hroom
  · exact .refl s

theorem State.offerGesture_leads (time : Time) (g : GestureReport) : s.leads n (s.offerGesture time g) := by
  obtain ⟨hroom, heq⟩ | ⟨-, q, hq, heq⟩ | ⟨-, -, heq⟩ := s.offerGesture_cases time g <;> rw [heq]
  · exact Ports.leads.join _ hroom
  · obtain ⟨hlength, hordinary, -⟩ := evictOldest_spec _ _ hq
    refine Ports.leads.swap (p := s.ports) (l := q ++ [⟨time, .gesture g, false⟩]) ?_ ?_
    · rw [List.length_append, List.length_singleton]
      exact hlength.symm
    · rw [ordinaryCount_append]
      exact hordinary.symm
  · exact .refl s

theorem State.offerPen_leads (r : PenReport) : s.leads n (s.offerPen r) := by
  obtain ⟨-, q, hq, heq⟩ | ⟨hroom, heq⟩ | ⟨-, -, heq⟩ | ⟨-, -, heq⟩ := s.offerPen_cases r <;> rw [heq]
  · obtain ⟨front, last, was, hqueue, -, hpayload, -, rfl⟩ := replaceHover_spec hq
    refine Ports.leads.swap (p := s.ports) ?_ ?_
    · simp [State.ports, hqueue]
    · simp [State.ports, hqueue, ordinaryCount_cons, Record.ordinary, hpayload]
  · exact Ports.leads.join _ hroom
  · exact .refl s
  · exact .refl s

theorem State.offerPointer_leads (time : Time) (m : Motion) : s.leads n (s.offerPointer time m) := by
  obtain ⟨q, hq, heq⟩ | ⟨-, hroom, heq⟩ | ⟨-, -, heq⟩ := s.offerPointer_cases time m <;> rw [heq]
  · obtain ⟨l, hl, rfl⟩ := Option.map_eq_some_iff.mp hq
    obtain ⟨hlength, hordinary⟩ := absorbNewest_spec _ _ _ _ hl
    refine Ports.leads.swap (p := s.ports) ?_ ?_
    · rw [List.length_reverse, hlength, List.length_reverse]
      rfl
    · simpa [ordinaryCount, State.ports] using hordinary
  · exact Ports.leads.join (p := s.ports) _ hroom
  · exact .refl s

theorem State.offerUnsent_leads : s.leads n s.offerUnsent := by
  unfold State.offerUnsent
  split
  · exact .refl s
  · exact (State.leads_of_ports (n := n) (t := s.setUnsent none) rfl).then (State.offerPointer_leads _ _ _)

theorem State.noticeRises_leads (before : State) : s.leads n (State.noticeRises before s) := by
  have hfault : s.leads n (if !before.fault && s.fault then s.offerNotice .faultRising else s) :=
    State.leads_ite (s.offerNotice_leads _) (.refl s)
  exact State.leads_ite (hfault.then (State.offerNotice_leads _ _)) hfault

theorem State.done_leads (tag c : Byte) (b : List Byte) : s.leads 1 (s.done tag c b) := s.offerReply_leads _
theorem State.refuse_leads (tag c : Byte) (r : Reason) : s.leads 1 (s.refuse tag c r) := s.offerReply_leads _
theorem State.busy_leads (tag c : Byte) : s.leads 1 (s.busy tag c) := s.offerReply_leads _

/-! ## Departures (R181) -/

/-- With room freed by a departure, the waiting replies come first (R179, R181). -/
theorem State.admitWaiting_leads {rest : List Record} {x : Record} (hqueue : s.queue = x :: rest) :
    s.leads n (State.admitWaiting { s with queue := rest }) := by
  rintro ⟨hlength, hordinary, hreplies, hbehind⟩
  have hlen : rest.length + 1 ≤ 32 := by simpa [State.ports, hqueue] using hlength
  have hcount : ordinaryCount rest ≤ 28 := by
    have hcount : x.ordinary.toNat + ordinaryCount rest ≤ 28 := by
      simpa [State.ports, hqueue, ordinaryCount_cons] using hordinary
    omega
  have htaken : ordinaryCount (s.link.waiting.take (32 - rest.length)) = 0 :=
    List.countP_eq_zero.mpr fun r hr => by simp [hreplies r (List.mem_of_mem_take hr)]
  refine ⟨⟨?_, ?_, fun r hr => hreplies r (List.mem_of_mem_drop hr), fun hlt => ?_⟩, ?_⟩
  · simp only [State.ports, State.admitWaiting, Config.queueCapacity, List.length_append, List.length_take]
    omega
  · simp only [State.ports, State.admitWaiting, Config.queueCapacity, ordinaryCount_append, htaken]
    omega
  · simp only [State.ports, State.admitWaiting, Config.queueCapacity, List.length_append, List.length_take] at hlt ⊢
    exact List.drop_eq_nil_of_le (by omega)
  · simp only [Ports.owes, State.ports, State.admitWaiting, List.length_drop]
    omega

theorem State.issueOwed_leads : s.leads n s.issueOwed := by
  have hplace {s t : State} (p : Payload) (hp : (⟨s.now, p, false⟩ : Record).ordinary = false) (ht : t.ports = s.ports)
      (hnow : t.now = s.now) (h : hasPlace s.queue = true) : s.leads 0 (t.enqueue s.now p) := by
    have hlt : s.queue.length < 32 := (hasPlace_iff _).mp h
    show s.ports.leads 0 { t.ports with queue := t.ports.queue ++ [⟨s.now, p, false⟩] }
    rw [ht]
    exact Ports.leads.place hp hlt
  have hsurface (s : State) : s.leads 0 s.issueSurface := by
    unfold State.issueSurface
    split
    · split
      next h => exact hplace _ rfl rfl rfl h
      · exact .refl s
    · exact .refl s
  have hposture (s : State) : s.leads 0 s.issuePosture := by
    unfold State.issuePosture
    split
    next h => exact hplace _ rfl rfl rfl (by simp_all)
    · exact .refl s
  have hfault (s : State) : s.leads 0 s.issueFault := by
    unfold State.issueFault
    split
    next h => exact hplace _ rfl rfl rfl (by simp_all)
    · exact .refl s
  have hloss (s : State) : s.leads 0 s.issueLoss := by
    unfold State.issueLoss
    split
    next h => exact hplace _ rfl rfl rfl (by simp_all)
    · exact .refl s
  exact (State.leads.refl (n := n) s).then
    ((((hsurface _).then (hposture _)).then (hfault _)).then (hloss _))

theorem State.catchUp_leads (u : Surface) : s.leads n (s.catchUp u) := by
  unfold State.catchUp
  split
  · exact s.offerContact_leads _ _
  · exact .refl s

theorem State.departure_leads {rest : List Record} {x : Record} (hqueue : s.queue = x :: rest) :
    s.leads n (State.departure { s with queue := rest }) :=
  ((((s.admitWaiting_leads hqueue).then (State.issueOwed_leads _)).then (State.catchUp_leads _ .pad)).then
    (State.catchUp_leads _ .panel)).then (State.offerUnsent_leads _)

theorem State.takeRead_leads (extra : Nat) : s.leads n (s.takeRead extra) := by
  unfold State.takeRead
  dsimp only
  split
  · exact State.leads_of_ports rfl
  next r rest hqueue =>
    exact (State.leads_of_ports (n := n) (t := s.setLinkOut (.bytes (r.sent s.summary ++ List.replicate extra 0))) rfl).then
      (State.departure_leads (s.setLinkOut _) hqueue)

theorem State.endRead_leads (k : Nat) : s.leads n (s.endRead k) := by
  unfold State.endRead
  split
  · exact State.leads_of_ports rfl
  next r rest hqueue =>
    refine Ports.leads.swap (p := s.ports) (l := { r with begun := r.begun || decide (3 ≤ k) } :: rest) ?_ ?_
    · simp [State.ports, hqueue]
    · simp [State.ports, hqueue, ordinaryCount_cons, Record.ordinary]

end

end Sys2Proof.Machine

/-! Every command keeps the bounds of the queue and the replies (R174, R176 to R181): O56. -/

namespace Sys2Proof.Machine

section
variable (s : State) {n : Nat}

/-! ## Surfaces and scan intake -/

theorem State.enterState_leads (u : Surface) (st : SurfaceState) : s.leads n (s.enterState u st) := by
  have hentered (f : Intake → Intake) : s.leads n (s.onIntake u f) := State.leads_of_ports rfl
  unfold State.enterState
  dsimp only
  split
  · exact (hentered _).then (State.offerNotice_leads _ _)
  · exact hentered _

theorem State.enterAcquire_leads (u : Surface) (k : Bool) : s.leads n (s.enterAcquire u k) :=
  (State.leads_of_ports (n := n) (t := s.onIntake u fun i =>
    { i with timeout := s.timeoutFromNow, errorRun := if k then i.errorRun else 0 }) rfl).then (State.enterState_leads _ u _)

theorem State.postClosing_leads (u : Surface) (o : ClosingOutcome) : s.leads n (s.postClosing u o) :=
  State.leads_of_ports rfl

theorem State.failSurface_leads (u : Surface) : s.leads n (s.failSurface u) :=
  (s.enterState_leads u .failed).then (State.postClosing_leads _ u .none)

theorem State.recapture_leads (u : Surface) : s.leads n (s.recapture u) :=
  (s.enterAcquire_leads u true).then (State.postClosing_leads _ u .none)

theorem State.setReceiver_leads (u : Surface) (r : Receiver) : s.leads n (s.setReceiver u r) := State.leads_of_ports rfl

theorem State.discardFrame_leads (u : Surface) : s.leads n (s.discardFrame u) := by
  have hcount : s.leads n ((s.setReceiver u (Receiver.idle .discarding)).onIntake u Intake.countDiscard) :=
    State.leads_of_ports rfl
  unfold State.discardFrame
  dsimp only
  split
  · exact s.setReceiver_leads u _
  · split
    · exact hcount.then (State.failSurface_leads _ u)
    · exact hcount

theorem State.takeFrameStart_leads (u : Surface) (frame : Half) (columns rows : Byte) :
    s.leads n (s.takeFrameStart u frame columns rows) := by
  have hexamine (t : State) : t.leads 0 (t.examineStart u frame columns rows) :=
    State.leads_ite (t.setReceiver_leads u _) (t.discardFrame_leads u)
  unfold State.takeFrameStart
  dsimp only
  split
  · exact (s.discardFrame_leads u).then (hexamine _)
  · exact (State.leads.refl s).then (hexamine s)

theorem State.takeRowRecord_leads (u : Surface) (body : List Byte) : s.leads n (s.takeRowRecord u body) := by
  unfold State.takeRowRecord
  dsimp only
  split
  · exact State.leads_ite (s.setReceiver_leads u _) (s.discardFrame_leads u)
  · exact .refl s

theorem State.makeReady_leads (u : Surface) (frame : Half) (samples : List (List Nat)) :
    s.leads n (s.makeReady u frame samples) := State.leads_of_ports rfl

theorem State.disposeFrame_leads (u : Surface) (frame : Half) (samples : List (List Nat)) :
    s.leads n (s.disposeFrame u frame samples) := by
  unfold State.disposeFrame
  split
  · exact .refl s
  · split
    · exact (s.enterAcquire_leads u false).then (State.makeReady_leads _ u _ _)
    · exact (State.leads_of_ports (n := n) (t := s.onIntake u fun i => { i with errorRun := 0, timeout := s.timeoutFromNow })
        rfl).then (State.makeReady_leads _ u _ _)

theorem State.takeFrameEnd_leads (u : Surface) (frame check : Half) : s.leads n (s.takeFrameEnd u frame check) := by
  unfold State.takeFrameEnd
  dsimp only
  split
  · exact State.leads_ite ((s.setReceiver_leads (n := n) u _).then (State.disposeFrame_leads _ u _ _))
      (s.discardFrame_leads u)
  · exact .refl s

/-! ## The pen -/

theorem State.reportPen_leads (p : PenShown) (a b : Bool) : s.leads n (s.reportPen p a b) := s.offerPen_leads _

theorem State.penForcedExit_leads : s.leads n s.penForcedExit := by
  have hout : s.leads n { s with pen := { s.pen with mode := .out, coast := 0, guard := none } } := State.leads_of_ports rfl
  unfold State.penForcedExit
  dsimp only
  split
  · exact hout
  · exact hout.then (State.reportPen_leads _ _ _ _)

theorem State.takeValid_leads (held : PenHeld) (tipDown : Bool) : s.leads n (s.takeValid held tipDown) := by
  have hpen (p : PenTracker) : s.leads n { s with pen := p } := State.leads_of_ports rfl
  unfold State.takeValid
  dsimp only
  split
  · have hink : s.leads n (({ s with pen := { s.pen with mode := .ink, held := held, coast := 0, guard := none } } : State).reportPen .ink false s.pen.mode.coasting) :=
      (hpen _).then (State.reportPen_leads _ _ _ _)
    unfold State.penInk
    dsimp only
    split
    · exact hink
    · exact hink.then (State.leads_of_ports rfl)
  · unfold State.penHover
    exact (hpen _).then (State.reportPen_leads _ _ _ _)

theorem State.takeInvalid_leads : s.leads n s.takeInvalid := by
  have hpen (p : PenTracker) : s.leads n { s with pen := p } := State.leads_of_ports rfl
  cases hmode : s.pen.mode with
  | out =>
    simp only [State.takeInvalid, hmode]
    exact .refl s
  | hover | ink =>
    simp only [State.takeInvalid, hmode]
    exact hpen _
  | coast origin =>
    simp only [State.takeInvalid, hmode, State.coastOn]
    split
    · exact (hpen _).then (State.reportPen_leads _ _ _ _)
    · exact hpen _

/-! ## Postures and tables -/

theorem State.applySurface_leads (e : PostureEntry) (u : Surface) : s.leads n (s.applySurface e u) := by
  unfold State.applySurface
  split
  · unfold State.enableSurface
    split
    · split
      · exact State.leads_of_ports rfl
      · exact State.leads_ite (s.enterAcquire_leads u false) (.refl s)
    · exact .refl s
  · unfold State.disableSurface
    exact State.leads_ite (.refl s) (s.postClosing_leads u _)

theorem State.applyEntry_leads : s.leads n s.applyEntry := by
  have hsurfaces : s.leads n ((s.applySurface s.entry .pad).applySurface s.entry .panel) :=
    (s.applySurface_leads s.entry .pad).then (State.applySurface_leads _ s.entry .panel)
  exact State.leads_ite hsurfaces (hsurfaces.then (State.penForcedExit_leads _))

theorem State.setPosture_leads (tag : Byte) (p : Posture) : s.leads 1 (s.setPosture tag p) := by
  have hchange : s.leads 0 (s.changePosture p) :=
    ((State.leads_of_ports (n := 0) (t := { s with posture := p }) rfl).then (State.offerNotice_leads _ _)).then
      (State.applyEntry_leads _)
  exact State.leads_ite (s.done_leads _ _ _)
    ((hchange.then (State.noticeRises_leads _ s)).trans (State.done_leads _ _ _ _))

theorem State.takePostureCode_leads (tag : Byte) (value : Half) : s.leads 1 (s.takePostureCode tag value) := by
  unfold State.takePostureCode
  split
  · exact s.setPosture_leads tag _
  · exact s.refuse_leads _ _ _

theorem State.takePostureAngle_leads (tag : Byte) (value : Half) : s.leads 1 (s.takePostureAngle tag value) :=
  State.setPosture_leads { s with angle := min value.toNat 360 } tag _

/-- A commit keeps owing its DONE while its frame-side tables switch (R168, R169). -/
theorem State.switchFrameSide_leads : s.leads n s.switchFrameSide := by
  unfold State.switchFrameSide
  split
  · exact .refl s
  next c hcommit =>
    have hswitched : s.leads n { s with tables := { s.tables with
        active := s.tables.active.takeKinds s.tables.staging c.frameSide
        commit := some { c with frameSide := KindSet.empty } } } :=
      State.leads_of_ports (by simp [State.ports, hcommit])
    exact State.leads_ite (.refl s) (State.leads_ite (hswitched.then (State.applyEntry_leads _)) hswitched)

theorem State.installProgram_leads : s.leads n s.installProgram :=
  State.leads_of_ports (by simp [State.ports, State.installProgram])

theorem State.switchProgram_leads : s.leads n s.switchProgram := State.leads_ite s.installProgram_leads (.refl s)

theorem State.switchAtHold_leads : s.leads n s.switchAtHold :=
  s.switchFrameSide_leads.then (State.switchProgram_leads _)

/-- A DONE made in the place of one that was owed adds no reply (R179). -/
theorem State.owedDone_leads {t : State} (tag c : Byte) (b : List Byte) (hsame : t.queue = s.queue)
    (hwaiting : t.link.waiting = s.link.waiting) (howes : t.ports.owes + 1 ≤ s.ports.owes) : s.leads n (t.done tag c b) := by
  rintro ⟨hlength, hordinary, hreplies, hbehind⟩
  have ht : t.ports.sound := by
    refine ⟨?_, ?_, ?_, ?_⟩ <;> simp only [State.ports, hsame, hwaiting] <;> assumption
  obtain ⟨hsound, hle⟩ := t.done_leads tag c b ht
  exact ⟨hsound, by omega⟩

theorem State.endCommit_leads : s.leads n s.endCommit := by
  unfold State.endCommit
  split
  · exact .refl s
  next c hcommit =>
    exact State.leads_ite (s.owedDone_leads _ _ _ rfl rfl (by simp [Ports.owes, State.ports, hcommit])) (.refl s)

theorem State.stopDone_leads : s.leads n s.stopDone := by
  unfold State.stopDone
  split
  · exact .refl s
  next tag hstop =>
    exact s.owedDone_leads _ _ _ rfl rfl (by simp [Ports.owes, State.ports, hstop, State.setStopTag])

end

end Sys2Proof.Machine

/-! Every command keeps the bounds of the queue and the replies (R174, R176 to R181): O56. -/

namespace Sys2Proof.Machine

section
variable {s t u : State} {n : Nat}

/-- An operation after changes that leave the queue and the replies alone. -/
theorem State.leads_over (h : t.leads n u) (hsame : t.ports = s.ports) : s.leads n u := by
  rw [State.leads, ← hsame]
  exact h

end

/-! ## The gesture engine -/

@[simp] theorem State.dropClaim_ports (s : State) (k : Nat) (r : TrackRef) : (s.dropClaim k r).ports = s.ports := by
  simp [State.ports]

@[simp] theorem State.giveUp_ports (s : State) (k : Nat) (r : TrackRef) : (s.giveUp k r).ports = s.ports :=
  s.dropClaim_ports k r

theorem EngineMove.leads {held : Prop} {s t : State} (h : EngineMove held s t) : s.leads 0 t := by
  cases h with
  | gesture time g => exact s.offerGesture_leads time g
  | snapshot time r => exact s.offerSnapshot_leads time r
  | pointer time m hm => exact s.offerPointer_leads time m
  | giveUp k r => exact State.leads_of_ports (s.giveUp_ports k r)
  | _ => exact State.leads_of_ports rfl

theorem EngineMoves.leads {held : Prop} {s t : State} (h : EngineMoves held s t) : s.leads 0 t := by
  induction h with
  | refl => exact .refl s
  | tail _ hlast ih => exact ih.then hlast.leads

section
variable (s : State) {n : Nat}

theorem State.leads.rises {s t before : State} (h : s.leads n t) : s.leads n (State.noticeRises before t) :=
  h.then (t.noticeRises_leads before)

theorem State.generalCancel_leads : s.leads 0 s.generalCancel := by
  have hcancelled : s.leads 0 s.cancelContexts := (s.cancelContexts_moves (held := False) False.elim).leads
  have hdropped (t : State) : t.leads 0 (if t.gestures.inHand then t.dropInHand else t) :=
    State.leads_ite (State.leads_of_ports rfl) (.refl t)
  exact hcancelled.then (hdropped _)

/-! ## COMMIT -/

theorem State.switchAtCommit_leads : s.leads n s.switchAtCommit := by
  unfold State.switchAtCommit
  split
  · exact s.switchAtHold_leads
  · have hswitched : s.leads n (if s.engine.op.isNone then s.switchFrameSide else s) :=
      State.leads_ite s.switchFrameSide_leads (.refl s)
    exact hswitched.then (State.leads_of_ports rfl)

/-- A commit accepted owes its DONE (R179). -/
theorem State.acceptCommit_leads (tag : Byte) : s.leads 1 (s.acceptCommit tag) := by
  intro h
  refine ⟨⟨h.length, h.ordinary, h.replies, h.behind⟩, ?_⟩
  simp only [Ports.owes, State.ports, State.acceptCommit, Option.isSome_some, Bool.toNat_true]
  omega

theorem State.takeCommit_leads (tag : Byte) : s.leads 1 (s.takeCommit tag) := by
  unfold State.takeCommit
  refine State.leads_ite (s.busy_leads _ _) (State.leads_ite (s.done_leads _ _ _) ?_)
  split
  · exact s.offerReply_leads _
  · exact (((s.acceptCommit_leads tag).then (State.switchAtCommit_leads _)).rises).then (State.endCommit_leads _)

/-! ## The frame engine -/

theorem State.takeItem_leads (w : WaitItem) : s.leads n (s.takeItem w) := by
  unfold State.takeItem
  dsimp only
  split
  · exact State.leads_of_ports rfl
  · split <;> exact State.leads_of_ports rfl

theorem State.completeAcquire_leads (u : Surface) (sn : Snapshot) (f : ReadyFrame) :
    s.leads n (s.completeAcquire u sn f) := by
  unfold State.completeAcquire
  exact State.leads_ite (State.leads_over (State.enterState_leads _ u .live) rfl) (State.leads_of_ports rfl)

theorem State.liveSettled_leads (u : Surface) (sn : Snapshot) (f : ReadyFrame) :
    s.leads n (s.liveSettled u sn f) := by
  have hreleases : s.leads n (s.releases u (liveWork sn u f)) := by
    refine foldl_invariant (fun x : State => s.leads n x) _ (fun x c hx => hx.then ?_) _ _ (.refl s)
    unfold State.forceRelease
    split
    · exact State.leads_of_ports (State.dropClaim_ports _ _ _)
    · exact .refl x
  exact hreleases.then (State.leads_of_ports rfl)

theorem State.completeLive_leads (u : Surface) (sn : Snapshot) (f : ReadyFrame) : s.leads n (s.completeLive u sn f) := by
  have hreport : s.leads n ((s.liveSettled u sn f).liveReport u sn f) :=
    (s.liveSettled_leads u sn f).then (State.leads_ite (State.offerContact_leads _ _ _) (.refl _))
  rw [State.completeLive_eq]
  exact State.leads_ite (hreport.then (State.recapture_leads _ u)) hreport

theorem State.closeTracks_leads (u : Surface) (sn : Snapshot) (key : Time) : s.leads n (s.closeTracks u sn key) := by
  have hclosed : s.leads n (s.tracksClosed u sn key) := State.leads_of_ports rfl
  rw [State.closeTracks_eq]
  exact State.leads_ite (hclosed.then (State.offerContact_leads _ _ _)) hclosed

theorem State.applyOutcome_leads (u : Surface) (out : ClosingOutcome) : s.leads n (s.applyOutcome u out) := by
  cases out with
  | off => exact s.enterState_leads u .off
  | acquire => exact s.enterAcquire_leads u false
  | none => exact .refl s

theorem State.completeClosing_leads (u : Surface) (sn : Snapshot) (key : Time) (out : ClosingOutcome) :
    s.leads n (s.completeClosing u sn key out) := by
  have hclosed : s.leads n (if hasOpenTracks sn u then s.closeTracks u sn key else s) :=
    State.leads_ite (s.closeTracks_leads u sn key) (.refl s)
  unfold State.completeClosing
  dsimp only
  generalize (if hasOpenTracks sn u then s.closeTracks u sn key else s) = s1 at hclosed
  exact hclosed.then (State.leads_over (State.applyOutcome_leads _ u out) rfl)

theorem State.applyOperation_leads (o : Operation) : s.leads n (s.applyOperation o) := by
  unfold State.applyOperation
  split
  · exact s.completeClosing_leads _ _ _ _
  · split
    · exact s.completeAcquire_leads _ _ _
    · exact s.completeLive_leads _ _ _
    · exact .refl s
    · exact .refl s

theorem State.completeOperation_leads (o : Operation) : s.leads n (s.completeOperation o) := by
  have happlied : s.leads n ((s.setOp none).applyOperation o) :=
    (State.leads_of_ports (t := s.setOp none) rfl).then (State.applyOperation_leads _ o)
  have hpen : s.leads n (((s.setOp none).applyOperation o).outcomePen o) := by
    unfold State.outcomePen
    split
    · exact happlied.then (State.penForcedExit_leads _)
    · exact happlied
  exact ((hpen.then (State.switchFrameSide_leads _)).rises).then (State.endCommit_leads _)

/-! ## RUN, STOP and ABORT -/

theorem State.takeRun_leads (tag : Byte) : s.leads 1 (s.takeRun tag) := by
  have hsurface (t : State) (u : Surface) : t.leads 0 (t.runSurface u) :=
    State.leads_ite (t.enterAcquire_leads u false) (.refl t)
  have hentered : s.leads 0 (((s.setPart .run).runSurface .pad).runSurface .panel) :=
    ((State.leads_of_ports (t := s.setPart .run) rfl).then (hsurface _ .pad)).then (hsurface _ .panel)
  unfold State.takeRun
  split
  · exact hentered.rises.trans (State.done_leads _ _ _ _)
  · exact s.done_leads _ _ _
  · exact s.busy_leads _ _

/-- STOP taken in RUN owes its DONE (R179). -/
theorem State.beginStop_leads (tag : Byte) : s.leads 1 (s.beginStop tag) := by
  have howed : s.leads 1 ((s.setPart .stopping).setStopTag (some tag)) := by
    intro h
    refine ⟨⟨h.length, h.ordinary, h.replies, h.behind⟩, ?_⟩
    simp only [Ports.owes, State.ports, State.setStopTag, State.setPart, Option.isSome_some, Bool.toNat_true]
    omega
  exact ((howed.then (State.postClosing_leads _ .pad .off)).then (State.postClosing_leads _ .panel .off)).then
    (State.penForcedExit_leads _)

theorem State.takeStop_leads (tag : Byte) : s.leads 1 (s.takeStop tag) := by
  unfold State.takeStop
  split
  · exact s.done_leads _ _ _
  · exact (s.beginStop_leads tag).rises
  · exact s.busy_leads _ _

theorem State.setPart_leads (p : PartState) : s.leads n (s.setPart p) := State.leads_of_ports rfl

theorem State.completeStop_leads : s.leads 0 s.completeStop := by
  have hheld : s.leads 0 (s.generalCancel.setPart .hold) := s.generalCancel_leads.then (State.setPart_leads _ _)
  exact (((hheld.then (State.switchAtHold_leads _)).rises).then (State.endCommit_leads _)).then (State.stopDone_leads _)

theorem State.abortAll_leads : s.leads 0 s.abortAll := by
  have hdown : s.leads 0 s.windDown :=
    (State.leads_over (t := s.abortEngine.abortTracks.abortStores) (State.enterState_leads _ .pad .off) rfl).then
      (State.enterState_leads _ .panel .off)
  have hreport (t : State) (u : Surface) : t.leads 0 (t.abortReport u) :=
    State.leads_ite (t.offerContact_leads _ _) (.refl t)
  have hup : s.windDown.leads 0 s.windDown.windUp :=
    ((((hreport _ .pad).then (hreport _ .panel)).then (State.penForcedExit_leads _)).then
      (State.generalCancel_leads _)).then (State.setPart_leads _ _)
  exact (((hdown.then hup).then (State.switchAtHold_leads _)).rises).then (State.endCommit_leads _)

theorem State.takeAbort_leads (tag : Byte) : s.leads 1 (s.takeAbort tag) := by
  have hdone : s.leads 1 (s.abortAll.stopDone.done tag 0x07 []) :=
    (s.abortAll_leads.then (State.stopDone_leads _)).trans (State.done_leads _ _ _ _)
  unfold State.takeAbort
  split
  · exact s.done_leads _ _ _
  · exact hdone
  · exact hdone

theorem State.takeRecal_leads (tag u : Byte) : s.leads 1 (s.takeRecal tag u) := by
  unfold State.takeRecal
  split
  · exact s.refuse_leads _ _ _
  next v _ =>
    split
    · have hrecaptured : s.leads 0 (if s.shut v then s else State.noticeRises s (s.recapture v)) :=
        State.leads_ite (.refl s) (s.recapture_leads v).rises
      exact hrecaptured.trans (State.done_leads _ _ _ _)
    · exact s.done_leads _ _ _
    · exact s.refuse_leads _ _ _
    · exact s.refuse_leads _ _ _

/-! ## The commands that only answer, and the resets -/

theorem State.takeLoad_leads (tag kind part : Byte) (offset : Half) (entries : List Byte) :
    s.leads 1 (s.takeLoad tag kind part offset entries) := by
  unfold State.takeLoad
  refine State.leads_ite (s.busy_leads _ _) ?_
  split
  · exact s.refuse_leads _ _ _
  · exact State.leads_over (State.done_leads _ _ _ _) rfl

theorem State.takeDiscard_leads (tag : Byte) : s.leads 1 (s.takeDiscard tag) :=
  State.leads_ite (s.busy_leads _ _) (State.leads_over (State.done_leads _ _ _ _) rfl)

theorem State.takeQueryTracks_leads (tag u : Byte) : s.leads 1 (s.takeQueryTracks tag u) := by
  unfold State.takeQueryTracks
  split
  · exact s.done_leads _ _ _
  · exact s.refuse_leads _ _ _

theorem State.takeQueryBaseline_leads (tag u r : Byte) : s.leads 1 (s.takeQueryBaseline tag u r) := by
  unfold State.takeQueryBaseline
  split
  · exact State.leads_ite (s.done_leads _ _ _) (s.refuse_leads _ _ _)
  · exact s.refuse_leads _ _ _

theorem State.takeQueryRange_leads (tag kind part : Byte) (first count : Half) :
    s.leads 1 (s.takeQueryRange tag kind part first count) := by
  unfold State.takeQueryRange
  split
  · exact State.leads_ite (s.refuse_leads _ _ _) (s.done_leads _ _ _)
  · exact s.refuse_leads _ _ _

theorem State.takeWatch_leads (tag template st : Byte) : s.leads 1 (s.takeWatch tag template st) :=
  State.leads_ite (s.refuse_leads _ _ _) (State.leads_ite (s.done_leads _ _ _)
    (State.leads_ite (State.leads_over (State.done_leads _ _ _ _) rfl) (s.refuse_leads _ _ _)))

/-- A queue with room and nothing owed, as a reset leaves them (R188). -/
theorem State.leads_of_calm {t : State} {l : List Record} (h : t.ports = ⟨l, [], false, false⟩) (hl : l.length ≤ 1) :
    s.leads n t := by
  have hcount : ordinaryCount l ≤ l.length := List.countP_le_length
  rw [State.leads, h]
  refine fun _ => ⟨⟨?_, ?_, fun _ hr => absurd hr List.not_mem_nil, fun _ => rfl⟩, ?_⟩
  · exact hl.trans (by decide)
  · exact (hcount.trans hl).trans (by decide)
  · rw [show Ports.owes ⟨l, [], false, false⟩ = 0 from rfl]
    exact Nat.zero_le _

theorem State.atReset_leads (cause : ResetCause) (held : Bool) (pending : List Instr) :
    s.leads n (State.atReset cause held pending) := s.leads_of_calm (l := []) rfl (Nat.zero_le 1)

theorem State.afterReset_leads (cause : ResetCause) (pending : List Instr) :
    s.leads n (State.afterReset cause pending) := s.leads_of_calm (l := [_]) rfl (Nat.le_refl 1)

theorem State.countBadWrite_leads : s.leads n s.countBadWrite := State.leads_over (State.noticeRises_leads _ s) rfl

theorem State.countDroppedWrite_leads : s.leads n s.countDroppedWrite :=
  State.leads_over (State.noticeRises_leads _ s) rfl

/-! ## Every command -/

theorem State.runMgmt_leads (m : Mgmt) : s.leads 1 (s.runMgmt m) := by
  cases m with
  | load tag k p o e => exact s.takeLoad_leads tag k p o e
  | discard tag => exact s.takeDiscard_leads tag
  | commit tag => exact s.takeCommit_leads tag
  | run tag => exact s.takeRun_leads tag
  | stop tag => exact s.takeStop_leads tag
  | abort tag => exact s.takeAbort_leads tag
  | postureCode tag v => exact s.takePostureCode_leads tag v
  | postureAngle tag v => exact s.takePostureAngle_leads tag v
  | recal tag u => exact s.takeRecal_leads tag u
  | queryTrackTable tag u => exact s.takeQueryTracks_leads tag u
  | queryBaselineRow tag u r => exact s.takeQueryBaseline_leads tag u r
  | queryTableRange tag k p f c => exact s.takeQueryRange_leads tag k p f c
  | watch tag t st => exact s.takeWatch_leads tag t st
  | unwatch tag t st => exact State.leads_over (State.done_leads _ _ _ _) rfl
  | clear tag => exact State.leads_over (State.done_leads _ _ _ _) rfl
  | reset tag => exact s.afterReset_leads _ _
  | badLength tag c => exact State.leads_ite (s.busy_leads _ _) (s.refuse_leads _ _ _)
  | _ => exact s.offerReply_leads _

/-- A command kept from the queue and the replies within their bounds. -/
def State.bounded (s t : State) : Prop := s.ports.sound ∧ s.ports.owes ≤ 3 → t.ports.sound ∧ t.ports.owes ≤ 3

variable {s}

theorem State.leads.bounded {t : State} (h : s.leads 0 t) : s.bounded t := fun ⟨hs, howes⟩ =>
  ⟨(h hs).1, (h hs).2.trans howes⟩

theorem State.bounded_unlessHeld {f : State → State} (h : s.bounded (f s)) : s.bounded (s.unlessHeld f) := by
  obtain ⟨-, heq⟩ | ⟨-, heq⟩ := s.unlessHeld_cases f <;> rw [heq]
  · exact (State.leads.refl s).bounded
  · exact h

/-- A write is taken only while no reply waits, so that the one it adds is the third at most (R174, R179). -/
theorem State.bounded_takeWrite {f : State → State} (h : ∀ r : State, r.leads 1 (f r)) : s.bounded (s.takeWrite f) := by
  refine State.bounded_unlessHeld ?_
  dsimp only
  split
  next hplace =>
    rintro ⟨hs, -⟩
    obtain ⟨ht, howes⟩ := h (s.setLinkOut .zeros) hs
    have hnone : s.link.waiting = [] := hs.behind ((hasPlace_iff _).mp hplace)
    refine ⟨ht, howes.trans ?_⟩
    have hcommit : s.tables.commit.isSome.toNat ≤ 1 := Bool.toNat_le _
    have hstop : s.link.stopTag.isSome.toNat ≤ 1 := Bool.toNat_le _
    simp only [Ports.owes, State.ports, State.setLinkOut, hnone, List.length_nil]
    omega
  · exact State.leads.bounded (State.leads_over (State.countDroppedWrite_leads _) rfl)

theorem State.bounded_runMgmt (m : Mgmt) : s.bounded (s.takeWrite fun r => r.runMgmt m) :=
  State.bounded_takeWrite fun r => r.runMgmt_leads m

/-- Nothing, or an operation that makes no reply. -/
theorem State.bounded_ite {c : Prop} [Decidable c] {t u : State} (ht : s.bounded t) (hu : s.bounded u) :
    s.bounded (if c then t else u) := by
  split
  · exact ht
  · exact hu

theorem exec_bounded (s : State) (i : Instr) : ∃ t, exec i s = .next t ∧ s.bounded t := by
  have hnone : s.bounded s := (State.leads.refl s).bounded
  cases i
  all_goals refine ⟨_, rfl, ?_⟩
  case load tag k p o e => exact State.bounded_runMgmt (.load tag k p o e)
  case discard tag => exact State.bounded_runMgmt (.discard tag)
  case check tag => exact State.bounded_runMgmt (.check tag)
  case commit tag => exact State.bounded_runMgmt (.commit tag)
  case run tag => exact State.bounded_runMgmt (.run tag)
  case stop tag => exact State.bounded_runMgmt (.stop tag)
  case abort tag => exact State.bounded_runMgmt (.abort tag)
  case recal tag u => exact State.bounded_runMgmt (.recal tag u)
  case clear tag => exact State.bounded_runMgmt (.clear tag)
  case reset tag => exact State.bounded_runMgmt (.reset tag)
  case postureCode tag v => exact State.bounded_runMgmt (.postureCode tag v)
  case postureAngle tag v => exact State.bounded_runMgmt (.postureAngle tag v)
  case postureBadForm tag x y => exact State.bounded_runMgmt (.postureBadForm tag x y)
  case unknownCommand tag c => exact State.bounded_runMgmt (.unknownCommand tag c)
  case queryCondition tag => exact State.bounded_runMgmt (.queryCondition tag)
  case queryTrackTable tag u => exact State.bounded_runMgmt (.queryTrackTable tag u)
  case queryContexts tag => exact State.bounded_runMgmt (.queryContexts tag)
  case queryPen tag => exact State.bounded_runMgmt (.queryPen tag)
  case queryPosture tag => exact State.bounded_runMgmt (.queryPosture tag)
  case queryBaselineRow tag u r => exact State.bounded_runMgmt (.queryBaselineRow tag u r)
  case queryTableRange tag k p f c => exact State.bounded_runMgmt (.queryTableRange tag k p f c)
  case queryBadSelector tag x => exact State.bounded_runMgmt (.queryBadSelector tag x)
  case watch tag t st => exact State.bounded_runMgmt (.watch tag t st)
  case unwatch tag t st => exact State.bounded_runMgmt (.unwatch tag t st)
  case writeTransfer =>
    split
    next record _ =>
      refine State.bounded_takeWrite fun r => ?_
      unfold State.takeRecord
      split
      · exact r.runMgmt_leads _
      · exact .refl r
    · exact State.bounded_unlessHeld (State.leads.bounded (State.leads_over (State.countBadWrite_leads _) rfl))
  case frameOperationBegin =>
    split
    · exact hnone
    · split
      next w _ => exact (s.takeItem_leads w).bounded
      · exact hnone
  case frameOperationComplete =>
    split
    · exact hnone
    next o _ =>
      exact State.bounded_ite hnone (State.bounded_ite (State.leads_of_ports rfl).bounded (s.completeOperation_leads o).bounded)
  case heldOperationComplete =>
    split
    · exact hnone
    next o _ => exact State.bounded_ite (s.completeOperation_leads o).bounded hnone
  case digestTaken =>
    split
    · exact hnone
    next d _ _ =>
      have hhandled := ((s.setInHand true).handleDigest_moves (held := False) d False.elim).leads
      exact State.bounded_ite (((State.leads_of_ports (t := s.setInHand true) rfl).then hhandled).rises).bounded hnone
  case penInkTaken =>
    split
    · exact hnone
    next p _ => exact State.bounded_ite (s.handlePenInk_moves (held := False) p False.elim).leads.rises.bounded hnone
  case timerDeadlineReached k =>
    split
    · exact hnone
    · exact State.bounded_ite (State.leads_of_ports rfl).bounded hnone
  case timerExpiryTaken k =>
    split
    · exact hnone
    next timer _ =>
      have hgone : s.leads 0 (s.onContext k fun c => { c with timer := none }) := State.leads_of_ports rfl
      have hdelivered := (State.deliver_moves (held := False) (s.onContext k fun c => { c with timer := none }) k
        (plainEvent .timer timer.deadline) False.elim).leads
      exact State.bounded_ite (hgone.then hdelivered).rises.bounded hnone
  case digestHandlingEnd => exact State.bounded_ite (State.leads_of_ports rfl).bounded hnone
  case programSwitch =>
    have hswitch : s.leads 0 s.cancelContexts.installProgram :=
      (s.cancelContexts_moves (held := False) False.elim).leads.then (State.installProgram_leads _)
    exact State.bounded_ite (hswitch.rises.then (State.endCommit_leads _)).bounded hnone
  case stopComplete => exact State.bounded_ite s.completeStop_leads.bounded hnone
  case palmMemoryExpiry i =>
    split
    · exact State.bounded_ite (State.leads_of_ports rfl).bounded hnone
    · exact hnone
  case penGuardExpiry => exact State.bounded_ite (State.leads_of_ports rfl).bounded hnone
  case frameTimeout u => exact State.bounded_ite (s.failSurface_leads u).rises.bounded hnone
  case frameStart => exact State.bounded_unlessHeld (s.takeFrameStart_leads _ _ _ _).rises.bounded
  case rowRecord => exact State.bounded_unlessHeld (s.takeRowRecord_leads _ _).rises.bounded
  case frameEnd => exact State.bounded_unlessHeld (s.takeFrameEnd_leads _ _ _).rises.bounded
  case penSample =>
    exact State.bounded_unlessHeld (State.bounded_ite hnone
      (State.bounded_ite (s.takeValid_leads _ _).rises.bounded s.takeInvalid_leads.rises.bounded))
  case readTransfer => exact State.bounded_unlessHeld (s.takeRead_leads _).bounded
  case readEndedEarly => exact State.bounded_unlessHeld (s.endRead_leads _).bounded
  case badTransferKind => exact State.bounded_unlessHeld s.countBadWrite_leads.bounded
  case unknownScanRecord => exact hnone
  case powerOn => exact State.bounded_ite (s.atReset_leads _ _ _).bounded (s.afterReset_leads _ _).bounded
  case resetPinAssert => exact State.bounded_ite hnone (s.atReset_leads _ _ _).bounded
  case resetPinRelease => exact State.bounded_ite (s.afterReset_leads _ _).bounded hnone

end

theorem State.bounded_of_step {s t : State} (h : step s = .next t) : s.bounded t := by
  unfold step at h
  split at h
  · cases h
    unfold State.tick
    exact State.bounded_ite (State.leads.refl s).bounded (State.leads_of_ports (n := 0) rfl).bounded
  next i rest _ =>
    obtain ⟨r, hexec, hr⟩ := exec_bounded { s with pending := rest } i
    obtain rfl : r = t := Host.Outcome.next.inj (hexec.symm.trans h)
    exact hr

/-- Settles O56: no operation brings a bound down, and a write, the only command that adds a reply, is taken with none
waiting. -/
theorem queueStaysWithinItsBounds : Obligations.QueueStaysWithinItsBounds := fun s t hqueue hreplies h =>
  (State.bounds_iff t).mpr (State.bounded_of_step h ((State.bounds_iff s).mp ⟨hqueue, hreplies⟩))

end Sys2Proof.Machine

/-! Steps and resets (00, 11.6), reads (11.1), WATCH and UNWATCH (8.10), QUERY (11.4): O1, O3, O4, O10, O39, O55. -/

namespace Sys2Proof.Machine

/-! ## Steps (log 1, log 3) -/

theorem State.tick_of_held {s : State} (h : s.pinHeld = true) : s.tick = s := if_pos h

theorem State.tick_of_released {s : State} (h : s.pinHeld = false) : s.tick = { s with now := s.now + 1 } :=
  if_neg (by simp [h])

theorem step_of_cons {s : State} {i : Instr} {rest : List Instr} (h : s.pending = i :: rest) :
    step s = exec i { s with pending := rest } := by
  unfold step
  rw [h]

theorem step_of_nil {s : State} (h : s.pending = []) : step s = .next s.tick := by
  unfold step
  rw [h]

/-- Settles O1: the step's two cases. -/
theorem stepRunsTheFrontCommand : Obligations.StepRunsTheFrontCommand :=
  ⟨fun _ _ _ => step_of_cons,
    fun _ hnone hreleased => (step_of_nil hnone).trans (congrArg _ (State.tick_of_released hreleased)),
    fun _ hnone hheld => (step_of_nil hnone).trans (congrArg _ (State.tick_of_held hheld))⟩

/-! ## Commands whose gate is open or shut (R174, R188) -/

section
variable {s : State} {f : State → State}

theorem State.unlessHeld_of_released (h : s.pinHeld = false) : s.unlessHeld f = f s := if_neg (by simp [h])

theorem State.unlessHeld_of_held (h : s.pinHeld = true) : s.unlessHeld f = s := if_pos h

end

/-- What a taken write that is answered at once leaves (R175, R191). -/
theorem State.done_of_takes {s : State} (h : s.takes) (tag c : Byte) (b : List Byte) :
    (s.setLinkOut .zeros).done tag c b = s.replied tag c .done b := s.offerReply_of_room tag c .done b h.2

theorem State.refuse_of_takes {s : State} (h : s.takes) (tag c : Byte) (r : Reason) :
    (s.setLinkOut .zeros).refuse tag c r = s.replied tag c (.refused r) [] := s.offerReply_of_room tag c _ [] h.2

theorem State.busy_of_takes {s : State} (h : s.takes) (tag c : Byte) :
    (s.setLinkOut .zeros).busy tag c = s.replied tag c .busy [] := s.offerReply_of_room tag c .busy [] h.2

/-! ## Resets (R188) -/

theorem State.afterReset_eq (c : ResetCause) (q : List Instr) : State.afterReset c q = State.reset.ofCause c q := rfl

theorem State.atReset_eq (c : ResetCause) (q : List Instr) :
    State.atReset c true q = { State.reset.ofCause c q with pinHeld := true, queue := [] } := rfl

theorem exec_powerOn_of_released {s : State} (h : s.pinHeld = false) :
    exec .powerOn s = .next (State.reset.ofCause .power s.pending) := congrArg Host.Outcome.next (if_neg (by simp [h]))

theorem exec_powerOn_of_held {s : State} (h : s.pinHeld = true) :
    exec .powerOn s = .next (State.atReset .power true s.pending) := congrArg Host.Outcome.next (if_pos h)

theorem exec_resetPinAssert_of_released {s : State} (h : s.pinHeld = false) :
    exec .resetPinAssert s = .next (State.atReset .pin true s.pending) := congrArg Host.Outcome.next (if_neg (by simp [h]))

theorem exec_resetPinRelease_of_held {s : State} (h : s.pinHeld = true) :
    exec .resetPinRelease s = .next (State.reset.ofCause s.link.cause s.pending) := congrArg Host.Outcome.next (if_pos h)

/-- Settles O4: each of the three commands by the pin, RESET as a write that is taken. -/
theorem everyResetIsThatReset : Obligations.EveryResetIsThatReset := by
  refine ⟨fun _ h => exec_powerOn_of_released h, fun s tag h => ?_,
    fun s h => (exec_resetPinAssert_of_released h).trans (by rw [State.atReset_eq]),
    fun _ h => exec_resetPinRelease_of_held h, fun s h => (exec_powerOn_of_held h).trans (by rw [State.atReset_eq]),
    fun _ h => congrArg Host.Outcome.next (if_pos h), fun s h => congrArg Host.Outcome.next (if_neg (by simp [h]))⟩
  calc
    exec (.reset tag) s = .next (s.takeWrite State.takeReset) := rfl
    _ = .next ((s.setLinkOut .zeros).takeReset) := by rw [s.takeWrite_of_takes _ h]
    _ = .next (State.reset.ofCause .command s.pending) := rfl

/-! ## What every step keeps, at reset -/

theorem State.windingSound_reset : State.reset.windingSound := by
  have hclosed (u : Surface) : State.reset.tracks.closed u := fun r hr x hx => by
    have hfree : r = none := by cases u <;> exact List.eq_of_mem_replicate hr
    exact nomatch hfree.symm.trans hx
  refine ⟨fun _ => ⟨fun u => ?_, by decide, rfl, rfl⟩, fun _ => rfl, nofun, fun u =>
    ⟨fun _ => rfl, nofun, fun _ => ⟨hclosed u, fun ⟨_, _, h, _⟩ => (nomatch h)⟩, fun _ h => (nomatch h)⟩⟩
  cases u <;> rfl

theorem State.boundWithin_reset : State.reset.boundWithin := ⟨fun _ h => (nomatch h), List.nodup_nil⟩

theorem State.palmApart_reset : State.reset.palmApart := ⟨List.Pairwise.nil, fun _ h => nomatch h⟩

theorem State.listsWithin_reset : State.reset.listsWithin :=
  ⟨fun _ => ⟨Nat.zero_le 1, Nat.zero_le 1⟩, Nat.zero_le 4, ⟨rfl, rfl⟩, fun _ h => (nomatch h), Nat.zero_le 8, rfl, Nat.zero_le 4, rfl⟩

theorem State.claimsWithin_reset : State.reset.claimsWithin := fun k _ hc =>
  nomatch ((State.idle_iff.mp (State.idle_atReset .power false []) k).symm.trans hc)

theorem State.bounds_reset : State.reset.queueWithin ∧ State.reset.repliesWithin :=
  ⟨⟨by decide, by decide, fun _ h => (nomatch h)⟩, fun _ => rfl, by decide⟩

theorem State.heldAtReset_reset : State.reset.heldAtReset := fun h => nomatch h

/-- Settles O3: the values are those of `State.atReset`; what every step keeps holds of them by the lemma about each. -/
theorem resetLeavesTheSpecsValues : Obligations.ResetLeavesTheSpecsValues := by
  refine ⟨rfl, fun u => ?_, rfl, rfl, rfl, rfl, rfl, rfl, rfl, rfl, rfl, rfl, rfl, rfl, rfl, rfl, rfl, rfl, rfl, rfl,
    rfl, rfl, rfl, rfl, rfl, State.bounds_reset.1, State.bounds_reset.2, State.listsWithin_reset, State.claimsWithin_reset,
    State.boundWithin_reset, State.palmApart_reset, State.windingSound_reset, State.motionWithin_afterReset _ _,
    State.motionHeld_atReset .power false [], (State.tablesSound_iff _).mpr TableStore.sound_reset,
    (State.cleanSound_iff _).mpr TableStore.clean_reset, State.latchSound_atReset .power false [],
    fun h => absurd rfl h, State.idsSound_atReset .power false [], State.claimsAgree_atReset .power false [],
    State.heldAtReset_reset⟩
  cases u <;> exact ⟨rfl, rfl, rfl, rfl, rfl, rfl, rfl, rfl, rfl, rfl, rfl, rfl, rfl, rfl, rfl, rfl⟩

/-! ## Reads (R172, R173) -/

/-- Settles O10: by whether the queue is empty. -/
theorem readsSendTheHeadRecord : Obligations.ReadsSendTheHeadRecord := by
  refine ⟨⟨fun s r rest extra hpin hqueue => ?_, fun s extra hpin hqueue => ?_⟩,
    fun s r rest sent hpin hqueue => ?_, fun s sent hpin hqueue => ?_⟩
  · refine congrArg Host.Outcome.next ((State.unlessHeld_of_released hpin).trans ?_)
    simp only [State.takeRead, hqueue]
    rfl
  · refine congrArg Host.Outcome.next ((State.unlessHeld_of_released hpin).trans ?_)
    simp only [State.takeRead, hqueue]
    rw [← hqueue]
    rfl
  · refine congrArg Host.Outcome.next ((State.unlessHeld_of_released hpin).trans ?_)
    simp only [State.endRead, hqueue]
    rfl
  · refine congrArg Host.Outcome.next ((State.unlessHeld_of_released hpin).trans ?_)
    simp only [State.endRead, hqueue]
    rw [← hqueue]
    rfl

/-! ## WATCH and UNWATCH (R144) -/

section
variable {s : State} {tag i st : Byte}

theorem exec_watch_of_takes (h : s.takes) : exec (.watch tag i st) s = .next ((s.setLinkOut .zeros).takeWatch tag i st) :=
  congrArg Host.Outcome.next (s.takeWrite_of_takes _ h)

theorem exec_unwatch_of_takes (h : s.takes) : exec (.unwatch tag i st) s =
    .next (State.replied (s.setWatch (s.gestures.watch.erase ⟨i.toNat, st.toNat⟩)) tag 0x0C .done []) :=
  (congrArg Host.Outcome.next (s.takeWrite_of_takes _ h)).trans
    (congrArg Host.Outcome.next (State.done_of_takes (s := s.setWatch (s.gestures.watch.erase _)) h tag 0x0C []))

end

/-- Settles O39: WATCH by the range, the list and its length; UNWATCH erases a pair that is listed. -/
theorem watchListCommands : Obligations.WatchListCommands := by
  intro s tag i st htakes w good
  have hrange : good ↔ ¬ (15 < w.template ∨ w.state = 0 ∨ 32 < w.state) := by
    simp only [good, w]
    omega
  have hcontains : (s.setLinkOut .zeros).gestures.watch.contains w = true ↔ w ∈ s.gestures.watch := List.contains_iff_mem
  refine ⟨fun hbad => ?_, fun hgood hlisted => ?_, fun hgood hnew hroom => ?_, fun hgood hnew hfull => ?_,
    fun a b hab ha => ?_, fun hnew => ?_⟩
  · refine (exec_watch_of_takes htakes).trans (congrArg _ ((if_pos ?_).trans (State.refuse_of_takes htakes _ _ _)))
    exact not_not.mp fun hout => hbad (hrange.mpr hout)
  · refine (exec_watch_of_takes htakes).trans (congrArg _ ?_)
    exact (if_neg (hrange.mp hgood)).trans ((if_pos (hcontains.mpr hlisted)).trans (State.done_of_takes htakes _ _ _))
  · refine (exec_watch_of_takes htakes).trans (congrArg _ ?_)
    exact (if_neg (hrange.mp hgood)).trans ((if_neg fun h => hnew (hcontains.mp h)).trans
      ((if_pos hroom).trans (State.done_of_takes (s := s.setWatch (s.gestures.watch ++ [w])) htakes _ _ _)))
  · refine (exec_watch_of_takes htakes).trans (congrArg _ ?_)
    exact (if_neg (hrange.mp hgood)).trans ((if_neg fun h => hnew (hcontains.mp h)).trans
      ((if_neg (Nat.not_lt.mpr hfull)).trans (State.refuse_of_takes htakes _ _ _)))
  · refine (exec_unwatch_of_takes htakes).trans ?_
    rw [hab, List.erase_append_right _ ha, List.erase_cons_head]
    rfl
  · refine (exec_unwatch_of_takes htakes).trans ?_
    rw [List.erase_of_not_mem hnew]
    rfl

/-! ## QUERY (R183) -/

theorem surfaceOf_code (u : Surface) : surfaceOf (byteOf u.code).toNat = some u := by cases u <;> rfl

theorem surfaceOf_eq_none {n : Nat} (h : 2 ≤ n) : surfaceOf n = none := by
  obtain ⟨k, rfl⟩ := Nat.exists_eq_add_of_le' h
  rfl

section
variable {s : State} (tag : Byte)

theorem State.answer_of_takes (h : s.takes) (selector : Byte) (b : List Byte) :
    (s.setLinkOut .zeros).answer tag selector b = s.replied tag 0x0A .done (selector :: b) := State.done_of_takes h _ _ _

theorem State.takeWrite_next (h : s.takes) {f : State → State} {t : State} (hf : f (s.setLinkOut .zeros) = t) :
    Host.Outcome.next (s.takeWrite f) = (.next t : Host.Outcome State Fault Refusal) :=
  congrArg Host.Outcome.next ((s.takeWrite_of_takes _ h).trans hf)

end

/-- Settles O55: each selector's command by what it names. -/
theorem queriesOnlyAnswer : Obligations.QueriesOnlyAnswer := by
  intro s tag h
  have hrefused : (s.setLinkOut .zeros).refuse tag 0x0A .range = s.replied tag 0x0A (.refused .range) [] :=
    State.refuse_of_takes h _ _ _
  refine ⟨State.takeWrite_next h (State.answer_of_takes tag h 0 _), State.takeWrite_next h (State.answer_of_takes tag h 2 _),
    State.takeWrite_next h (State.answer_of_takes tag h 3 _), State.takeWrite_next h (State.answer_of_takes tag h 4 _),
    fun u => State.takeWrite_next h ?_, fun code hcode => ⟨State.takeWrite_next h ?_, fun row => State.takeWrite_next h ?_⟩,
    fun u row => ⟨fun hrow => State.takeWrite_next h ?_, fun hrow => State.takeWrite_next h ?_⟩,
    fun kind part first count hpart => State.takeWrite_next h ?_,
    fun kind part first count p hpart => ⟨fun hfirst => ⟨_, State.takeWrite_next h ?_, rfl⟩, fun hfirst hlength => State.takeWrite_next h ?_⟩⟩
  · simp only [State.takeQueryTracks, surfaceOf_code]
    exact State.answer_of_takes tag h 1 _
  · simp only [State.takeQueryTracks, surfaceOf_eq_none hcode]
    exact hrefused
  · simp only [State.takeQueryBaseline, surfaceOf_eq_none hcode]
    exact hrefused
  · simp only [State.takeQueryBaseline, surfaceOf_code, if_pos hrow]
    have hbyte : byteOf row.toNat = row := BitVec.eq_of_toNat_eq (Nat.mod_eq_of_lt row.isLt)
    refine (State.answer_of_takes tag h 5 _).trans ?_
    simp only [State.baselineBytes, hbyte]
    rfl
  · simp only [State.takeQueryBaseline, surfaceOf_code, if_neg (Nat.not_lt.mpr hrow)]
    exact hrefused
  · simp only [State.takeQueryRange, hpart]
    exact hrefused
  · simp only [State.takeQueryRange, hpart]
    rw [if_neg]
    · exact State.answer_of_takes tag h 6 _
    · rintro ⟨hlength, hbeyond⟩
      obtain hfirst | hempty := hfirst
      · exact absurd hbeyond (Nat.not_le.mpr hfirst)
      · exact hlength hempty
  · simp only [State.takeQueryRange, hpart]
    exact (if_pos ⟨hlength, hfirst⟩).trans hrefused

end Sys2Proof.Machine

/-! FAULT, the condition summary and the NOTICEs of what rises (R180, R182): O12. -/

namespace Sys2Proof.Machine

/-! ## FAULT and the summary -/

theorem State.fault_iff (s : State) : s.fault = true ↔ (∃ u, (s.intake.get u).state = .failed) ∨ s.link.loss = true ∨
    (∃ u, 0 < (s.intake.get u).discarded) ∨ 0 < s.link.badWrites ∨ 0 < s.link.droppedWrites := by
  have hsurface (P : Intake → Prop) : (∃ u, P (s.intake.get u)) ↔ P s.intake.pad ∨ P s.intake.panel :=
    ⟨fun ⟨u, h⟩ => by cases u; exacts [.inl h, .inr h], fun h => h.elim (fun h => ⟨.pad, h⟩) fun h => ⟨.panel, h⟩⟩
  rw [hsurface fun i => i.state = .failed, hsurface fun i => 0 < i.discarded]
  simp only [State.fault, State.someFailed, Bool.or_eq_true, beq_iff_eq, decide_eq_true_eq]
  tauto

/-- The bits of a byte that is put together as the summary is (R182). -/
theorem summary_bits (seen fault pending : Bool) (p : Posture) :
    let b := byteOf (128 * seen.toNat + 64 * fault.toNat + 32 * pending.toNat + p.code)
    b.getLsbD 7 = seen ∧ b.getLsbD 6 = fault ∧ b.getLsbD 5 = pending ∧ b.getLsbD 4 = false ∧ b.getLsbD 3 = false ∧
      b.toNat % 8 = p.code := by
  cases p <;> decide +revert

/-! ## What rises -/

/-- Where neither FAULT nor report loss rises, no NOTICE is made (R180). -/
theorem State.noticeRises_of_steady {before s : State} (hfault : before.fault = true ∨ s.fault = false)
    (hloss : before.link.loss = true ∨ s.link.loss = false) : State.noticeRises before s = s := by
  have hnofault : (!before.fault && s.fault) = false := by obtain h | h := hfault <;> simp [h]
  have hnoloss : (!before.link.loss && s.link.loss) = false := by obtain h | h := hloss <;> simp [h]
  simp [State.noticeRises, hnofault, hnoloss]

theorem State.noticeRises_of_fault {before s : State} (hbefore : before.fault = false) (hfault : s.fault = true)
    (hloss : before.link.loss = true ∨ s.link.loss = false) :
    State.noticeRises before s = s.offerNotice .faultRising := by
  have hnoloss : (!before.link.loss && s.link.loss) = false := by obtain h | h := hloss <;> simp [h]
  simp [State.noticeRises, hbefore, hfault, hnoloss]

theorem State.noticeRises_of_loss {before s : State} (hfault : before.fault = true) (hbefore : before.link.loss = false)
    (hloss : s.link.loss = true) : State.noticeRises before s = s.offerNotice .lossRising := by
  simp [State.noticeRises, hfault, hbefore, hloss]

theorem State.noticeRises_of_both {before s : State} (hfault : before.fault = false) (hbefore : before.link.loss = false)
    (hloss : s.link.loss = true) :
    State.noticeRises before s = (s.offerNotice .faultRising).offerNotice .lossRising := by
  have hrisen : s.fault = true := s.fault_iff.mpr (.inr (.inl hloss))
  simp [State.noticeRises, hfault, hbefore, hloss, hrisen]

/-- A NOTICE that finds a place stands at the tail of the queue (R177). -/
theorem State.offerNotice_of_place {s : State} (h : s.queue.length < 32) (n : Notice) : s.offerNotice n = s.noticed n := by
  obtain ⟨-, heq⟩ | ⟨hfull, -⟩ := s.offerNotice_cases n
  · exact heq
  · exact absurd h (Nat.not_lt.mpr hfull)

/-- A NOTICE at a full queue is owed (R180). -/
theorem State.offerNotice_of_full {s : State} (h : 32 ≤ s.queue.length) (n : Notice) :
    s.offerNotice n = { s with link := { s.link with owed := s.link.owed.add n } } := by
  obtain ⟨hplace, -⟩ | ⟨-, heq⟩ := s.offerNotice_cases n
  · exact absurd hplace (Nat.not_lt.mpr h)
  · exact heq

theorem State.noticed_length (s : State) (n : Notice) : (s.noticed n).queue.length = s.queue.length + 1 := by
  simp [State.noticed]

/-- Settles O12: the summary's bits, FAULT's causes, and the NOTICEs by what rises and the room for them. -/
theorem faultShowsAndRises : Obligations.FaultShowsAndRises := by
  refine ⟨fun s => ⟨summary_bits s.link.resetSeen s.fault s.tables.commit.isSome s.posture, s.fault_iff⟩, fun before s => ?_⟩
  refine ⟨fun hbefore hfault hloss => ?_, fun hfault hbefore hloss => ?_, fun hfault hloss hbefore hroom => ?_,
    fun hfault hloss hbefore hroom => ?_, fun hfault hloss hbefore hfull => ?_, State.noticeRises_of_steady⟩
  · rw [State.noticeRises_of_fault hbefore hfault hloss]
    exact ⟨fun h => State.offerNotice_of_place h _, fun h => State.offerNotice_of_full h _⟩
  · rw [State.noticeRises_of_loss hfault hbefore hloss]
    exact ⟨fun h => State.offerNotice_of_place h _, fun h => State.offerNotice_of_full h _⟩
  · have hfirst : s.offerNotice .faultRising = s.noticed .faultRising := State.offerNotice_of_place (by omega) _
    rw [State.noticeRises_of_both hfault hbefore hloss, hfirst]
    exact State.offerNotice_of_place (by rw [s.noticed_length]; omega) _
  · have hfirst : s.offerNotice .faultRising = s.noticed .faultRising := State.offerNotice_of_place (by omega) _
    rw [State.noticeRises_of_both hfault hbefore hloss, hfirst]
    exact State.offerNotice_of_full (by rw [s.noticed_length]; omega) _
  · rw [State.noticeRises_of_both hfault hbefore hloss, State.offerNotice_of_full hfull]
    exact State.offerNotice_of_full (s := { s with link := { s.link with owed := s.link.owed.add .faultRising } }) hfull _

end Sys2Proof.Machine

/-! Surface states, closing requests and recapture, said once (R9 to R13, R29): O41, O53. -/

namespace Sys2Proof.Machine

section
variable (s : State) {u : Surface}

/-! ## One change after another -/

theorem State.onIntake_onIntake (u : Surface) (f g : Intake → Intake) :
    (s.onIntake u f).onIntake u g = s.onIntake u fun i => g (f i) := by
  cases u <;> rfl

theorem State.onIntake_congr {f g : Intake → Intake} (h : f (s.intake.get u) = g (s.intake.get u)) :
    s.onIntake u f = s.onIntake u g := by
  rw [State.onIntake, h]
  rfl

theorem State.onIntake_same {f : Intake → Intake} (h : f (s.intake.get u) = s.intake.get u) : s.onIntake u f = s := by
  rw [State.onIntake, h]
  cases u <;> rfl

theorem State.onIntake_get (u : Surface) (f : Intake → Intake) : (s.onIntake u f).intake.get u = f (s.intake.get u) :=
  PerSurface.get_set_same _ _ _

/-- The NOTICE of a surface's state reads no more of the intake than the states (R180). -/
theorem State.surfaceNotice_congr {s t : State} (v : Surface)
    (hpad : t.intake.pad.state = s.intake.pad.state) (hpanel : t.intake.panel.state = s.intake.panel.state)
    (hsame : t = { s with intake := t.intake, engine := t.engine }) :
    t.surfaceNotice v = { s.surfaceNotice v with intake := t.intake, engine := t.engine } := by
  rw [State.surfaceNotice, hpad, hpanel, hsame, State.surfaceNotice]
  unfold State.offerNotice
  dsimp only
  split <;> rfl

/-- A NOTICE is made before or after a change of the surface's other values alike. -/
theorem State.surfaceNotice_onIntake (v : Surface) {f : Intake → Intake}
    (hf : (f (s.intake.get u)).state = (s.intake.get u).state) :
    (s.surfaceNotice v).onIntake u f = (s.onIntake u f).surfaceNotice v := by
  have hintake : (s.surfaceNotice v).intake = s.intake := State.offerNotice_intake _ _
  have hengine : (s.surfaceNotice v).engine = s.engine := State.offerNotice_engine _ _
  rw [State.surfaceNotice_congr (s := s) (t := s.onIntake u f) v (by cases u; exacts [hf, rfl])
    (by cases u; exacts [rfl, hf]) rfl, State.onIntake, hintake, State.onIntake_engine, ← hengine]
  rfl

theorem State.surfaceNotice_setWaitList (v : Surface) (l : List WaitItem) :
    (s.surfaceNotice v).setWaitList l = (s.setWaitList l).surfaceNotice v := by
  have hintake : (s.surfaceNotice v).intake = s.intake := State.offerNotice_intake _ _
  have hengine : (s.surfaceNotice v).engine = s.engine := State.offerNotice_engine _ _
  rw [State.surfaceNotice_congr (s := s) (t := s.setWaitList l) v rfl rfl rfl, State.setWaitList, hengine,
    State.setWaitList_intake, ← hintake]
  rfl

/-! ## Surface states (R10 to R12) -/

/-- A surface enters another state, with its NOTICE (R10). -/
theorem State.enterState_of_change {st : SurfaceState} (h : (s.intake.get u).state ≠ st) :
    s.enterState u st = (s.onIntake u fun i =>
      { i with state := st, timeout := if st == .off || st == .failed then none else i.timeout }).surfaceNotice u :=
  if_pos (bne_iff_ne.mpr h)

theorem State.enterState_of_same {st : SurfaceState} (h : (s.intake.get u).state = st) :
    s.enterState u st = s.onIntake u fun i =>
      { i with state := st, timeout := if st == .off || st == .failed then none else i.timeout } :=
  if_neg (by simp [h])

theorem State.enterAcquire_of_change (k : Bool) (h : (s.intake.get u).state ≠ .acquire) :
    s.enterAcquire u k = (s.onIntake u fun i => { i with
      state := .acquire, timeout := s.timeoutFromNow, errorRun := if k then i.errorRun else 0 }).surfaceNotice u := by
  have hstate : ((s.onIntake u fun i =>
      { i with timeout := s.timeoutFromNow, errorRun := if k then i.errorRun else 0 }).intake.get u).state ≠ .acquire := by
    rwa [State.onIntake_get]
  unfold State.enterAcquire
  rw [State.enterState_of_change _ hstate, State.onIntake_onIntake]
  rfl

/-! ## Closing requests with outcome NONE (R11, R12, R29) -/

theorem merge_none (o : ClosingOutcome) : o.merge .none = o := rfl

theorem mergeClosing_none (w : WaitItem) : mergeClosing u .none w = w := by
  unfold mergeClosing
  split
  next old hwork =>
    rw [merge_none, ← hwork]
    exact ite_self w
  · rfl

/-- The wait list with a request of outcome NONE posted: nothing is added to one that waits (R13). -/
def State.postedNone (s : State) (u : Surface) : List WaitItem :=
  s.engine.waitList.filter (fun w => !w.isFrame u) ++
    (if s.closingWaits u = true then [] else [⟨s.now, u, .closing .none⟩])

theorem not_isFrame_of_isClosing {w : WaitItem} (h : w.isClosing u = true) : w.isFrame u = false := by
  obtain ⟨-, o, hwork⟩ := WaitItem.isClosing_iff.mp h
  simp [WaitItem.isFrame, hwork]

theorem closing_waits_among_kept : (s.engine.waitList.filter fun w => !w.isFrame u).any (·.isClosing u) = s.closingWaits u := by
  rw [State.closingWaits, List.any_filter]
  refine congrArg (List.any _) (funext fun w => ?_)
  cases h : w.isClosing u
  · exact Bool.and_false _
  · rw [not_isFrame_of_isClosing h]
    rfl

theorem State.postClosing_none : s.postClosing u .none = (s.onIntake u fun i => { i with ready := none }).setWaitList (s.postedNone u) := by
  have hid : (mergeClosing u ClosingOutcome.none) = id := funext fun w => mergeClosing_none w
  unfold State.postClosing
  dsimp only
  rw [closing_waits_among_kept, hid, List.map_id, State.postedNone]
  cases s.closingWaits u
  · rfl
  · rw [if_pos rfl, if_pos rfl, List.append_nil]
    rfl

/-- A surface's change of state and its closing request of outcome NONE, as one change and the NOTICE. -/
theorem State.noticed_postClosing_none {f : Intake → Intake} :
    (((s.onIntake u f).surfaceNotice u).postClosing u .none) =
      ((s.onIntake u fun i => { f i with ready := none }).setWaitList (s.postedNone u)).surfaceNotice u := by
  have hlist : ((s.onIntake u f).surfaceNotice u).postedNone u = s.postedNone u := by
    have hengine : ((s.onIntake u f).surfaceNotice u).engine = s.engine := State.offerNotice_engine _ _
    have hnow : ((s.onIntake u f).surfaceNotice u).now = s.now := State.offerNotice_now _ _
    rw [State.postedNone, State.closingWaits, hengine, hnow]
    rfl
  rw [State.postClosing_none, hlist, State.surfaceNotice_onIntake _ _ (by rfl), State.surfaceNotice_setWaitList,
    State.onIntake_onIntake]

theorem State.failSurface_of_change (h : (s.intake.get u).state ≠ .failed) : s.failSurface u =
    ((s.onIntake u fun i => { i with state := .failed, timeout := none, ready := none }).setWaitList
      (s.postedNone u)).surfaceNotice u := by
  unfold State.failSurface
  rw [State.enterState_of_change _ h, State.noticed_postClosing_none]
  rfl

theorem State.recapture_of_change (h : (s.intake.get u).state ≠ .acquire) : s.recapture u =
    ((s.onIntake u fun i => { i with state := .acquire, timeout := s.timeoutFromNow, ready := none }).setWaitList
      (s.postedNone u)).surfaceNotice u := by
  unfold State.recapture
  rw [State.enterAcquire_of_change _ true h, State.noticed_postClosing_none]
  rfl

end

/-! ## Reached deadlines (R12, R84, R134) -/

theorem State.processed_iff (s : State) (u : Surface) :
    s.processed u = true ↔ (s.intake.get u).state = .acquire ∨ (s.intake.get u).state = .live := by
  simp [State.processed]

theorem not_reached {now d : Time} (h : 2 ^ 31 ≤ (now - d).toNat) : reached now d = false :=
  decide_eq_false (Nat.not_lt.mpr h)

/-- Settles O41: each deadline by whether it is reached. -/
theorem reachedDeadlinesTakeEffect : Obligations.ReachedDeadlinesTakeEffect := by
  refine ⟨fun s u d htimeout => ⟨fun hreached hstate => ?_, fun hlate => ?_⟩,
    fun s n e d he hd => ⟨fun hreached => ?_, fun hlate => ?_⟩, fun s k c d hc htimer => ⟨fun hreached => ?_, fun hlate => ?_⟩⟩
  · have hdue : ((s.intake.get u).timeout.any (reached s.now) && s.processed u) = true := by
      rw [htimeout, (s.processed_iff u).mpr hstate]
      simpa [reached] using hreached
    have hchange : (s.intake.get u).state ≠ .failed := by obtain h | h := hstate <;> rw [h] <;> exact nofun
    exact congrArg Host.Outcome.next ((if_pos hdue).trans (by rw [s.failSurface_of_change hchange]; rfl))
  · refine congrArg Host.Outcome.next (if_neg ?_)
    simp [htimeout, not_reached hlate]
  · refine congrArg Host.Outcome.next ?_
    have hdue : e.deadline.any (reached s.now) = true := by simpa [hd, reached] using hreached
    simp only [he, hdue, if_true, List.eraseIdx_eq_take_drop_succ]
  · refine congrArg Host.Outcome.next ?_
    simp [he, hd, not_reached hlate]
  · have hdue : ContextTimer.due ⟨d, none⟩ s.now = true := by simpa [ContextTimer.due, reached] using hreached
    refine congrArg Host.Outcome.next ?_
    simp only [hc, htimer, Option.bind_some, hdue, if_true]
    rw [State.onContext_of_running hc]
    rfl
  · have hdue : ContextTimer.due ⟨d, none⟩ s.now = false := by simp [ContextTimer.due, not_reached hlate]
    refine congrArg Host.Outcome.next ?_
    simp [hc, htimer, hdue]

/-! ## RECAL (R30) -/

theorem State.fault_onIntake (s : State) (u : Surface) {f : Intake → Intake} (hfailed : (f (s.intake.get u)).state = .failed → (s.intake.get u).state = .failed)
    (hdiscarded : (f (s.intake.get u)).discarded = (s.intake.get u).discarded) (h : (s.onIntake u f).fault = true) :
    s.fault = true := by
  rw [State.fault_iff] at h ⊢
  have hget (v : Surface) : (s.onIntake u f).intake.get v = if v = u then f (s.intake.get u) else s.intake.get v :=
    PerSurface.get_set _ _ _ _
  obtain ⟨v, hv⟩ | hloss | ⟨v, hv⟩ | hbad | hdropped := h
  · rw [hget] at hv
    split at hv
    next heq => exact .inl ⟨u, hfailed hv⟩
    · exact .inl ⟨v, hv⟩
  · exact .inr (.inl hloss)
  · rw [hget] at hv
    split at hv
    next heq => exact .inr (.inr (.inl ⟨u, hdiscarded ▸ hv⟩))
    · exact .inr (.inr (.inl ⟨v, hv⟩))
  · exact .inr (.inr (.inr (.inl hbad)))
  · exact .inr (.inr (.inr (.inr hdropped)))

/-- A surface's NOTICE changes neither FAULT nor report loss. -/
theorem State.surfaceNotice_faultless (s : State) (u : Surface) :
    (s.surfaceNotice u).fault = s.fault ∧ (s.surfaceNotice u).link.loss = s.link.loss := by
  obtain ⟨-, heq⟩ | ⟨-, heq⟩ := s.offerNotice_cases (.surface s.intake.pad.state s.intake.panel.state (u == .pad) (u == .panel)) <;>
    rw [State.surfaceNotice, heq] <;> exact ⟨rfl, rfl⟩

theorem State.noticeRises_surfaceNotice {before s : State} (u : Surface) (hfault : s.fault = true → before.fault = true)
    (hloss : s.link.loss = before.link.loss) : State.noticeRises before (s.surfaceNotice u) = s.surfaceNotice u := by
  obtain ⟨hf, hl⟩ := s.surfaceNotice_faultless u
  refine State.noticeRises_of_steady ?_ ?_
  · rw [hf]
    cases h : s.fault
    · exact .inr rfl
    · exact .inl (hfault h)
  · rw [hl, hloss]
    cases before.link.loss
    · exact .inr rfl
    · exact .inl rfl

theorem State.recapture_notices (s : State) {u : Surface} (h : (s.intake.get u).state ≠ .acquire) :
    State.noticeRises s (s.recapture u) = s.recapture u := by
  rw [s.recapture_of_change h]
  refine State.noticeRises_surfaceNotice u (fun hfault => s.fault_onIntake u (f := fun i =>
    { i with state := .acquire, timeout := s.timeoutFromNow, ready := none }) nofun rfl hfault) rfl

/-- Settles O53: RECAL by the surface its code names and that surface's state. -/
theorem recalsRecapture : Obligations.RecalsRecapture := by
  refine ⟨fun s tag code htakes hcode => State.takeWrite_next htakes ?_, fun s tag u htakes =>
    ⟨fun hstate => State.takeWrite_next htakes ?_, fun hstate => State.takeWrite_next htakes ?_,
      fun hlive hopen => State.takeWrite_next htakes ?_⟩⟩
  · simp only [State.takeRecal, surfaceOf_eq_none hcode]
    exact State.refuse_of_takes htakes _ _ _
  · have hrefused : (s.setLinkOut .zeros).refuse tag 0x09 .state = s.replied tag 0x09 (.refused .state) [] :=
      State.refuse_of_takes htakes _ _ _
    obtain hstate | hstate := hstate <;> simp only [State.takeRecal, surfaceOf_code, State.setLinkOut_intake, hstate] <;>
      exact hrefused
  · have hdone : (s.setLinkOut .zeros).done tag 0x09 [] = s.replied tag 0x09 .done [] := State.done_of_takes htakes _ _ _
    obtain hstate | ⟨hstate, hshut⟩ := hstate
    · simp only [State.takeRecal, surfaceOf_code, State.setLinkOut_intake, hstate]
      exact hdone
    · have hshut' : (s.setLinkOut .zeros).shut u = true := hshut
      simp only [State.takeRecal, surfaceOf_code, State.setLinkOut_intake, hstate, hshut', if_true]
      exact hdone
  · have hopen' : (s.setLinkOut .zeros).shut u = false := hopen
    have hchange : ((s.setLinkOut .zeros).intake.get u).state ≠ .acquire := by rw [State.setLinkOut_intake, hlive]; exact nofun
    simp only [State.takeRecal, surfaceOf_code, State.setLinkOut_intake, hlive, hopen', Bool.false_eq_true, if_false]
    rw [State.recapture_notices _ hchange, State.recapture_of_change _ hchange]
    rfl

end Sys2Proof.Machine

/-! Scan intake (01, sections 1.2 to 1.4): rows and bytes, discards, valid frames: O13, O14, O15. -/

namespace Sys2Proof.Machine

/-! ## Two-byte fields in their bytes (R190) -/

theorem joinBytes_toNat (hi lo : Byte) : (joinBytes hi lo).toNat = hi.toNat * 256 + lo.toNat := by
  rw [joinBytes, BitVec.toNat_append, ← Nat.shiftLeft_add_eq_or_of_lt lo.isLt, Nat.shiftLeft_eq]

theorem halves_toNat (f : Half) : (f.extractLsb' 8 8).toNat = f.toNat / 256 ∧ (f.extractLsb' 0 8).toNat = f.toNat % 256 := by
  have hlt : f.toNat < 65536 := f.isLt
  rw [BitVec.extractLsb'_toNat, BitVec.extractLsb'_toNat, Nat.shiftRight_eq_div_pow, Nat.shiftRight_zero]
  omega

theorem joinBytes_halves (f : Half) : joinBytes (f.extractLsb' 8 8) (f.extractLsb' 0 8) = f := by
  obtain ⟨hhi, hlo⟩ := halves_toNat f
  refine BitVec.eq_of_toNat_eq ?_
  rw [joinBytes_toNat, hhi, hlo]
  omega

theorem halfBytes_joinBytes (hi lo : Byte) : halfBytes (joinBytes hi lo) = [hi, lo] := by
  obtain ⟨hhi, hlo⟩ := halves_toNat (joinBytes hi lo)
  have hlt : lo.toNat < 256 := lo.isLt
  rw [joinBytes_toNat] at hhi hlo
  rw [halfBytes, show (joinBytes hi lo).extractLsb' 8 8 = hi from BitVec.eq_of_toNat_eq (by omega),
    show (joinBytes hi lo).extractLsb' 0 8 = lo from BitVec.eq_of_toNat_eq (by omega)]

theorem halves_length (fields : List Half) : (fields.flatMap halfBytes).length = 2 * fields.length := by
  induction fields with
  | nil => rfl
  | cons f fields ih =>
    rw [List.flatMap_cons, List.length_append, ih, List.length_cons]
    simp only [halfBytes, List.length_cons, List.length_nil]
    omega

/-- An even number of bytes are the bytes of fields. -/
theorem exists_halves (n : Nat) (l : List Byte) (h : l.length = 2 * n) :
    ∃ fields : List Half, fields.length = n ∧ l = fields.flatMap halfBytes := by
  induction n generalizing l with
  | zero => exact ⟨[], rfl, List.length_eq_zero_iff.mp h⟩
  | succ n ih =>
    match l, h with
    | hi :: lo :: l, h =>
      obtain ⟨fields, hlength, rfl⟩ := ih l (by simpa [Nat.mul_succ] using h)
      exact ⟨joinBytes hi lo :: fields, by rw [List.length_cons, hlength], by rw [List.flatMap_cons, halfBytes_joinBytes]; rfl⟩

theorem rawFields_halves (fields : List Half) : rawFields (fields.flatMap halfBytes) = fields.map BitVec.toNat := by
  induction fields with
  | nil => rfl
  | cons f fields ih =>
    rw [List.flatMap_cons]
    simp only [halfBytes, List.cons_append, List.nil_append, rawFields, joinBytes_halves, ih, List.map_cons]

/-! ## Rows (R4) -/

theorem surface_rows_lt (u : Surface) : u.rows < 256 := by cases u <;> decide

theorem byteOf_toNat {n : Nat} (h : n < 256) : (byteOf n).toNat = n := by
  rw [byteOf, BitVec.toNat_ofNat, Nat.mod_eq_of_lt h]

theorem byteOf_self (b : Byte) : byteOf b.toNat = b := BitVec.eq_of_toNat_eq (byteOf_toNat b.isLt)

theorem rowFits_iff (u : Surface) (expected : Nat) (body : List Byte) :
    rowFits u expected body = true ↔ expectedRow u expected body := by
  constructor
  · intro h
    match body, h with
    | index :: fields, h =>
      simp only [rowFits, Bool.and_eq_true, beq_iff_eq, decide_eq_true_eq] at h
      obtain ⟨⟨⟨-, hindex⟩, hlt⟩, hlength⟩ := h
      obtain ⟨fs, hfs, rfl⟩ := exists_halves u.columns fields hlength
      exact ⟨hlt, fs, hfs, by rw [rowBody, ← hindex, byteOf_self]⟩
  · rintro ⟨hlt, fs, hfs, rfl⟩
    have hindex : (byteOf expected).toNat = expected := byteOf_toNat (hlt.trans (surface_rows_lt u))
    have hlength : (fs.flatMap halfBytes).length = 2 * u.columns := by rw [halves_length, hfs]
    simp only [rowFits, rowBody, hlength, hindex, hlt, Nat.mul_mod_right, decide_true, beq_self_eq_true, Bool.and_self]

/-- A row taken, by its fields (R4). -/
theorem takeRow_rowBody (r : Receiver) (n : Nat) (fields : List Half) : r.takeRow (rowBody n fields).tail =
    { r with expected := r.expected + 1, samples := r.samples ++ [fields.map fun f => min f.toNat 4095],
             check := checkBytes r.check (fields.flatMap halfBytes) } := by
  have hsamples : (rawFields (fields.flatMap halfBytes)).map (min 4095) = fields.map fun f => min f.toNat 4095 := by
    rw [rawFields_halves, List.map_map]
    exact List.map_congr_left fun f _ => Nat.min_comm 4095 _
  rw [rowBody, List.tail_cons, Receiver.takeRow, hsamples]

section
variable (s : State) {u : Surface}

/-! ## NOTICEs that do not rise (R180) -/

/-- A change of the intake that leaves the surface's state and its discards alone makes no NOTICE. -/
theorem State.noticeRises_onIntake (u : Surface) {f : Intake → Intake}
    (hstate : (f (s.intake.get u)).state = .failed → (s.intake.get u).state = .failed)
    (hdiscarded : (f (s.intake.get u)).discarded = (s.intake.get u).discarded) :
    State.noticeRises s (s.onIntake u f) = s.onIntake u f := by
  refine State.noticeRises_of_steady ?_ ?_
  · cases h : (s.onIntake u f).fault
    · exact .inr rfl
    · exact .inl (s.fault_onIntake u hstate hdiscarded h)
  · cases h : s.link.loss
    · exact .inr h
    · exact .inl rfl

theorem State.noticeRises_self : State.noticeRises s s = s := State.noticeRises_of_same rfl rfl

/-! ## Discards (R7, R11) -/

/-- `n` more discards counted, and the receiver as they leave it. -/
def State.discards (u : Surface) (r : Receiver) (n : Nat) : State := s.onIntake u fun i =>
  { i with recv := r, discarded := min (i.discarded + n) 65535, errorRun := min (i.errorRun + n) 65535 }

/-- The surface is in ACQUIRE or LIVE, and its `n`-th discard from now on fails it (R11). -/
def State.failsAt (u : Surface) (n : Nat) : Prop :=
  ((s.intake.get u).state = .acquire ∨ (s.intake.get u).state = .live) ∧ (s.intake.get u).errorRun + n = 8

theorem State.shut_onIntake {f : Intake → Intake} (h : (f (s.intake.get u)).state = (s.intake.get u).state) :
    (s.onIntake u f).shut u = s.shut u := by
  rw [State.shut, State.onIntake_get, h]
  rfl

theorem State.discardFrame_of_shut (h : s.shut u = true) :
    s.discardFrame u = s.onIntake u fun i => { i with recv := Receiver.idle .discarding } := if_pos h

theorem State.discardFrame_of_open (h : s.shut u = false) : s.discardFrame u =
    if ((s.discards u (Receiver.idle .discarding) 1).processed u &&
        ((s.discards u (Receiver.idle .discarding) 1).intake.get u).errorRun == 8) = true then
      (s.discards u (Receiver.idle .discarding) 1).failSurface u
    else s.discards u (Receiver.idle .discarding) 1 := by
  have hcount : (s.setReceiver u (Receiver.idle .discarding)).onIntake u Intake.countDiscard =
      s.discards u (Receiver.idle .discarding) 1 := by
    rw [State.setReceiver, State.onIntake_onIntake]
    rfl
  unfold State.discardFrame
  rw [if_neg (by simp [h]), hcount]

theorem State.discards_fails_iff (r : Receiver) : ((s.discards u r 1).processed u &&
    ((s.discards u r 1).intake.get u).errorRun == 8) = true ↔ s.failsAt u 1 := by
  rw [Bool.and_eq_true, beq_iff_eq, State.processed_iff, State.discards, State.onIntake_get, State.failsAt]
  exact and_congr_right fun _ => by
    show min ((s.intake.get u).errorRun + 1) 65535 = 8 ↔ _
    omega

theorem State.discardFrame_fails (h : s.shut u = false) (hfails : s.failsAt u 1) :
    s.discardFrame u = (s.discards u (Receiver.idle .discarding) 1).failSurface u := by
  rw [s.discardFrame_of_open h, if_pos ((s.discards_fails_iff _).mpr hfails)]

theorem State.discardFrame_stays (h : s.shut u = false) (hstays : ¬ s.failsAt u 1) :
    s.discardFrame u = s.discards u (Receiver.idle .discarding) 1 := by
  rw [s.discardFrame_of_open h, if_neg fun hf => hstays ((s.discards_fails_iff _).mp hf)]

theorem State.discards_discards (r r' : Receiver) (m n : Nat) :
    (s.discards u r m).discards u r' n = s.discards u r' (m + n) := by
  have hcount (x : Nat) : min (min (x + m) 65535 + n) 65535 = min (x + (m + n)) 65535 := by omega
  rw [State.discards, State.discards, State.onIntake_onIntake]
  exact State.onIntake_congr s (by simp only [hcount])

theorem State.discards_setReceiver (r r' : Receiver) (n : Nat) : (s.discards u r n).setReceiver u r' = s.discards u r' n := by
  rw [State.setReceiver, State.discards, State.onIntake_onIntake]
  rfl

/-- A surface that is not failed yet fails before or after a change of its other values alike. -/
theorem State.failSurface_onIntake {f : Intake → Intake} (hstate : (s.intake.get u).state ≠ .failed)
    (hf : (f (s.intake.get u)).state = (s.intake.get u).state)
    (hother : ∀ i : Intake, f { i with state := .failed, timeout := none, ready := none } =
      { f i with state := .failed, timeout := none, ready := none }) :
    (s.failSurface u).onIntake u f = (s.onIntake u f).failSurface u := by
  have hstate' : ((s.onIntake u f).intake.get u).state ≠ .failed := by rwa [State.onIntake_get, hf]
  have hget (g : Intake → Intake) (l : List WaitItem) : (((s.onIntake u g).setWaitList l).intake.get u) = g (s.intake.get u) :=
    s.onIntake_get u g
  rw [State.failSurface_of_change _ hstate, State.failSurface_of_change _ hstate', State.surfaceNotice_onIntake]
  · refine congrArg (State.surfaceNotice · u) ?_
    rw [show (s.onIntake u f).postedNone u = s.postedNone u from rfl, State.onIntake_onIntake, ← funext hother,
      ← State.onIntake_onIntake s u _ f]
    rfl
  · rw [hget, hother]

theorem State.failSurface_state (hstate : (s.intake.get u).state ≠ .failed) : ((s.failSurface u).intake.get u).state = .failed := by
  have hintake (t : State) : (t.surfaceNotice u).intake = t.intake := State.offerNotice_intake _ _
  rw [State.failSurface_of_change _ hstate, hintake]
  exact congrArg Intake.state (s.onIntake_get u fun i => { i with state := .failed, timeout := none, ready := none })

/-- A surface that fails is not shut by it (R9, R11). -/
theorem State.failSurface_shut (hstate : (s.intake.get u).state ≠ .failed) (h : s.shut u = false) : (s.failSurface u).shut u = false := by
  have hengine : (s.failSurface u).engine = { s.engine with waitList := s.postedNone u } := by
    rw [State.failSurface_of_change _ hstate]
    exact State.offerNotice_engine _ _
  simp only [State.shut, Bool.or_eq_false_iff, beq_eq_false_iff_ne] at h ⊢
  obtain ⟨⟨-, hwait⟩, hop⟩ := h
  rw [s.failSurface_state hstate, hengine]
  refine ⟨⟨nofun, List.any_eq_false.mpr fun w hw => ?_⟩, hop⟩
  obtain hw | hw := List.mem_append.mp hw
  · exact List.any_eq_false.mp hwait w (List.mem_of_mem_filter hw)
  · split at hw
    · cases hw
    · rw [List.mem_singleton.mp hw]
      simp [WaitItem.shuts, ClosingOutcome.shuts]

/-- Two discards in a row, as a frame start with a bad grid makes them (R3, R7). -/
theorem State.discardFrame_twice (h : s.shut u = false) :
    ((s.failsAt u 1 ∨ s.failsAt u 2) →
      (s.discardFrame u).discardFrame u = (s.discards u (Receiver.idle .discarding) 2).failSurface u) ∧
    ((¬ s.failsAt u 1 ∧ ¬ s.failsAt u 2) →
      (s.discardFrame u).discardFrame u = s.discards u (Receiver.idle .discarding) 2) := by
  have hopen : (s.discards u (Receiver.idle .discarding) 1).shut u = false := (State.shut_onIntake s (by rfl)).trans h
  have hnext : (s.discards u (Receiver.idle .discarding) 1).failsAt u 1 ↔ s.failsAt u 2 := by
    rw [State.failsAt, State.discards, State.onIntake_get]
    refine and_congr_right fun _ => ?_
    show min ((s.intake.get u).errorRun + 1) 65535 + 1 = 8 ↔ _
    omega
  have htwice : (s.discards u (Receiver.idle .discarding) 1).discards u (Receiver.idle .discarding) 1 =
      s.discards u (Receiver.idle .discarding) 2 := s.discards_discards _ _ 1 1
  constructor
  · rintro (hfirst | hsecond)
    · have hstate : ((s.discards u (Receiver.idle .discarding) 1).intake.get u).state ≠ .failed := by
        rw [State.discards, State.onIntake_get]
        show (s.intake.get u).state ≠ .failed
        obtain ⟨h | h, -⟩ := hfirst <;> rw [h] <;> exact nofun
      have hgone : ¬ ((s.discards u (Receiver.idle .discarding) 1).failSurface u).failsAt u 1 := by
        rw [State.failsAt, State.failSurface_state _ hstate]
        exact fun ⟨h, _⟩ => h.elim nofun nofun
      rw [s.discardFrame_fails h hfirst, State.discardFrame_stays _ (State.failSurface_shut _ hstate hopen) hgone,
        State.discards, State.failSurface_onIntake _ hstate rfl fun _ => rfl]
      exact congrArg (State.failSurface · u) htwice
    · have hfirst : ¬ s.failsAt u 1 := fun ⟨_, hrun⟩ => by
        have hrun' := hsecond.2
        omega
      rw [s.discardFrame_stays h hfirst, State.discardFrame_fails _ hopen (hnext.mpr hsecond), htwice]
  · rintro ⟨hfirst, hsecond⟩
    rw [s.discardFrame_stays h hfirst, State.discardFrame_stays _ hopen fun hf => hsecond (hnext.mp hf), htwice]

/-! ## The scan commands -/

variable {s}

theorem exec_frameStart_of_released (h : s.pinHeld = false) (frame : Half) (columns rows : Byte) :
    exec (.frameStart u frame columns rows) s = .next (State.noticeRises s (s.takeFrameStart u frame columns rows)) :=
  congrArg Host.Outcome.next (State.unlessHeld_of_released h)

theorem exec_rowRecord_of_released (h : s.pinHeld = false) (body : List Byte) :
    exec (.rowRecord u body) s = .next (State.noticeRises s (s.takeRowRecord u body)) :=
  congrArg Host.Outcome.next (State.unlessHeld_of_released h)

theorem exec_frameEnd_of_released (h : s.pinHeld = false) (frame check : Half) :
    exec (.frameEnd u frame check) s = .next (State.noticeRises s (s.takeFrameEnd u frame check)) :=
  congrArg Host.Outcome.next (State.unlessHeld_of_released h)

/-- A change of the receiver alone makes no NOTICE. -/
theorem State.noticeRises_setReceiver (r : Receiver) : State.noticeRises s (s.setReceiver u r) = s.setReceiver u r :=
  s.noticeRises_onIntake u (f := fun i => { i with recv := r }) id rfl

theorem gridMatches_iff (columns rows : Byte) :
    gridMatches u columns rows = true ↔ columns.toNat = u.columns ∧ rows.toNat = u.rows := by
  simp [gridMatches]

theorem State.examineStart_of_good {columns rows : Byte} (h : gridMatches u columns rows = true) (frame : Half) :
    s.examineStart u frame columns rows = s.setReceiver u (Receiver.start frame) := if_pos h

theorem State.examineStart_of_bad {columns rows : Byte} (h : ¬ gridMatches u columns rows = true) (frame : Half) :
    s.examineStart u frame columns rows = s.discardFrame u := if_neg h

theorem State.takeFrameStart_fresh (h : (s.intake.get u).recv.cond ≠ .assembling) (frame : Half) (columns rows : Byte) :
    s.takeFrameStart u frame columns rows = s.examineStart u frame columns rows :=
  congrArg (State.examineStart · u frame columns rows) (if_neg h)

theorem State.takeFrameStart_over (h : (s.intake.get u).recv.cond = .assembling) (frame : Half) (columns rows : Byte) :
    s.takeFrameStart u frame columns rows = (s.discardFrame u).examineStart u frame columns rows :=
  congrArg (State.examineStart · u frame columns rows) (if_pos h)

theorem State.setReceiver_setReceiver (r r' : Receiver) : (s.setReceiver u r).setReceiver u r' = s.setReceiver u r' := by
  rw [State.setReceiver, State.setReceiver, State.onIntake_onIntake]
  rfl

/-- A rejected record discards its frame (R3 to R5). -/
theorem exec_of_rejects {c : Instr} (hpin : s.pinHeld = false) (h : s.rejects u c) :
    exec c s = .next (State.noticeRises s (s.discardFrame u)) := by
  cases c with
  | frameStart p frame columns rows =>
    obtain ⟨rfl, hcond, hgrid⟩ := h
    rw [exec_frameStart_of_released hpin, State.takeFrameStart_fresh hcond, State.examineStart_of_bad fun hg => hgrid ((gridMatches_iff _ _).mp hg)]
  | rowRecord p body =>
    obtain ⟨rfl, hcond, hrow⟩ := h
    have hunfit : ¬ rowFits p (s.intake.get p).recv.expected body = true := fun hf => hrow ((rowFits_iff _ _ _).mp hf)
    have hdiscard : s.takeRowRecord p body = s.discardFrame p := (if_pos hcond).trans (if_neg hunfit)
    rw [exec_rowRecord_of_released hpin, hdiscard]
  | frameEnd p frame check =>
    obtain ⟨rfl, hcond, hend⟩ := h
    have hinvalid : ¬ (s.intake.get p).recv.valid p frame check = true := fun hv => by
      simp only [Receiver.valid, Bool.and_eq_true, beq_iff_eq] at hv
      obtain ⟨⟨hrows, hframe⟩, hcheck⟩ := hv
      exact hend ⟨hrows, hframe, hcheck⟩
    have hdiscard : s.takeFrameEnd p frame check = s.discardFrame p := (if_pos hcond).trans (if_neg hinvalid)
    rw [exec_frameEnd_of_released hpin, hdiscard]
  | _ => exact h.elim

end

/-- Settles O13: a frame start by its grid and by what was under assembly; the row that is expected; and the discard of
each rejected record, by whether it fails the surface. -/
theorem framesAssembleOrAreDiscarded : Obligations.FramesAssembleOrAreDiscarded := by
  refine ⟨fun s u frame columns rows hpin => ?_, fun s u fields hpin hcond hexpected hlength => ?_, fun s u c hpin hrejects => ?_⟩
  · intro fails counted started
    have hfails1 : fails 1 ↔ s.failsAt u 1 := and_congr_right fun _ => by omega
    have hfails2 : fails 2 ↔ s.failsAt u 1 ∨ s.failsAt u 2 := by
      simp only [fails, State.failsAt]
      rw [← and_or_left]
      exact and_congr_right fun _ => by omega
    refine ⟨fun hcolumns hrows => ?_, fun hgrid hcond => ?_⟩
    · have hgood : gridMatches u columns rows = true := (gridMatches_iff _ _).mpr ⟨hcolumns, hrows⟩
      refine ⟨fun hfresh => ?_, fun hcond hopen => ⟨fun hf => ?_, fun hf => ?_⟩⟩ <;> rw [exec_frameStart_of_released hpin]
      · have hstart : s.takeFrameStart u frame columns rows = s.setReceiver u (Receiver.start frame) := by
          by_cases hcond : (s.intake.get u).recv.cond = .assembling
          · have hshut : s.shut u = true := hfresh.resolve_left (not_not_intro hcond)
            rw [State.takeFrameStart_over hcond, State.examineStart_of_good hgood, s.discardFrame_of_shut hshut]
            exact State.setReceiver_setReceiver _ _
          · rw [State.takeFrameStart_fresh hcond, State.examineStart_of_good hgood]
        rw [hstart, State.noticeRises_setReceiver]
        rfl
      · have hstate : ((s.discards u (Receiver.idle .discarding) 1).intake.get u).state ≠ .failed := by
          rw [State.discards, State.onIntake_get]
          show (s.intake.get u).state ≠ .failed
          obtain ⟨h | h, -⟩ := hf <;> rw [h] <;> exact nofun
        rw [State.takeFrameStart_over hcond, State.examineStart_of_good hgood, s.discardFrame_fails hopen (hfails1.mp hf),
          State.setReceiver, State.failSurface_onIntake _ hstate rfl fun _ => rfl]
        exact congrArg (fun t => Host.Outcome.next (State.noticeRises s (State.failSurface t u))) (s.discards_setReceiver _ _ _)
      · rw [State.takeFrameStart_over hcond, State.examineStart_of_good hgood,
          s.discardFrame_stays hopen fun h => hf (hfails1.mpr h), s.discards_setReceiver]
        rfl
    · have hbad : ¬ gridMatches u columns rows = true := fun h => hgrid ((gridMatches_iff _ _).mp h)
      rw [exec_frameStart_of_released hpin, State.takeFrameStart_over hcond, State.examineStart_of_bad hbad]
      refine ⟨fun hshut => ?_, fun hopen hf => ?_, fun hopen hf => ?_⟩
      · have hshut' : (s.onIntake u fun i => { i with recv := Receiver.idle .discarding }).shut u = true :=
          (State.shut_onIntake s (by rfl)).trans hshut
        rw [s.discardFrame_of_shut hshut, State.discardFrame_of_shut _ hshut', State.onIntake_onIntake]
        exact congrArg Host.Outcome.next (State.noticeRises_setReceiver _)
      · rw [(s.discardFrame_twice hopen).1 (hfails2.mp hf)]
        rfl
      · rw [(s.discardFrame_twice hopen).2 (not_or.mp fun h => hf (hfails2.mpr h))]
        rfl
  · have hfits : rowFits u (s.intake.get u).recv.expected (rowBody (s.intake.get u).recv.expected fields) = true :=
      (rowFits_iff _ _ _).mpr ⟨hexpected, fields, hlength, rfl⟩
    have htake : s.takeRowRecord u (rowBody (s.intake.get u).recv.expected fields) =
        s.setReceiver u ((s.intake.get u).recv.takeRow (rowBody (s.intake.get u).recv.expected fields).tail) :=
      (if_pos hcond).trans (if_pos hfits)
    rw [exec_rowRecord_of_released hpin, htake, State.noticeRises_setReceiver, takeRow_rowBody]
    exact congrArg Host.Outcome.next (State.onIntake_congr s rfl)
  · intro counted
    have hfails : ((s.intake.get u).state = .acquire ∨ (s.intake.get u).state = .live) ∧ (s.intake.get u).errorRun = 7 ↔
        s.failsAt u 1 := and_congr_right fun _ => by omega
    rw [exec_of_rejects hpin hrejects]
    refine ⟨fun hshut => ?_, fun hopen hf => ?_, fun hopen hf => ?_⟩
    · rw [s.discardFrame_of_shut hshut]
      exact congrArg Host.Outcome.next (State.noticeRises_setReceiver _)
    · rw [s.discardFrame_fails hopen (hfails.mp hf)]
      rfl
    · rw [s.discardFrame_stays hopen fun h => hf (hfails.mpr h)]
      rfl

end Sys2Proof.Machine

/-! Ignored records, valid frames, and a whole frame sent (01, sections 1.1 to 1.3): O14, O15, O16. -/

namespace Sys2Proof.Machine

section
variable {s : State} {u : Surface}

/-! ## Records that are ignored (R2, R4, R5, R93) -/

theorem exec_rowRecord_idle (h : (s.intake.get u).recv.cond ≠ .assembling) (body : List Byte) :
    exec (.rowRecord u body) s = .next s := by
  have htake : s.takeRowRecord u body = s := if_neg h
  refine congrArg Host.Outcome.next ?_
  obtain ⟨-, heq⟩ | ⟨-, heq⟩ := s.unlessHeld_cases fun s => State.noticeRises s (s.takeRowRecord u body)
  · exact heq
  · rw [heq, htake, s.noticeRises_self]

theorem exec_frameEnd_idle (h : (s.intake.get u).recv.cond ≠ .assembling) (frame check : Half) :
    exec (.frameEnd u frame check) s = .next s := by
  have htake : s.takeFrameEnd u frame check = s := if_neg h
  refine congrArg Host.Outcome.next ?_
  obtain ⟨-, heq⟩ | ⟨-, heq⟩ := s.unlessHeld_cases fun s => State.noticeRises s (s.takeFrameEnd u frame check)
  · exact heq
  · rw [heq, htake, s.noticeRises_self]

/-! ## Valid frames (R5, R9) -/

/-- The wait list with a surface's frame ready: it joins now, in the place of one that waited (R9). -/
def State.readied (s : State) (u : Surface) : List WaitItem :=
  s.engine.waitList.filter (fun w => !w.isFrame u) ++ [⟨s.now, u, .frame⟩]

theorem State.makeReady_eq (s : State) (u : Surface) (frame : Half) (samples : List (List Nat)) :
    s.makeReady u frame samples = (s.onIntake u fun i => { i with
      ready := some ⟨frame, s.now, samples⟩
      overruns := if i.ready.isSome then countUp i.overruns else i.overruns }).setWaitList (s.readied u) := rfl

theorem State.takeFrameEnd_valid (hcond : (s.intake.get u).recv.cond = .assembling) {frame check : Half}
    (hrows : (s.intake.get u).recv.expected = u.rows) (hframe : (s.intake.get u).recv.frame = frame)
    (hcheck : (s.intake.get u).recv.check = check) : s.takeFrameEnd u frame check =
      (s.setReceiver u (Receiver.idle .waiting)).disposeFrame u frame (s.intake.get u).recv.samples := by
  have hvalid : (s.intake.get u).recv.valid u frame check = true := by simp [Receiver.valid, hrows, hframe, hcheck]
  exact (if_pos hcond).trans (if_pos hvalid)

theorem State.disposeFrame_shut (h : s.shut u = true) (frame : Half) (samples : List (List Nat)) :
    s.disposeFrame u frame samples = s := if_pos h

theorem State.disposeFrame_processed (h : s.shut u = false) (hstate : (s.intake.get u).state ≠ .failed) (frame : Half)
    (samples : List (List Nat)) : s.disposeFrame u frame samples = (s.onIntake u fun i => { i with
      ready := some ⟨frame, s.now, samples⟩
      timeout := s.timeoutFromNow
      errorRun := 0
      overruns := if i.ready.isSome then countUp i.overruns else i.overruns }).setWaitList (s.readied u) := by
  have hdispose : s.disposeFrame u frame samples =
      (s.onIntake u fun i => { i with errorRun := 0, timeout := s.timeoutFromNow }).makeReady u frame samples :=
    (if_neg (by simp [h])).trans (if_neg hstate)
  rw [hdispose, State.makeReady_eq, State.onIntake_onIntake]
  rfl

theorem State.disposeFrame_failed (h : s.shut u = false) (hstate : (s.intake.get u).state = .failed) (frame : Half)
    (samples : List (List Nat)) : s.disposeFrame u frame samples = ((s.onIntake u fun i => { i with
      state := .acquire
      ready := some ⟨frame, s.now, samples⟩
      timeout := s.timeoutFromNow
      errorRun := 0
      overruns := if i.ready.isSome then countUp i.overruns else i.overruns }).setWaitList (s.readied u)).surfaceNotice u := by
  have hdispose : s.disposeFrame u frame samples = (s.enterAcquire u false).makeReady u frame samples :=
    (if_neg (by simp [h])).trans (if_pos hstate)
  have hnow (t : State) : (t.surfaceNotice u).now = t.now := State.offerNotice_now _ _
  have hlist (t : State) : (t.surfaceNotice u).readied u = t.readied u := by
    have hengine : (t.surfaceNotice u).engine = t.engine := State.offerNotice_engine _ _
    rw [State.readied, hengine, hnow]
    rfl
  rw [hdispose, s.enterAcquire_of_change false (by rw [hstate]; exact nofun), State.makeReady_eq, hlist, hnow,
    State.surfaceNotice_onIntake _ _ (by rfl), State.surfaceNotice_setWaitList, State.onIntake_onIntake]
  rfl

end

/-- Settles O14: each kind of ignored record by what makes it ignored. -/
theorem ignoredRecordsChangeNothing : Obligations.IgnoredRecordsChangeNothing := by
  refine ⟨⟨fun _ _ _ _ => rfl, fun s u h => ⟨exec_rowRecord_idle h, exec_frameEnd_idle h⟩⟩,
    fun s flags x y p tx ty q h => congrArg Host.Outcome.next ?_⟩
  have haside : s.setsAside = true := by
    by_contra hnot
    obtain ⟨hrun, henable, hpanel⟩ := s.setsAside_eq_false_iff.mp (by simpa using hnot)
    obtain h | h | h := h
    · exact h hrun
    · exact Bool.false_ne_true (h.symm.trans henable)
    · exact hpanel h
  obtain ⟨-, heq⟩ | ⟨-, heq⟩ := s.unlessHeld_cases fun s =>
    if s.setsAside then s
    else if sampleValid s.tune flags q then
      State.noticeRises s (s.takeValid (heldSample flags x y p tx ty q) (flags.getLsbD 1))
    else State.noticeRises s s.takeInvalid
  · exact heq
  · exact heq.trans (if_pos haside)

/-- A change of the intake and the wait list that leaves the surface's state and its discards alone makes no NOTICE. -/
theorem State.noticeRises_posted (s : State) (u : Surface) {f : Intake → Intake} (l : List WaitItem)
    (hstate : (f (s.intake.get u)).state = .failed → (s.intake.get u).state = .failed)
    (hdiscarded : (f (s.intake.get u)).discarded = (s.intake.get u).discarded) :
    State.noticeRises s ((s.onIntake u f).setWaitList l) = (s.onIntake u f).setWaitList l := by
  have hfault : ((s.onIntake u f).setWaitList l).fault = (s.onIntake u f).fault := rfl
  refine State.noticeRises_of_steady ?_ ?_
  · rw [hfault]
    cases h : (s.onIntake u f).fault
    · exact .inr rfl
    · exact .inl (s.fault_onIntake u hstate hdiscarded h)
  · cases h : s.link.loss
    · exact .inr h
    · exact .inl rfl

/-- A frame put in the ready buffer, its surface in this state (R9). -/
def State.readyFrame (s : State) (u : Surface) (st : SurfaceState) (frame : Half) : State :=
  (s.onIntake u fun i => { i with
      recv := Receiver.idle .waiting
      ready := some ⟨frame, s.now, i.recv.samples⟩
      state := st
      timeout := s.timeoutFromNow
      errorRun := 0
      overruns := if i.ready.isSome then countUp i.overruns else i.overruns }).setWaitList (s.readied u)

section
variable {s : State} {u : Surface} {frame check : Half} (hpin : s.pinHeld = false)
  (hcond : (s.intake.get u).recv.cond = .assembling) (hrows : (s.intake.get u).recv.expected = u.rows)
  (hframe : (s.intake.get u).recv.frame = frame) (hcheck : (s.intake.get u).recv.check = check)
include hpin hcond hrows hframe hcheck

theorem exec_frameEnd_valid : exec (.frameEnd u frame check) s = .next (State.noticeRises s
    ((s.setReceiver u (Receiver.idle .waiting)).disposeFrame u frame (s.intake.get u).recv.samples)) := by
  rw [exec_frameEnd_of_released hpin, State.takeFrameEnd_valid hcond hrows hframe hcheck]

theorem exec_frameEnd_of_shut (hshut : s.shut u = true) :
    exec (.frameEnd u frame check) s = .next (s.setReceiver u (Receiver.idle .waiting)) := by
  have hset : (s.setReceiver u (Receiver.idle .waiting)).shut u = true := (State.shut_onIntake s (by rfl)).trans hshut
  rw [exec_frameEnd_valid hpin hcond hrows hframe hcheck, State.disposeFrame_shut hset, State.noticeRises_setReceiver]

theorem exec_frameEnd_processed (hopen : s.shut u = false) (hstate : (s.intake.get u).state ≠ .failed) :
    exec (.frameEnd u frame check) s = .next (s.readyFrame u (s.intake.get u).state frame) := by
  have hset : (s.setReceiver u (Receiver.idle .waiting)).shut u = false := (State.shut_onIntake s (by rfl)).trans hopen
  have hstate' : ((s.setReceiver u (Receiver.idle .waiting)).intake.get u).state ≠ .failed := by
    rwa [State.setReceiver, State.onIntake_get]
  have hready : (s.setReceiver u (Receiver.idle .waiting)).disposeFrame u frame (s.intake.get u).recv.samples =
      s.readyFrame u (s.intake.get u).state frame := by
    rw [State.disposeFrame_processed hset hstate', State.setReceiver, State.onIntake_onIntake]
    exact congrArg (State.setWaitList · _) (State.onIntake_congr s rfl)
  rw [exec_frameEnd_valid hpin hcond hrows hframe hcheck, hready]
  exact congrArg Host.Outcome.next (s.noticeRises_posted u _ id rfl)

theorem exec_frameEnd_failed (hopen : s.shut u = false) (hstate : (s.intake.get u).state = .failed) :
    exec (.frameEnd u frame check) s = .next ((s.readyFrame u .acquire frame).surfaceNotice u) := by
  have hset : (s.setReceiver u (Receiver.idle .waiting)).shut u = false := (State.shut_onIntake s (by rfl)).trans hopen
  have hstate' : ((s.setReceiver u (Receiver.idle .waiting)).intake.get u).state = .failed := by
    rwa [State.setReceiver, State.onIntake_get]
  have hready : (s.setReceiver u (Receiver.idle .waiting)).disposeFrame u frame (s.intake.get u).recv.samples =
      (s.readyFrame u .acquire frame).surfaceNotice u := by
    rw [State.disposeFrame_failed hset hstate', State.setReceiver, State.onIntake_onIntake]
    exact congrArg (fun t => (State.setWaitList t _).surfaceNotice u) (State.onIntake_congr s rfl)
  rw [exec_frameEnd_valid hpin hcond hrows hframe hcheck, hready]
  refine congrArg Host.Outcome.next (State.noticeRises_surfaceNotice u (fun hfault => ?_) rfl)
  exact s.fault_onIntake u (f := fun i => { i with
      recv := Receiver.idle .waiting, ready := some ⟨frame, s.now, i.recv.samples⟩, state := .acquire
      timeout := s.timeoutFromNow, errorRun := 0
      overruns := if i.ready.isSome then countUp i.overruns else i.overruns }) nofun rfl hfault

end

/-- Settles O15: a valid frame by whether its surface is shut, and by the surface's state. -/
theorem validFramesBecomeReady : Obligations.ValidFramesBecomeReady := by
  intro s u frame check hpin hcond hrows hframe hcheck ready
  have hready (st : SurfaceState) : ready st = s.readyFrame u st frame := rfl
  refine ⟨fun hshut => exec_frameEnd_of_shut hpin hcond hrows hframe hcheck hshut, fun hopen hprocessed => ?_,
    fun hopen hfailed => exec_frameEnd_failed hpin hcond hrows hframe hcheck hopen hfailed⟩
  exact exec_frameEnd_processed hpin hcond hrows hframe hcheck hopen (by obtain h | h := hprocessed <;> rw [h] <;> exact nofun)

/-! ## A whole frame (R3 to R6) -/

/-- Commands that the model runs one after another (log 1). -/
theorem run_succ {s t : State} {n : Nat} (h : step s = .next t) : Sys2Proof.core.run (n + 1) s = Sys2Proof.core.run n t := by
  have hstep : Sys2Proof.core.step s = .next t := h
  simp only [Host.Core.run, hstep]

/-- A state with commands waiting and a receiver replaced. -/
def State.receiving (s : State) (u : Surface) (r : Receiver) (q : List Instr) : State :=
  { s.setReceiver u r with pending := q }

theorem State.receiving_recv (s : State) (u : Surface) (r : Receiver) (q : List Instr) :
    ((s.receiving u r q).intake.get u).recv = r :=
  congrArg Intake.recv (s.onIntake_get u fun i => { i with recv := r })

/-- What a receiver holds after rows that follow those it has (R4, R6). -/
def Receiver.takeRows (r : Receiver) (rows : List (List Half)) : Receiver :=
  { r with expected := r.expected + rows.length, samples := r.samples ++ rows.map (·.map fun f => min f.toNat 4095)
           check := checkBytes r.check (rows.flatten.flatMap halfBytes) }

theorem Receiver.takeRows_cons (r : Receiver) (row : List Half) (rows : List (List Half)) (n : Nat) :
    r.takeRows (row :: rows) = (r.takeRow (rowBody n row).tail).takeRows rows := by
  rw [takeRow_rowBody]
  simp only [Receiver.takeRows, List.length_cons, List.map_cons, List.flatten_cons, List.flatMap_append, checkBytes,
    List.foldl_append, List.append_assoc, List.singleton_append]
  congr 1
  omega

section
variable {s : State} {u : Surface} (hpin : s.pinHeld = false)
include hpin

theorem step_receiving_row {r : Receiver} (hcond : r.cond = .assembling) (hexpected : r.expected < u.rows)
    {row : List Half} (hrow : row.length = u.columns) (q : List Instr) :
    step (s.receiving u r (.rowRecord u (rowBody r.expected row) :: q)) =
      .next (s.receiving u (r.takeRow (rowBody r.expected row).tail) q) := by
  have hrecv := s.receiving_recv u r q
  have htake : (s.receiving u r q).takeRowRecord u (rowBody r.expected row) =
      (s.receiving u r q).setReceiver u (r.takeRow (rowBody r.expected row).tail) := by
    simp only [State.takeRowRecord, hrecv, hcond, if_true, (rowFits_iff _ _ _).mpr ⟨hexpected, row, hrow, rfl⟩]
  calc
    step (s.receiving u r (.rowRecord u (rowBody r.expected row) :: q)) =
        exec (.rowRecord u (rowBody r.expected row)) (s.receiving u r q) := rfl
    _ = .next ((s.receiving u r q).setReceiver u (r.takeRow (rowBody r.expected row).tail)) := by
      rw [exec_rowRecord_of_released (s := s.receiving u r q) hpin, htake, State.noticeRises_setReceiver]
    _ = .next (s.receiving u (r.takeRow (rowBody r.expected row).tail) q) :=
      congrArg (fun t : State => Host.Outcome.next { t with pending := q }) (State.setReceiver_setReceiver r _)

theorem run_receiving_rows {rows : List (List Half)} (hrows : ∀ row ∈ rows, row.length = u.columns) (q : List Instr) (k : Nat)
    {r : Receiver} (hcond : r.cond = .assembling) (hexpected : r.expected + rows.length ≤ u.rows) :
    Sys2Proof.core.run (rows.length + k)
        (s.receiving u r ((rows.zipIdx r.expected).map (fun (fields, i) => .rowRecord u (rowBody i fields)) ++ q)) =
      Sys2Proof.core.run k (s.receiving u (r.takeRows rows) q) := by
  induction rows generalizing r with
  | nil =>
    have hsame : r.takeRows [] = r := by simp [Receiver.takeRows, checkBytes]
    rw [hsame, List.length_nil, Nat.zero_add]
    rfl
  | cons row rows ih =>
    rw [List.length_cons] at hexpected
    have hstep := step_receiving_row (s := s) hpin hcond (by omega) (hrows row List.mem_cons_self)
      ((rows.zipIdx (r.expected + 1)).map (fun (fields, i) => .rowRecord u (rowBody i fields)) ++ q)
    have hrest := ih (fun x hx => hrows x (List.mem_cons_of_mem _ hx)) (r := r.takeRow (rowBody r.expected row).tail) hcond
      (by rw [takeRow_rowBody]; show r.expected + 1 + rows.length ≤ _; omega)
    rw [r.takeRows_cons row rows r.expected, ← hrest, List.length_cons, Nat.succ_add]
    exact run_succ hstep

end

theorem State.readyFrame_intake (s : State) (u : Surface) (st : SurfaceState) (frame : Half) :
    (s.readyFrame u st frame).intake.get u = { s.intake.get u with
      recv := Receiver.idle .waiting
      ready := some ⟨frame, s.now, (s.intake.get u).recv.samples⟩
      state := st
      timeout := s.timeoutFromNow
      errorRun := 0
      overruns := if (s.intake.get u).ready.isSome then countUp (s.intake.get u).overruns else (s.intake.get u).overruns } :=
  s.onIntake_get u fun i => { i with
      recv := Receiver.idle .waiting
      ready := some ⟨frame, s.now, i.recv.samples⟩
      state := st
      timeout := s.timeoutFromNow
      errorRun := 0
      overruns := if i.ready.isSome then countUp i.overruns else i.overruns }

/-- Settles O16: the frame start makes the receiver assemble, the rows are taken in order, and the end finds the frame
valid. -/
theorem wholeFramesAssemble : Obligations.WholeFramesAssemble := by
  intro s u frame rows rest hpin hshaped hfresh hopen hprocessed hpending
  obtain ⟨hlength, hcolumns⟩ := hshaped
  have hgood : gridMatches u (byteOf u.columns) (byteOf u.rows) = true :=
    (gridMatches_iff _ _).mpr ⟨byteOf_toNat (by cases u <;> decide), byteOf_toNat (surface_rows_lt u)⟩
  have hunfailed : (s.intake.get u).state ≠ .failed := by obtain h | h := hprocessed <;> rw [h] <;> exact nofun
  generalize hrecords : rows.zipIdx.map (fun (fields, i) => Instr.rowRecord u (rowBody i fields)) = records at *
  generalize hend : Instr.frameEnd u frame (checkBytes checkStart (rows.flatten.flatMap halfBytes)) = last at *
  have hfirst : step s = .next (s.receiving u (Receiver.start frame) (records ++ last :: rest)) := by
    have hstart : step s = exec (.frameStart u frame (byteOf u.columns) (byteOf u.rows))
        { s with pending := records ++ last :: rest } :=
      step_of_cons (by rw [hpending, frameCommands, hrecords, hend]; simp)
    rw [hstart, exec_frameStart_of_released (s := { s with pending := records ++ last :: rest }) hpin,
      State.takeFrameStart_fresh (s := { s with pending := records ++ last :: rest }) hfresh,
      State.examineStart_of_good hgood, State.noticeRises_setReceiver]
    rfl
  have hrows := run_receiving_rows (s := s) (u := u) hpin (rows := rows) hcolumns (last :: rest) 1 (r := Receiver.start frame) rfl
    (by show 0 + rows.length ≤ _; omega)
  have hrecv := s.receiving_recv u ((Receiver.start frame).takeRows rows) rest
  have hshut : (s.receiving u ((Receiver.start frame).takeRows rows) rest).shut u = false :=
    (State.shut_onIntake s (f := fun i => { i with recv := (Receiver.start frame).takeRows rows }) rfl).trans hopen
  have hintake : (s.receiving u ((Receiver.start frame).takeRows rows) rest).intake.get u =
      { s.intake.get u with recv := (Receiver.start frame).takeRows rows } :=
    s.onIntake_get u fun i => { i with recv := (Receiver.start frame).takeRows rows }
  have hlast : step (s.receiving u ((Receiver.start frame).takeRows rows) (last :: rest)) =
      .next ((s.receiving u ((Receiver.start frame).takeRows rows) rest).readyFrame u (s.intake.get u).state frame) := by
    have hexec := exec_frameEnd_processed (s := s.receiving u ((Receiver.start frame).takeRows rows) rest) (u := u)
      (frame := frame) (check := checkBytes checkStart (rows.flatten.flatMap halfBytes)) hpin (by rw [hrecv]; rfl)
      (by rw [hrecv]; show 0 + rows.length = _; omega) (by rw [hrecv]; rfl) (by rw [hrecv]; rfl) hshut (by rwa [hintake])
    rw [← hend]
    exact hexec.trans (by rw [hintake])
  refine ⟨(s.receiving u ((Receiver.start frame).takeRows rows) rest).readyFrame u (s.intake.get u).state frame,
    (run_succ hfirst).trans ?_, rfl, ?_⟩
  · rw [← hlength, ← hrecords]
    exact hrows.trans (run_succ hlast)
  · rw [State.readyFrame_intake, hintake]
    exact ⟨rfl, rfl, rfl, rfl, rfl⟩

end Sys2Proof.Machine

/-! The frame engine's items and completions (R14 to R17, R23): O17, O18, O20, O21. -/

namespace Sys2Proof.Machine

/-! ## The item that is taken (R14) -/

theorem mayTake_iff (part : PartState) (w : WaitItem) : mayTake part w = true ↔ part = .run ∨ ∃ o, w.work = .closing o := by
  unfold mayTake
  rw [Bool.or_eq_true, beq_iff_eq]
  refine or_congr_right ?_
  cases hwork : w.work <;> simp

/-- The first item of a surface that may be taken. -/
def firstOf (part : PartState) (l : List WaitItem) (u : Surface) : Option WaitItem :=
  l.find? fun w => w.surface == u && mayTake part w

section
variable {part : PartState} {l : List WaitItem} {u v : Surface} {w : WaitItem}

theorem firstOf_spec (h : firstOf part l u = some w) : w.surface = u ∧ mayTake part w = true ∧
    ∃ a b, l = a ++ w :: b ∧ ∀ x ∈ a, x.surface = w.surface → mayTake part x = false := by
  obtain ⟨hw, a, b, hl, ha⟩ := List.find?_eq_some_iff_append.mp h
  rw [Bool.and_eq_true, beq_iff_eq] at hw
  obtain ⟨hsurface, htake⟩ := hw
  refine ⟨hsurface, htake, a, b, hl, fun x hx hsame => ?_⟩
  have hnot := ha x hx
  simpa [hsame.trans hsurface] using hnot

theorem firstOf_eq_none : firstOf part l u = none ↔ ∀ x ∈ l, x.surface = u → mayTake part x = false := by
  simp [firstOf, List.find?_eq_none]

/-- The first item of the other surface that may be taken. -/
theorem find_other (hne : v ≠ u) : l.find? (fun x => x.surface != u && mayTake part x) = firstOf part l v := by
  refine congrArg (List.find? · l) (funext fun x => congrArg (· && mayTake part x) ?_)
  cases hx : x.surface <;> cases u <;> cases v <;> simp_all

theorem nextItem_eq (part : PartState) (l : List WaitItem) : nextItem part l =
    match firstOf part l .pad, firstOf part l .panel with
    | some p, some q => if earlier q.key p.key then some q else some p
    | some p, none => some p
    | none, some q => some q
    | none, none => none := rfl

theorem earlier_iff {a b : Time} : earlier a b = true ↔ a ≠ b ∧ (b - a).toNat < 2 ^ 31 := by
  simp [earlier, reached]

/-- Of two moments at most one lies before the other (R1; log 10). -/
theorem earlier_asymm {a b : Time} (h : earlier a b = true) : ¬ earlier b a = true := by
  rw [earlier_iff] at h ⊢
  rintro ⟨-, hback⟩
  obtain ⟨hne, hfore⟩ := h
  have hdiffer : a.toNat ≠ b.toNat := fun heq => hne (BitVec.eq_of_toNat_eq heq)
  rw [BitVec.toNat_sub] at hfore hback
  have ha := a.isLt
  have hb := b.isLt
  omega

end

/-- Settles O17: by the first item of each surface. -/
theorem earliestItemIsTaken : Obligations.EarliestItemIsTaken := by
  intro part wait
  have hsurfaces {P : WaitItem → Prop} (hpad : ∀ x ∈ wait, x.surface = .pad → P x)
      (hpanel : ∀ x ∈ wait, x.surface = .panel → P x) : ∀ x ∈ wait, P x := fun x hx => by
    cases hs : x.surface with
    | pad => exact hpad x hx hs
    | panel => exact hpanel x hx hs
  refine ⟨mayTake_iff part, fun w hw => ?_, ?_⟩
  · rw [nextItem_eq] at hw
    split at hw
    next p q hp hq =>
      obtain ⟨hpad, hptake, hpfirst⟩ := firstOf_spec hp
      obtain ⟨hpanel, hqtake, hqfirst⟩ := firstOf_spec hq
      split at hw <;> cases hw
      next hbefore =>
        refine ⟨hqtake, hqfirst, fun v hv => ?_⟩
        rw [hpanel, find_other (v := .pad) (by decide), hp] at hv
        cases hv
        exact ⟨fun h => earlier_asymm hbefore (earlier_iff.mpr h), fun heq => absurd heq.symm (earlier_iff.mp hbefore).1⟩
      next hafter =>
        refine ⟨hptake, hpfirst, fun v hv => ?_⟩
        rw [hpad, find_other (v := .panel) (by decide), hq] at hv
        cases hv
        exact ⟨fun h => hafter (earlier_iff.mpr h), fun _ => hpad⟩
    next p hp hq =>
      cases hw
      obtain ⟨hpad, hptake, hpfirst⟩ := firstOf_spec hp
      refine ⟨hptake, hpfirst, fun v hv => ?_⟩
      rw [hpad, find_other (v := .panel) (by decide), hq] at hv
      cases hv
    next q hp hq =>
      cases hw
      obtain ⟨hpanel, hqtake, hqfirst⟩ := firstOf_spec hq
      refine ⟨hqtake, hqfirst, fun v hv => ?_⟩
      rw [hpanel, find_other (v := .pad) (by decide), hp] at hv
      cases hv
    next => cases hw
  · rw [nextItem_eq]
    constructor
    · intro h
      split at h
      next => split at h <;> cases h
      next => cases h
      next => cases h
      next hp hq => exact hsurfaces (firstOf_eq_none.mp hp) (firstOf_eq_none.mp hq)
    · intro h
      have hnone (u : Surface) : firstOf part wait u = none := firstOf_eq_none.mpr fun x hx _ => h x hx
      rw [hnone, hnone]

/-! ## Operations begun (R15) -/

theorem exec_frameOperationBegin {s : State} {w : WaitItem} (hop : s.engine.op = none)
    (hw : nextItem s.link.part s.engine.waitList = some w) : exec .frameOperationBegin s = .next (s.takeItem w) := by
  have hidle : s.engine.op.isSome = false := by rw [hop]; rfl
  refine congrArg Host.Outcome.next ?_
  simp only [hidle, hw, Bool.false_eq_true, if_false]

/-- A snapshot reads no more of its surface's intake than the state (R15). -/
theorem State.snapshot_onIntake (s : State) {u : Surface} {f : Intake → Intake}
    (h : (f (s.intake.get u)).state = (s.intake.get u).state) : (s.onIntake u f).snapshot u = s.snapshot u := by
  rw [State.snapshot, State.onIntake_get, h]
  rfl

/-- Settles O18: the item taken by its kind; otherwise nothing to take. -/
theorem operationsBeginOnTheirSnapshot : Obligations.OperationsBeginOnTheirSnapshot := by
  refine ⟨fun s w hop hw => ⟨fun o hwork => ?_, fun f hwork hready => ?_⟩, fun s h => congrArg Host.Outcome.next ?_⟩
  · rw [exec_frameOperationBegin hop hw]
    simp only [State.takeItem, hwork]
    rfl
  · rw [exec_frameOperationBegin hop hw]
    simp only [State.takeItem, hwork, hready]
    rw [State.beginOn, State.snapshot_onIntake _ (by rfl)]
    rfl
  · by_cases hop : s.engine.op = none
    · have hnone : nextItem s.link.part s.engine.waitList = none :=
        (earliestItemIsTaken s.link.part s.engine.waitList).2.2.mpr (h.resolve_left (not_not_intro hop))
      simp [hop, hnone]
    · exact if_pos (Option.isSome_iff_ne_none.mpr hop)

/-! ## Completions (R16, R17) -/

section
variable {s : State} {o : Operation}

theorem exec_frameOperationComplete_working (hop : s.engine.op = some o) (hworking : o.held = false)
    (hroom : o.makesDigest = false ∨ s.digestsFull = false) :
    exec .frameOperationComplete s = .next (s.completeOperation o) := by
  have hfree : (o.makesDigest && s.digestsFull) = false := by obtain h | h := hroom <;> simp [h]
  refine congrArg Host.Outcome.next ?_
  simp only [hop, hworking, hfree, Bool.false_eq_true, if_false]

theorem exec_heldOperationComplete_room (hop : s.engine.op = some o) (hheld : o.held = true) (hroom : s.digestsFull = false) :
    exec .heldOperationComplete s = .next (s.completeOperation o) := by
  refine congrArg Host.Outcome.next ?_
  simp only [hop, hheld, hroom, Bool.not_false, Bool.and_self, if_true]

theorem State.digestsFull_eq_true : s.digestsFull = true ↔ 4 ≤ s.gestures.digests.length := decide_eq_true_iff

theorem State.digestsFull_eq_false : s.digestsFull = false ↔ s.gestures.digests.length < 4 :=
  decide_eq_false_iff_not.trans Nat.not_le

theorem hasOpenTracks_eq_false {sn : Snapshot} {u : Surface} : hasOpenTracks sn u = false ↔ sn.tracks.closed u := by
  simp only [hasOpenTracks, List.any_eq_false, TrackTable.closed, Option.any_eq_true, not_exists, not_and,
    Bool.not_eq_true]

theorem makesDigest_closing {key : Time} {out : ClosingOutcome} (hwork : o.work = .closing key out) :
    o.makesDigest = hasOpenTracks o.snap o.surface := by
  simp only [Operation.makesDigest, hwork]

/-- An operation that makes no digest leaves the digests and the tracks alone (R16). -/
theorem State.applyOperation_undigested (h : o.makesDigest = false) : (s.applyOperation o).gestures = s.gestures ∧
    (s.applyOperation o).tracks = s.tracks ∧ (s.applyOperation o).engine.op = s.engine.op := by
  unfold State.applyOperation
  unfold Operation.makesDigest at h
  cases hwork : o.work with
  | closing key out =>
    rw [hwork] at h
    dsimp only at h ⊢
    simp only [State.completeClosing, h, Bool.false_eq_true, if_false]
    cases out <;> simp [State.applyOutcome]
  | frame f =>
    rw [hwork] at h
    dsimp only at h ⊢
    cases hstate : o.snap.state with
    | live => simp [hstate] at h
    | acquire =>
      dsimp only
      unfold State.completeAcquire
      dsimp only
      split <;> simp
    | off | failed => exact ⟨rfl, rfl, rfl⟩

theorem State.applySurface_op (hop : s.engine.op = none) (e : PostureEntry) (u : Surface) :
    (s.applySurface e u).engine.op = none := by
  unfold State.applySurface
  split
  · unfold State.enableSurface
    split
    · split
      · simp [hop]
      · split <;> simp [hop]
    · exact hop
  · unfold State.disableSurface
    split
    · exact hop
    · exact hop

theorem State.applyEntry_op (hop : s.engine.op = none) : s.applyEntry.engine.op = none := by
  have hsurfaces := State.applySurface_op (State.applySurface_op hop s.entry .pad) s.entry .panel
  unfold State.applyEntry
  dsimp only
  split <;> simp [hsurfaces]

theorem State.switchFrameSide_op (hop : s.engine.op = none) : s.switchFrameSide.engine.op = none := by
  unfold State.switchFrameSide
  split
  · exact hop
  · split
    · exact hop
    · dsimp only
      split
      · exact State.applyEntry_op hop
      · exact hop

end

@[simp] theorem State.outcomePen_engine (s : State) (o : Operation) : (s.outcomePen o).engine = s.engine := by
  unfold State.outcomePen
  split <;> simp

@[simp] theorem State.outcomePen_gestures (s : State) (o : Operation) : (s.outcomePen o).gestures = s.gestures := by
  unfold State.outcomePen
  split <;> simp

@[simp] theorem State.outcomePen_tracks (s : State) (o : Operation) : (s.outcomePen o).tracks = s.tracks := by
  unfold State.outcomePen
  split <;> simp

/-- Settles O20: the two completions by whether the operation is held, makes a digest, and finds room. -/
theorem fullDigestQueueHolds : Obligations.FullDigestQueueHolds := by
  intro s o hop
  refine ⟨fun hworking hdigest hfull => congrArg Host.Outcome.next ?_, fun hheld => congrArg Host.Outcome.next ?_,
    fun hheld hfull => congrArg Host.Outcome.next ?_, fun hworking => congrArg Host.Outcome.next ?_, fun hheld hroom => ?_,
    fun key out hwork => ?_, fun hworking hdigest => ⟨_, exec_frameOperationComplete_working hop hworking (.inl hdigest), ?_⟩⟩
  · simp only [hop, hworking, hdigest, State.digestsFull_eq_true.mpr hfull, Bool.and_self, Bool.false_eq_true, if_false, if_true]
    rfl
  · simp only [hop, hheld, if_true]
  · simp only [hop, State.digestsFull_eq_true.mpr hfull, Bool.not_true, Bool.and_false, Bool.false_eq_true, if_false]
  · simp only [hop, hworking, Bool.false_and, Bool.false_eq_true, if_false]
  · rw [exec_heldOperationComplete_room hop hheld (State.digestsFull_eq_false.mpr hroom),
      exec_frameOperationComplete_working (s := { s with engine := { s.engine with op := some { o with held := false } } })
        (o := { o with held := false }) rfl rfl (.inr (State.digestsFull_eq_false.mpr hroom))]
    rfl
  · rw [makesDigest_closing hwork]
    exact hasOpenTracks_eq_false
  · obtain ⟨hgestures, htracks, hnone⟩ := State.applyOperation_undigested (s := s.setOp none) hdigest
    refine ⟨?_, ?_, ?_⟩
    · simp only [State.completeOperation, State.endCommit_engine, State.noticeRises_engine]
      exact State.switchFrameSide_op (by simpa using hnone)
    · simp only [State.completeOperation, State.endCommit_gestures, State.noticeRises_gestures, State.switchFrameSide_gestures,
        State.outcomePen_gestures, hgestures]
      rfl
    · simp only [State.completeOperation, State.endCommit_tracks, State.noticeRises_tracks, State.switchFrameSide_tracks,
        State.outcomePen_tracks, htracks]
      rfl

/-! ## Acquisitions (R23) -/

section
variable {s : State}

theorem State.switchFrameSide_of_no_commit (h : s.tables.commit = none) : s.switchFrameSide = s := by
  simp only [State.switchFrameSide, h]

theorem State.endCommit_of_no_commit (h : s.tables.commit = none) : s.endCommit = s := by
  simp only [State.endCommit, h]

theorem State.outcomePen_frame {o : Operation} {f : ReadyFrame} (hwork : o.work = .frame f) : s.outcomePen o = s := by
  unfold State.outcomePen
  split
  next hclosing => exact nomatch hwork.symm.trans hclosing
  · rfl

/-- With no commit pending a frame's completion is its effects alone (R16). -/
theorem State.completeOperation_frame {o : Operation} {f : ReadyFrame} (hwork : o.work = .frame f)
    (hcommit : ((s.setOp none).applyOperation o).tables.commit = none) :
    s.completeOperation o = (s.setOp none).applyOperation o := by
  unfold State.completeOperation
  dsimp only
  rw [State.outcomePen_frame hwork, State.switchFrameSide_of_no_commit hcommit, State.noticeRises_self,
    State.endCommit_of_no_commit hcommit]

theorem State.closingWaits_iff {u : Surface} :
    s.closingWaits u = true ↔ ∃ w ∈ s.engine.waitList, w.surface = u ∧ ∃ out, w.work = .closing out := by
  simp only [State.closingWaits, List.any_eq_true, WaitItem.isClosing_iff]

end

theorem State.setBase_setBase (s : State) (u : Surface) (a b : Baseline) : (s.setBase u a).setBase u b = s.setBase u b := by
  cases u <;> rfl

/-- Settles O21: the new baseline, and the state by whether the acquire count is reached. -/
theorem acquisitionTakesTheAverage : Obligations.AcquisitionTakesTheAverage := by
  intro s o f hop hworking hwork hstate hcommit b count values t goesLive
  have hundigested : o.makesDigest = false := by
    simp only [Operation.makesDigest, hwork, hstate]
    rfl
  have happly : (s.setOp none).applyOperation o = (s.setOp none).completeAcquire o.surface o.snap f := by
    simp only [State.applyOperation, hwork, hstate]
  have hexec : exec .frameOperationComplete s = .next ((s.setOp none).completeAcquire o.surface o.snap f) := by
    rw [exec_frameOperationComplete_working hop hworking (.inl hundigested), State.completeOperation_frame hwork, happly]
    rw [happly]
    simpa using hcommit
  have hlive : goesLive ↔ (acquireFrames o.snap.tables.tune ≤ count ∧ (s.intake.get o.surface).state = .acquire ∧
      s.closingWaits o.surface = false) := by
    refine and_congr_right fun _ => and_congr_right fun _ => ?_
    rw [← State.closingWaits_iff, Bool.not_eq_true]
  refine ⟨fun h => ?_, fun h => ?_⟩
  · have hgoes := hlive.mp h
    have hcomplete : (s.setOp none).completeAcquire o.surface o.snap f =
        (((s.setOp none).setBase o.surface (acquireBase o.snap.base f.samples)).setBase o.surface
          { acquireBase o.snap.base f.samples with drift := 0 }).enterState o.surface .live := if_pos hgoes
    have hbase : ((s.setOp none).setBase o.surface (acquireBase o.snap.base f.samples)).setBase o.surface
        { acquireBase o.snap.base f.samples with drift := 0 } = t 0 := State.setBase_setBase _ _ _ _
    have hchange : ((t 0).intake.get o.surface).state ≠ .live := by
      obtain ⟨-, hacquire, -⟩ := hgoes
      show (s.intake.get o.surface).state ≠ .live
      rw [hacquire]
      exact nofun
    rw [hexec, hcomplete, hbase, State.enterState_of_change _ hchange]
    rfl
  · have hcomplete : (s.setOp none).completeAcquire o.surface o.snap f =
        (s.setOp none).setBase o.surface (acquireBase o.snap.base f.samples) := if_neg fun hc => h (hlive.mpr hc)
    rw [hexec, hcomplete]
    rfl

end Sys2Proof.Machine

/-! The table commands and the program switch (08.9, 10): O42, O46, O48. -/

namespace Sys2Proof.Machine

/-! ## Entries and their bytes (R162, R193) -/

theorem Part.entryBytes_pos (p : Part) : 0 < p.entryBytes := by cases p <;> decide

/-- Entries of one length, put together, are cut into themselves. -/
theorem pieces_flatten {n : Nat} (hn : 0 < n) {es : List (List Byte)} (hes : ∀ e ∈ es, e.length = n) {fuel : Nat}
    (hfuel : es.length ≤ fuel) : pieces n fuel es.flatten = es := by
  induction es generalizing fuel with
  | nil => cases fuel <;> rfl
  | cons e es ih =>
    obtain ⟨k, rfl⟩ : ∃ k, fuel = k + 1 := Nat.exists_eq_succ_of_ne_zero (by rw [List.length_cons] at hfuel; omega)
    have he : e.length = n := hes e List.mem_cons_self
    have hrest := ih (fun x hx => hes x (List.mem_cons_of_mem _ hx)) (fuel := k) (by rw [List.length_cons] at hfuel; omega)
    have hnonempty : (e ++ es.flatten).isEmpty = false := by
      rw [List.isEmpty_eq_false_iff, List.ne_nil_iff_length_pos, List.length_append]
      omega
    rw [List.flatten_cons, pieces, hnonempty, List.take_left' he, List.drop_left' he, hrest]
    rfl

theorem flatten_length {n : Nat} {es : List (List Byte)} (hes : ∀ e ∈ es, e.length = n) :
    es.flatten.length = es.length * n := by
  rw [List.length_flatten, List.map_congr_left hes, List.map_const', List.sum_replicate, smul_eq_mul]

/-- Bytes that make whole entries are entries put together. -/
theorem exists_entries (n k : Nat) (bs : List Byte) (h : bs.length = k * n) :
    ∃ es : List (List Byte), es.length = k ∧ (∀ e ∈ es, e.length = n) ∧ bs = es.flatten := by
  induction k generalizing bs with
  | zero => exact ⟨[], rfl, nofun, List.length_eq_zero_iff.mp (by simpa using h)⟩
  | succ k ih =>
    rw [Nat.succ_mul] at h
    obtain ⟨es, hlength, hes, hrest⟩ := ih (bs.drop n) (by rw [List.length_drop]; omega)
    refine ⟨bs.take n :: es, by rw [List.length_cons, hlength], fun e he => ?_, by rw [List.flatten_cons, ← hrest, List.take_append_drop]⟩
    obtain rfl | he := List.mem_cons.mp he
    · rw [List.length_take]
      omega
    · exact hes e he

theorem splitEntries_flatten (p : Part) {es : List (List Byte)} (hes : ∀ e ∈ es, e.length = p.entryBytes) :
    splitEntries p es.flatten = some es := by
  have hlength := flatten_length hes
  have hpos := p.entryBytes_pos
  have hfuel : es.length ≤ es.flatten.length := by
    rw [hlength]
    exact Nat.le_mul_of_pos_right _ hpos
  rw [splitEntries, if_pos (by rw [hlength]; exact Nat.mul_mod_left _ _), pieces_flatten hpos hes hfuel]

theorem splitEntries_eq_some {p : Part} {bs : List Byte} {es : List (List Byte)} (h : splitEntries p bs = some es) :
    p.entryBytes ∣ bs.length ∧ es.length = bs.length / p.entryBytes := by
  have hdvd : p.entryBytes ∣ bs.length := by
    unfold splitEntries at h
    split at h
    next hmod => exact Nat.dvd_of_mod_eq_zero hmod
    · cases h
  obtain ⟨k, hk⟩ := hdvd
  obtain ⟨fs, hfs, hentries, rfl⟩ := exists_entries p.entryBytes k bs (by rw [hk, Nat.mul_comm])
  rw [splitEntries_flatten p hentries] at h
  cases h
  refine ⟨⟨k, hk⟩, ?_⟩
  rw [hk, Nat.mul_div_cancel_left _ p.entryBytes_pos, hfs]

theorem loadFits_iff (t : Tables) (p : Part) (offset n : Nat) : loadFits t p offset n = true ↔ t.rangeFits p offset n := by
  unfold loadFits Tables.rangeFits
  cases p.capacity <;> simp

/-! ## LOAD (R162) -/

section
variable {s : State} {tag kind part : Byte} {offset : Half} {entries : List Byte}

theorem State.takeLoad_pending (h : s.tables.commit ≠ none) :
    s.takeLoad tag kind part offset entries = s.busy tag 0x01 := if_pos (Option.isSome_iff_ne_none.mpr h)

theorem State.takeLoad_refused (h : s.tables.commit = none) (htarget : loadTarget s.tables.staging kind part offset entries = none) :
    s.takeLoad tag kind part offset entries = s.refuse tag 0x01 .range := by
  unfold State.takeLoad
  rw [if_neg (by simp [h]), htarget]

theorem State.takeLoad_written (h : s.tables.commit = none) {p : Part} {es : List (List Byte)}
    (htarget : loadTarget s.tables.staging kind part offset entries = some (p, es)) :
    s.takeLoad tag kind part offset entries = State.done { s with tables := { s.tables with
      staging := s.tables.staging.write p offset.toNat es, dirty := s.tables.dirty.add p.kind } } tag 0x01 [] := by
  unfold State.takeLoad
  rw [if_neg (by simp [h]), htarget]

theorem loadTarget_eq_none {t : Tables} (h : ∀ p, partOf kind.toNat part.toNat = some p → ¬ (p.entryBytes ∣ entries.length ∧
      t.rangeFits p offset.toNat (entries.length / p.entryBytes))) : loadTarget t kind part offset entries = none := by
  rw [Option.eq_none_iff_forall_ne_some]
  rintro ⟨q, es⟩ hsome
  simp only [loadTarget, Option.bind_eq_some_iff, Option.ite_none_right_eq_some] at hsome
  obtain ⟨p, hp, fs, hfs, hfits, heq⟩ := hsome
  obtain ⟨hdvd, hlength⟩ := splitEntries_eq_some hfs
  exact h p hp ⟨hdvd, hlength ▸ (loadFits_iff _ _ _ _).mp hfits⟩

theorem loadTarget_eq_some {t : Tables} {p : Part} {es : List (List Byte)} (hp : partOf kind.toNat part.toNat = some p)
    (hes : ∀ e ∈ es, e.length = p.entryBytes) (hfits : t.rangeFits p offset.toNat es.length) :
    loadTarget t kind part offset es.flatten = some (p, es) := by
  simp only [loadTarget, hp, Option.bind_some, splitEntries_flatten p hes, (loadFits_iff _ _ _ _).mpr hfits, if_true]

end

/-! ## What LOAD writes reads back (R162, R193) -/

theorem natBytes2_num2 (a b : Byte) : natBytes2 (joinBytes a b).toNat = [a, b] := by
  rw [natBytes2, BitVec.ofNat_toNat, BitVec.setWidth_eq, halfBytes_joinBytes]

/-- A TUNE entry reads back (R193). -/
theorem natBytes2_of_entry {e : List Byte} (h : e.length = 2) : natBytes2 (num2 e 0) = e := by
  match e, h with
  | [a, b], _ => exact natBytes2_num2 a b

theorem zoneRow_of_entry (e : List Byte) : (e.map BitVec.toNat).map byteOf = e := by
  rw [List.map_map]
  exact (List.map_congr_left fun b _ => byteOf_self b).trans (List.map_id e)

theorem knot_of_entry {e : List Byte} (h : e.length = 4) : (readKnot e).bytes = e := by
  match e, h with
  | [a, b, c, d], _ => exact congrArg₂ (· ++ ·) (natBytes2_num2 a b) (natBytes2_num2 c d)

theorem actionWord_of_entry (k a b : Byte) : ActionWord.bytes ⟨k.toNat, (joinBytes a b).toNat⟩ = [k, a, b] := by
  rw [ActionWord.bytes, byteOf_self, natBytes2_num2]
  rfl

theorem row_of_entry {e : List Byte} (h : e.length = 15) : (readRow e).bytes = e := by
  match e, h with
  | [b0, b1, b2, b3, b4, b5, b6, b7, b8, b9, b10, b11, b12, b13, b14], _ =>
    have h0 : (readRow [b0, b1, b2, b3, b4, b5, b6, b7, b8, b9, b10, b11, b12, b13, b14]).a0.bytes = [b6, b7, b8] :=
      actionWord_of_entry b6 b7 b8
    have h1 : (readRow [b0, b1, b2, b3, b4, b5, b6, b7, b8, b9, b10, b11, b12, b13, b14]).a1.bytes = [b9, b10, b11] :=
      actionWord_of_entry b9 b10 b11
    have h2 : (readRow [b0, b1, b2, b3, b4, b5, b6, b7, b8, b9, b10, b11, b12, b13, b14]).a2.bytes = [b12, b13, b14] :=
      actionWord_of_entry b12 b13 b14
    have hoperand : natBytes2 (readRow [b0, b1, b2, b3, b4, b5, b6, b7, b8, b9, b10, b11, b12, b13, b14]).operand = [b3, b4] :=
      natBytes2_num2 b3 b4
    rw [Row.bytes, h0, h1, h2, hoperand]
    simp [readRow, num1, byteOf_self]

section
variable {α : Type} (old new : List α) (n : Nat)

/-- What a part of fixed length reads after a write, if reading an entry gives its bytes. -/
theorem writeFixed_map (f : α → List Byte) (g : List Byte → α) {es : List (List Byte)} (h : ∀ e ∈ es, f (g e) = e) :
    (writeFixed old n (es.map g)).map f = (old.map f).take n ++ es ++ (old.map f).drop (n + es.length) := by
  have hread : (es.map g).map f = es := by
    rw [List.map_map]
    exact (List.map_congr_left h).trans (List.map_id es)
  rw [writeFixed, List.map_append, List.map_append, hread, List.map_take, List.map_drop, List.length_map]

theorem writeFixed_length_any : (writeFixed old n new).length = min n old.length + new.length + (old.length - (n + new.length)) := by
  rw [writeFixed, List.length_append, List.length_append, List.length_take, List.length_drop]

theorem writeSized_length : (writeSized old n new).length = if new = [] then min n old.length
    else min n old.length + new.length + (old.length - (n + new.length)) := by
  rw [writeSized]
  cases new with
  | nil => exact List.length_take
  | cons a new => exact writeFixed_length_any _ _ _

end

section
variable (t : Tables) (p : Part) (n : Nat) {es : List (List Byte)}

theorem Tables.write_partEntries (hes : ∀ e ∈ es, e.length = p.entryBytes) (hp : p ∈ [Part.tune, .zonePad, .zonePanel, .curve, .rows]) :
    (t.write p n es).partEntries p = if es = [] ∧ p = .rows then (t.partEntries p).take n
      else (t.partEntries p).take n ++ es ++ (t.partEntries p).drop (n + es.length) := by
  cases p with
  | shape | posture | templates => simp at hp
  | tune => exact (writeFixed_map _ _ _ _ fun e he => natBytes2_of_entry (hes e he)).trans (if_neg (by simp)).symm
  | zonePad | zonePanel =>
    exact (writeFixed_map _ _ (fun row : List Nat => row.map byteOf) _ fun e _ => zoneRow_of_entry e).trans (if_neg (by simp)).symm
  | curve => exact (writeFixed_map _ _ _ _ fun e he => knot_of_entry (hes e he)).trans (if_neg (by simp)).symm
  | rows =>
    have hwrite : (t.write .rows n es).partEntries .rows = (writeSized t.rows n (es.map readRow)).map Row.bytes := rfl
    rw [hwrite, writeSized]
    cases es with
    | nil => exact List.map_take
    | cons e es =>
      exact (writeFixed_map _ _ _ _ fun e he => row_of_entry (hes e he)).trans (if_neg (by simp)).symm

theorem Tables.write_partLength : (t.write p n es).partLength p =
    if es = [] ∧ p.capacity ≠ none then min n (t.partLength p)
    else min n (t.partLength p) + es.length + (t.partLength p - (n + es.length)) := by
  cases p with
  | tune | zonePad | zonePanel | posture | curve =>
    simp only [Tables.write, Tables.partLength, Part.capacity, writeFixed_length_any, List.length_map, ne_eq,
      not_true_eq_false, and_false, if_false]
  | shape | templates | rows =>
    simp only [Tables.write, Tables.partLength, Part.capacity, writeSized_length, List.length_map, List.map_eq_nil_iff, ne_eq,
      reduceCtorEq, not_false_eq_true, and_true]

theorem Tables.write_other {q : Part} (h : q ≠ p) : (t.write p n es).partEntries q = t.partEntries q := by
  cases p <;> cases q
  case tune.tune | zonePad.zonePad | zonePanel.zonePanel | shape.shape | posture.posture | curve.curve
      | templates.templates | rows.rows => exact absurd rfl h
  all_goals rfl

end

/-- Settles O46: LOAD by the commit and by what it names; then what is written, by the part. -/
theorem loadsWriteStaging : Obligations.LoadsWriteStaging := by
  refine ⟨fun s tag kind part offset entries htakes => ⟨fun hcommit => ?_, fun hcommit hunfit => ?_, fun p es hcommit hp hentries hes hfits => ?_⟩,
    fun t p n es hes => ⟨t.write_partEntries p n hes, t.write_partLength p n, fun q hq => t.write_other p n hq⟩⟩
  · refine State.takeWrite_next htakes ?_
    rw [State.takeLoad_pending (s := s.setLinkOut .zeros) hcommit, State.busy_of_takes htakes]
  · refine State.takeWrite_next htakes ?_
    rw [State.takeLoad_refused (s := s.setLinkOut .zeros) hcommit (loadTarget_eq_none hunfit), State.refuse_of_takes htakes]
  · subst hentries
    refine State.takeWrite_next htakes ?_
    rw [State.takeLoad_written (s := s.setLinkOut .zeros) hcommit (loadTarget_eq_some hp hes hfits)]
    exact State.done_of_takes (s := { s with tables := { s.tables with
      staging := s.tables.staging.write p offset.toNat es, dirty := s.tables.dirty.add p.kind } }) htakes _ _ _

/-! ## CHECK (R164 to R166) -/

theorem mask_getLsbD (ks : KindSet) (k : Kind) : (byteOf ks.mask).getLsbD k.code = ks.has k := by
  obtain ⟨a, b, c, d, e, f⟩ := ks
  cases k <;> decide +revert

theorem Kind.all_pairwise : Kind.all.Pairwise fun j k => j.code < k.code := by decide

theorem Kind.mem_all (k : Kind) : k ∈ Kind.all := by cases k <;> decide

theorem validateKinds_eq_none {t : Tables} {ks : KindSet} (h : validateKinds t ks = none) (k : Kind) (hk : ks.has k = true) :
    validateKind t k = none := by
  have hall := List.findSome?_eq_none_iff.mp h k k.mem_all
  rwa [if_pos hk] at hall

/-- The failure found is the first, by the kinds' codes (R164). -/
theorem validateKinds_eq_some {t : Tables} {ks : KindSet} {f : Failure} (h : validateKinds t ks = some f) :
    ∃ k, ks.has k = true ∧ validateKind t k = some f ∧
      ∀ j, j.code < k.code → ks.has j = true → validateKind t j = none := by
  obtain ⟨l, k, l', hall, hk, hbefore⟩ := List.findSome?_eq_some_iff.mp h
  split at hk
  next hhas =>
    refine ⟨k, hhas, hk, fun j hj hjhas => ?_⟩
    have hordered := Kind.all_pairwise
    have hmem := j.mem_all
    rw [hall] at hordered hmem
    obtain hmem | hmem := List.mem_append.mp hmem
    · have hnone := hbefore j hmem
      rwa [if_pos hjhas] at hnone
    · obtain ⟨hlater, -⟩ := List.pairwise_cons.mp (List.pairwise_append.mp hordered).2.1
      obtain rfl | hmem := List.mem_cons.mp hmem
      · exact absurd hj (Nat.lt_irrefl _)
      · exact absurd hj (Nat.lt_asymm (hlater j hmem))
  · cases hk

theorem clampCount_eq (l : List Nat) :
    clampCount l = (l.zip tuneRanges).countP fun p => decide (p.1 < p.2.lo ∨ p.2.hi < p.1) := by
  refine List.countP_congr fun p hp => ?_
  have hordered := tuneRanges_ordered p.2 (List.of_mem_zip hp).2
  rw [bne_iff_ne, decide_eq_true_eq, clampTune, clampNat]
  omega

/-- Settles O48: CHECK answers by whether the staged kinds that are dirty fail. -/
theorem checksReportAndChangeNothing : Obligations.ChecksReportAndChangeNothing := by
  intro s tag htakes
  refine ⟨byteOf s.tables.dirty.mask, flagByte (validateKinds s.tables.staging s.tables.dirty).isSome, _,
    ((validateKinds s.tables.staging s.tables.dirty).map Failure.bytes).getD (List.replicate 6 0),
    State.takeWrite_next htakes (State.done_of_takes htakes _ _ _), mask_getLsbD _, ?_, ?_⟩
  · cases hvalid : validateKinds s.tables.staging s.tables.dirty with
    | none => exact .inl ⟨rfl, rfl, validateKinds_eq_none hvalid⟩
    | some f =>
      obtain ⟨k, hhas, hk, hfirst⟩ := validateKinds_eq_some hvalid
      exact .inr ⟨k, f, rfl, rfl, hhas, hk, hfirst⟩
  · rw [← clampCount_eq]
    rfl

end Sys2Proof.Machine

/-! The program switch (08.9, R143, R169): O42. -/

namespace Sys2Proof.Machine

section
variable (s : State)

/-! ## What an ending context leaves of the engine (R121, R138) -/

/-- The engine's values but for its contexts. -/
def Gestures.apart (g : Gestures) : Gestures := { g with contexts := [] }

theorem State.setContext_apart (k : Nat) (c : Option Context) : (s.setContext k c).gestures.apart = s.gestures.apart := rfl

theorem State.dropClaim_apart (k : Nat) (r : TrackRef) : (s.dropClaim k r).gestures.apart = s.gestures.apart := by
  unfold State.dropClaim
  dsimp only
  split
  · split <;> rfl
  · rfl

theorem State.giveUpAll_apart (k : Nat) : (s.giveUpAll k).gestures.apart = s.gestures.apart := by
  unfold State.giveUpAll
  split
  · rfl
  next c _ =>
    have hgone (x : State) (e : ClaimEntry) : (x.giveUp k e.track).gestures.apart = x.gestures.apart :=
      x.dropClaim_apart k e.track
    exact foldl_keeps _ (fun x : State => x.gestures.apart) hgone _ _

theorem State.endContext_apart (time : Time) (k : Nat) : (s.endContext time k).gestures.apart = s.gestures.apart := by
  unfold State.endContext
  split
  · rfl
  · have hreleased (t : State) (c : Bool) : (if c then t.releasePointer else t).gestures = t.gestures := by cases c <;> rfl
    rw [State.setContext_apart, State.autoCancel_gestures, State.releaseButtons_gestures, hreleased, State.giveUpAll_apart]

/-- A cancellation drops a waiting PEN_INK and leaves the rest of the engine, but for its contexts (R141). -/
theorem State.cancelContexts_apart : s.cancelContexts.gestures.apart = { s.gestures.apart with penInk := none } :=
  congrArg (fun g : Gestures => { g with penInk := none })
    (foldl_keeps _ (fun x : State => x.gestures.apart) (fun x k => x.endContext_apart s.now k) _ _)

theorem State.cancelContexts_serial : s.cancelContexts.gestures.serial = s.gestures.serial :=
  (congrArg Gestures.serial s.cancelContexts_apart :)

theorem State.cancelContexts_penInk : s.cancelContexts.gestures.penInk = none := rfl

/-! ## The switch -/

theorem State.switchDue_eq_false (h : s.gestures.switchWaiting = false ∨ s.gestures.inHand = true ∨ s.gestures.digests ≠ []) :
    s.switchDue = false := by
  unfold State.switchDue
  obtain h | h | h := h
  · simp [h]
  · simp [h]
  · simp [List.isEmpty_eq_false_iff.mpr h]

/-- The commit ends when its program was the last to switch (R169). -/
theorem State.endCommit_switched {c : CommitRecord} (hcommit : s.tables.commit = some { c with program := false }) :
    (c.frameSide = KindSet.empty → s.endCommit.tables = { s.tables with dirty := KindSet.empty, commit := none }) ∧
      (c.frameSide ≠ KindSet.empty → s.endCommit.tables = s.tables) := by
  unfold State.endCommit
  rw [hcommit]
  refine ⟨fun hempty => ?_, fun hside => ?_⟩
  · simp [hempty]
  · simp [hside]

/-- What the switch and the commit's end make of a state whose contexts have ended (R143, R169). -/
theorem State.installProgram_spec (before : State) {c : CommitRecord} (hcommit : s.tables.commit = some c) :
    let t := (State.noticeRises before s.installProgram).endCommit
    t.gestures = { s.gestures with switchWaiting := false } ∧
      t.tables.active = { s.tables.active with templates := s.tables.staging.templates, rows := s.tables.staging.rows } ∧
      t.tables.staging = s.tables.staging ∧
      (c.frameSide = KindSet.empty → t.tables.commit = none ∧ t.tables.dirty = KindSet.empty) ∧
      (c.frameSide ≠ KindSet.empty → t.tables.commit = some { c with program := false } ∧ t.tables.dirty = s.tables.dirty) := by
  have htables : (State.noticeRises before s.installProgram).tables = { s.tables with
      active := s.tables.active.takeKind s.tables.staging .program, commit := some { c with program := false } } := by
    rw [State.noticeRises_tables, State.installProgram, hcommit]
    rfl
  obtain ⟨hended, hpending⟩ := State.endCommit_switched (State.noticeRises before s.installProgram) (c := c) (by rw [htables])
  dsimp only
  refine ⟨?_, ?_⟩
  · rw [State.endCommit_gestures, State.noticeRises_gestures]
    rfl
  · by_cases hside : c.frameSide = KindSet.empty
    · rw [hended hside, htables]
      exact ⟨rfl, rfl, fun _ => ⟨rfl, rfl⟩, fun h => absurd hside h⟩
    · rw [hpending hside, htables]
      exact ⟨rfl, rfl, fun h => absurd h hside, fun _ => ⟨rfl, rfl⟩⟩

end

/-- Settles O42: the contexts end, the staged program is taken, and the commit ends when its frame-side set is empty. -/
theorem programSwitchesWhenDrained : Obligations.ProgramSwitchesWhenDrained := by
  refine ⟨fun s c hwaits hfree hdrained hcommit hcontexts => ?_, fun s h => congrArg Host.Outcome.next ?_⟩
  · have hdue : s.switchDue = true := by simp [State.switchDue, hwaits, hfree, hdrained]
    have hexec : exec .programSwitch s = .next (State.noticeRises s s.cancelContexts.installProgram).endCommit :=
      congrArg Host.Outcome.next (if_pos hdue)
    obtain ⟨-, -, -, -, -, -, -, -, -, -, -, -, -, -, -, -, hwatch, -⟩ := (s.cancelContexts_moves (held := False) False.elim).keeps
    have hended := State.contexts_cancelContexts hcontexts
    have hpenInk := s.cancelContexts_penInk
    have hserial := s.cancelContexts_serial
    have htables := s.cancelContexts_tables
    generalize s.cancelContexts = r at *
    obtain ⟨hgestures, hactive, hstaging, hlast, hpending⟩ := r.installProgram_spec s (by rw [htables, hcommit])
    refine ⟨_, hexec, ?_⟩
    rw [hgestures, hactive, hstaging, htables]
    exact ⟨hended, hpenInk, rfl, hwatch, hserial, rfl, rfl, hlast, fun hside => htables ▸ hpending hside⟩
  · rw [s.switchDue_eq_false h]
    rfl

end Sys2Proof.Machine

/-! Ballistics and scroll accumulators (09.3, 09.5): O44. -/

namespace Sys2Proof.Machine

/-! ## Scaling (R151) -/

/-- A remainder that is truncated toward zero has the sign of what is divided. -/
theorem tmod_sign (x : Int) : (0 ≤ x → 0 ≤ Int.tmod x 1024) ∧ (x ≤ 0 → Int.tmod x 1024 ≤ 0) := by
  refine ⟨Int.tmod_nonneg _, fun h => ?_⟩
  have hpos := Int.tmod_nonneg (a := -x) 1024 (by omega)
  rw [Int.neg_tmod] at hpos
  omega

theorem tmod_mul_self_nonneg (x : Int) : 0 ≤ Int.tmod x 1024 * x := by
  obtain h | h := Int.le_total 0 x
  · exact Int.mul_nonneg ((tmod_sign x).1 h) h
  · exact Int.mul_nonneg_of_nonpos_of_nonpos ((tmod_sign x).2 h) h

/-- What scaling leaves when the count is not clamped. -/
theorem scaleAxis_unclamped {d gain residue : Int} (h : (d * gain + residue).natAbs < 2048 * 1024) :
    scaleAxis d gain residue = (Int.tdiv (d * gain + residue) 1024, Int.tmod (d * gain + residue) 1024) := by
  have hdecompose := Int.tmod_add_mul_tdiv (d * gain + residue) 1024
  have hbound : ¬ (Int.tdiv (d * gain + residue) 1024 < -2047 ∨ 2047 < Int.tdiv (d * gain + residue) 1024) := by
    obtain ⟨hpos, hneg⟩ := tmod_sign (d * gain + residue)
    have hlow := Int.lt_tmod_of_pos (d * gain + residue) (by omega : (0 : Int) < 1024)
    have hhigh := Int.tmod_lt_of_pos (d * gain + residue) (by omega : (0 : Int) < 1024)
    omega
  rw [scaleAxis, if_neg hbound]
  refine Prod.ext rfl ?_
  show d * gain + residue - 1024 * Int.tdiv (d * gain + residue) 1024 = _
  omega

theorem scaleAxis_clamped_high {d gain residue : Int} (h : 2048 * 1024 ≤ d * gain + residue) :
    scaleAxis d gain residue = (2047, 0) := by
  have hdecompose := Int.tmod_add_mul_tdiv (d * gain + residue) 1024
  have hhigh := Int.tmod_lt_of_pos (d * gain + residue) (by omega : (0 : Int) < 1024)
  rw [scaleAxis, if_pos (.inr (by omega))]
  refine Prod.ext ?_ rfl
  show max (-2047) (min 2047 (Int.tdiv (d * gain + residue) 1024)) = 2047
  omega

theorem scaleAxis_clamped_low {d gain residue : Int} (h : d * gain + residue ≤ -(2048 * 1024)) :
    scaleAxis d gain residue = (-2047, 0) := by
  have hdecompose := Int.tmod_add_mul_tdiv (d * gain + residue) 1024
  have hlow := Int.lt_tmod_of_pos (d * gain + residue) (by omega : (0 : Int) < 1024)
  rw [scaleAxis, if_pos (.inl (by omega))]
  refine Prod.ext ?_ rfl
  show max (-2047) (min 2047 (Int.tdiv (d * gain + residue) 1024)) = -2047
  omega

/-! ## Gains (R150) -/

section
variable {v : Nat} {a b : Knot}

theorem gainBetween_self (h : v = a.speed) : gainBetween a b v = a.gain := by
  simp [gainBetween, h]

/-- A gain between two knots lies between theirs. -/
theorem gainBetween_within (ha : a.speed ≤ v) (hb : v < b.speed) :
    min (a.gain : Int) b.gain ≤ gainBetween a b v ∧ gainBetween a b v ≤ max (a.gain : Int) b.gain := by
  have hpart {g : Int} (hg : 0 ≤ g) : 0 ≤ Int.tdiv (g * ((v : Int) - a.speed)) ((b.speed : Int) - a.speed) ∧
      Int.tdiv (g * ((v : Int) - a.speed)) ((b.speed : Int) - a.speed) ≤ g := by
    have hprod : 0 ≤ g * ((v : Int) - a.speed) := Int.mul_nonneg hg (by omega)
    refine ⟨Int.tdiv_nonneg hprod (by omega), ?_⟩
    rw [Int.tdiv_eq_ediv_of_nonneg hprod]
    exact Int.ediv_le_of_le_mul (by omega) (Int.mul_le_mul_of_nonneg_left (by omega) hg)
  unfold gainBetween
  obtain hg | hg := Int.le_total 0 ((b.gain : Int) - a.gain)
  · obtain ⟨hlow, hhigh⟩ := hpart hg
    omega
  · obtain ⟨hlow, hhigh⟩ := hpart (g := -((b.gain : Int) - a.gain)) (by omega)
    rw [Int.neg_mul, Int.neg_tdiv] at hlow hhigh
    omega

theorem gainOf_below {rest : List Knot} (hordered : (a :: rest).Pairwise fun a b => a.speed < b.speed) (h : v ≤ a.speed) :
    gainOf v (a :: rest) = a.gain := by
  cases rest with
  | nil => rfl
  | cons b rest =>
    have hab : a.speed < b.speed := (List.pairwise_cons.mp hordered).1 b List.mem_cons_self
    rw [gainOf]
    split
    · rfl
    · rw [if_pos (by omega), gainBetween_self (by omega)]

/-- Knots whose speeds are reached are passed over. -/
theorem gainOf_append (front : List Knot) (rest : List Knot) (hfront : ∀ k ∈ front, k.speed ≤ v) (ha : a.speed ≤ v) :
    gainOf v (front ++ a :: rest) = gainOf v (a :: rest) := by
  have hpass {k x : Knot} {l : List Knot} (hk : k.speed ≤ v) (hx : x.speed ≤ v) : gainOf v (k :: x :: l) = gainOf v (x :: l) := by
    rw [gainOf, if_neg (Nat.not_lt.mpr hk), if_neg (Nat.not_lt.mpr hx)]
  induction front with
  | nil => rfl
  | cons k front ih =>
    have hk := hfront k List.mem_cons_self
    have hrest := ih fun x hx => hfront x (List.mem_cons_of_mem _ hx)
    cases front with
    | nil => exact hpass hk ha
    | cons x front =>
      exact (hpass hk (hfront x (List.mem_cons_of_mem _ List.mem_cons_self))).trans hrest

theorem front_reached {front rest : List Knot} (hordered : (front ++ a :: rest).Pairwise fun a b => a.speed < b.speed)
    (ha : a.speed ≤ v) : ∀ k ∈ front, k.speed ≤ v := fun k hk =>
  ((List.pairwise_append.mp hordered).2.2 k hk a List.mem_cons_self).le.trans ha

end

/-! ## Scroll accumulators (R157) -/

theorem opposes_iff (d : Direction) (mean : Int) :
    d.opposes mean = true ↔ (d = .positive ∧ mean < 0) ∨ (d = .negative ∧ 0 < mean) := by
  cases d <;> simp [Direction.opposes]

/-- What accumulating makes of a value, by its whole detents. -/
theorem detents_of_value {value : Int} {detentUnits : Nat} (hdetent : 1 ≤ detentUnits) (hwhole : value.natAbs / detentUnits ≠ 0) :
    (value - value.sign * ((value.natAbs / detentUnits : Nat) * detentUnits)).natAbs < detentUnits ∧
      ((0 < value ∧ value.sign = 1) ∨ (value < 0 ∧ value.sign = -1)) := by
  have hle := Nat.div_mul_le_self value.natAbs detentUnits
  have hlt := Nat.lt_div_mul_add (a := value.natAbs) hdetent
  have hcast : ((value.natAbs / detentUnits : Nat) : Int) * detentUnits = ((value.natAbs / detentUnits * detentUnits : Nat) : Int) := by
    push_cast
    rfl
  have hsign : (0 < value ∧ value.sign = 1) ∨ (value < 0 ∧ value.sign = -1) := by
    obtain h | h | h := Int.lt_trichotomy value 0
    · exact .inr ⟨h, Int.sign_eq_neg_one_of_neg h⟩
    · exact absurd (by simp [h]) hwhole
    · exact .inl ⟨h, Int.sign_eq_one_of_pos h⟩
  rw [hcast]
  generalize value.natAbs / detentUnits * detentUnits = m at hle hlt
  refine ⟨?_, hsign⟩
  obtain ⟨h, hs⟩ | ⟨h, hs⟩ := hsign <;> rw [hs] <;> omega

/-- The mean turns the accumulator around (R157, step 1). -/
def AxisAcc.turns (a : AxisAcc) (slopUnits : Nat) (mean : Int) : Bool :=
  a.last.opposes mean && decide (slopUnits ≤ mean.natAbs)

/-- What an accumulator holds with a mean taken in, before its detents are counted (R157). -/
def AxisAcc.carried (a : AxisAcc) (slopUnits : Nat) (mean : Int) : Int :=
  if a.turns slopUnits mean then mean else a.value + mean

section
variable {a : AxisAcc} {detentUnits slopUnits : Nat} {mean : Int}

theorem AxisAcc.turns_iff : a.turns slopUnits mean = true ↔
    ((a.last = .positive ∧ mean < 0) ∨ (a.last = .negative ∧ 0 < mean)) ∧ slopUnits ≤ mean.natAbs := by
  rw [AxisAcc.turns, Bool.and_eq_true, decide_eq_true_eq, opposes_iff]

theorem AxisAcc.accumulate_none (h : (a.carried slopUnits mean).natAbs / detentUnits = 0) :
    a.accumulate detentUnits slopUnits mean =
      (⟨a.carried slopUnits mean, if a.turns slopUnits mean then directionOf mean else a.last⟩,
        ⟨0, a.turns slopUnits mean, false⟩) := if_pos h

theorem AxisAcc.accumulate_few (h : (a.carried slopUnits mean).natAbs / detentUnits ≠ 0)
    (hfew : (a.carried slopUnits mean).natAbs / detentUnits < 127) :
    a.accumulate detentUnits slopUnits mean =
      (⟨a.carried slopUnits mean - (a.carried slopUnits mean).sign *
          (((a.carried slopUnits mean).natAbs / detentUnits : Nat) * detentUnits), directionOf (a.carried slopUnits mean)⟩,
        ⟨(a.carried slopUnits mean).sign * ((a.carried slopUnits mean).natAbs / detentUnits : Nat), a.turns slopUnits mean, false⟩) :=
  (if_neg h).trans (if_pos hfew)

theorem AxisAcc.accumulate_many (h : (a.carried slopUnits mean).natAbs / detentUnits ≠ 0)
    (hmany : ¬ (a.carried slopUnits mean).natAbs / detentUnits < 127) :
    a.accumulate detentUnits slopUnits mean = (⟨0, directionOf (a.carried slopUnits mean)⟩,
      ⟨(a.carried slopUnits mean).sign * 127, a.turns slopUnits mean, true⟩) :=
  (if_neg h).trans (if_neg hmany)

/-- The direction of a value whose sign gives the steps theirs. -/
theorem directionOf_steps {value : Int} {n : Nat} (hsign : (0 < value ∧ value.sign = 1) ∨ (value < 0 ∧ value.sign = -1)) :
    (0 < value.sign * (n : Int) → directionOf value = .positive) ∧ (value.sign * (n : Int) < 0 → directionOf value = .negative) := by
  obtain ⟨hv, hs⟩ | ⟨hv, hs⟩ := hsign <;> rw [hs]
  · exact ⟨fun _ => if_neg (by omega), fun h => by omega⟩
  · exact ⟨fun h => by omega, fun _ => if_pos hv⟩

theorem steps_natAbs {value : Int} {n : Nat} (hsign : (0 < value ∧ value.sign = 1) ∨ (value < 0 ∧ value.sign = -1)) :
    (value.sign * (n : Int)).natAbs = n := by
  obtain ⟨-, hs⟩ | ⟨-, hs⟩ := hsign <;> rw [hs] <;> omega

end

/-- Settles O44: scaling by the clamp, gains by the knots around a speed, accumulators by the whole detents. -/
theorem motionKeepsItsFractions : Obligations.MotionKeepsItsFractions := by
  refine ⟨fun d gain residue => ?_, fun knots v hordered => ⟨?_, ?_, ?_⟩, fun a detentUnits slopUnits mean hdetent => ?_⟩
  · obtain ⟨hcount, hresidue⟩ := scaleAxis_within d gain residue
    refine ⟨by omega, by omega, hresidue, fun h => ?_, scaleAxis_clamped_high, scaleAxis_clamped_low⟩
    rw [scaleAxis_unclamped h]
    exact ⟨Int.mul_tdiv_add_tmod _ _, tmod_mul_self_nonneg _⟩
  · rintro a rest rfl h
    exact gainOf_below hordered h
  · rintro front b rfl h
    exact gainOf_append front [] (front_reached hordered h) h
  · rintro front a b rest rfl ha hb
    have hgain : gainOf v (front ++ a :: b :: rest) = gainBetween a b v := by
      rw [gainOf_append front (b :: rest) (front_reached hordered ha) ha, gainOf, if_neg (Nat.not_lt.mpr ha), if_pos hb]
    rw [hgain]
    exact ⟨gainBetween_self, gainBetween_within ha hb⟩
  · intro r turned
    have hturns : a.turns slopUnits mean = true ↔ turned := AxisAcc.turns_iff
    have hvalue : (if turned then mean else a.value + mean) = a.carried slopUnits mean := if_congr hturns.symm rfl rfl
    rw [hvalue]
    by_cases hwhole : (a.carried slopUnits mean).natAbs / detentUnits = 0
    · have hlt : (a.carried slopUnits mean).natAbs < detentUnits := (Nat.div_eq_zero_iff_lt hdetent).mp hwhole
      rw [show r = _ from AxisAcc.accumulate_none hwhole]
      exact ⟨hlt, Nat.zero_le _, hturns, fun _ => by simp, nofun, fun h => absurd h (Int.lt_irrefl 0), fun h => absurd h (Int.lt_irrefl 0)⟩
    · obtain ⟨hrest, hsign⟩ := detents_of_value hdetent hwhole
      by_cases hfew : (a.carried slopUnits mean).natAbs / detentUnits < 127
      · rw [show r = _ from AxisAcc.accumulate_few hwhole hfew]
        refine ⟨hrest, (steps_natAbs hsign).trans_le hfew.le, hturns, fun _ => ?_, nofun, directionOf_steps hsign⟩
        dsimp only
        rw [Int.mul_assoc]
        omega
      · rw [show r = _ from AxisAcc.accumulate_many hwhole hfew]
        have hsteps := steps_natAbs (n := 127) hsign
        exact ⟨hdetent, hsteps.le, hturns, nofun, fun _ => ⟨rfl, hsteps⟩, directionOf_steps (n := 127) hsign⟩

end Sys2Proof.Machine

/-! The pen's valid samples (06.2, 06.3): O33. -/

namespace Sys2Proof.Machine

variable {s : State}

theorem sampleValid_eq_true_iff {tune : List Nat} {flags quality : Byte} : sampleValid tune flags quality = true ↔
    flags.getLsbD 0 = true ∧ penQualityMin tune ≤ quality.toNat := by
  simp only [sampleValid, Bool.and_eq_true, decide_eq_true_eq]

theorem exec_penSample_of_valid {flags quality : Byte} (x y p : Half) (tx ty : Byte)
    (hpin : s.pinHeld = false) (haside : s.setsAside = false) (hvalid : sampleValid s.tune flags quality = true) :
    exec (.penSample flags x y p tx ty quality) s = .next (State.noticeRises s
      (s.takeValid (heldSample flags x y p tx ty quality) (flags.getLsbD 1))) := by
  simp [exec, execPenSample, State.unlessHeld, hpin, haside, hvalid]

theorem PenMode.coasting_eq (m : PenMode) : m.coasting = (m == .coast .hover || m == .coast .ink) := by
  cases m with
  | out | hover | ink => rfl
  | coast origin => cases origin <;> rfl

theorem PenMode.fromInk_eq (m : PenMode) : m.fromInk = (m == .ink || m == .coast .ink) := by
  cases m with
  | out | hover | ink => rfl
  | coast origin => cases origin <;> rfl

/-- A tip-down that finds the pen in INK makes no PEN_INK (R100). -/
theorem State.takeValid_down (s : State) (held : PenHeld) : s.takeValid held true =
    let down := State.offerPen { s with pen := { s.pen with mode := .ink, held := held, coast := 0, guard := none } }
      ⟨.ink, held, false, s.pen.mode.coasting⟩
    if s.pen.mode = .ink then down else { down with gestures := { down.gestures with
      penInk := some ⟨held.pos, held.pressure, s.now, s.now⟩ } } := by
  by_cases h : s.pen.mode = .ink
  · simp only [h, if_true]
    show (if s.pen.mode != .ink then _ else _) = _
    rw [if_neg (by simp [h]), ← h]
    rfl
  · simp only [h, if_false]
    show (if s.pen.mode != .ink then _ else _) = _
    rw [if_pos (by simp [h])]
    simp only [State.handPenInk, State.reportPen, State.offerPen_pen, State.offerPen_now]

theorem State.takeValid_up (s : State) (held : PenHeld) : s.takeValid held false =
    State.offerPen { s with pen := { s.pen with
        mode := .hover, held := held, coast := 0, guard := if s.pen.mode.fromInk then s.guardFromNow else s.pen.guard } }
      ⟨.hover, held, false, s.pen.mode.coasting⟩ := rfl

/-- Settles O33: the two kinds of valid sample. -/
theorem validPenSamples : Obligations.ValidPenSamples := by
  intro s flags x y p tx ty q hpin hrun henable hpanel hrange hquality held coasting inking
  have hexec := exec_penSample_of_valid x y p tx ty hpin (s.setsAside_eq_false_iff.mpr ⟨hrun, henable, hpanel⟩)
    (sampleValid_eq_true_iff.mpr ⟨hrange, hquality⟩)
  have hcoasting : s.pen.mode.coasting = coasting := s.pen.mode.coasting_eq
  have hinking : s.pen.mode.fromInk = inking := s.pen.mode.fromInk_eq
  refine ⟨fun hdown => ?_, fun hup => ?_⟩
  · rw [hexec, hdown, State.takeValid_down, hcoasting]
    rfl
  · rw [hexec, hup, State.takeValid_up, hcoasting, hinking]
    rfl

end Sys2Proof.Machine

/-! The pen shadow and the handedness vote (05.7, 06.8, 06.9): O36. -/

namespace Sys2Proof.Machine

variable {s : State}

/-! ## The shadow (R104) -/

theorem State.shadow_eq_none : s.shadow = none ↔ s.pen.mode = .out := by
  unfold State.shadow
  split <;> simp [*]

theorem State.shadow_eq_some {r : Rect} : s.shadow = some r ↔
    s.pen.mode ≠ .out ∧ shadowRect s.tune (rightHand s.tune s.pen.vote) s.pen.held.pos = r := by
  unfold State.shadow
  split <;> simp [*]

theorem rightHand_eq_true {t : List Nat} {vote : Int} (h : handedness t = 0 ∨ (handedness t = 2 ∧ 0 ≤ vote)) :
    rightHand t vote = true := by
  obtain h | ⟨h, hvote⟩ := h
  · simp [rightHand, h]
  · simp [rightHand, h, autoRight, hvote]

theorem rightHand_eq_false {t : List Nat} {vote : Int} (h : handedness t = 1 ∨ (handedness t = 2 ∧ vote < 0)) :
    rightHand t vote = false := by
  obtain h | ⟨h, hvote⟩ := h
  · simp [rightHand, h]
  · simp [rightHand, h, autoRight, Int.not_le.mpr hvote]

section
variable {t : List Nat} {p : Pos} (hx : p.x ≤ 3008) (hy : p.y ≤ 1856)
include hx hy

/-- For a position on the panel only the far borders are clamped. -/
theorem shadowRect_eq (right : Bool) : shadowRect t right p =
    ⟨p.x - (if right then shadowLead t else shadowReach t), min (p.x + (if right then shadowReach t else shadowLead t)) 3008,
      p.y - shadowUp t, min (p.y + shadowDown t) 1856⟩ := by
  have hx0 (n : Nat) : min (p.x - n) Surface.panel.maxX = p.x - n :=
    Nat.min_eq_left ((Nat.sub_le _ _).trans hx)
  have hy0 (n : Nat) : min (p.y - n) Surface.panel.maxY = p.y - n :=
    Nat.min_eq_left ((Nat.sub_le _ _).trans hy)
  simp only [shadowRect, hx0, hy0]
  rfl

theorem shadowRect_holds (right : Bool) : (shadowRect t right p).holds p = true := by
  rw [shadowRect_eq hx hy]
  refine decide_eq_true ⟨Nat.sub_le _ _, ?_, Nat.sub_le _ _, ?_⟩ <;> dsimp only <;> omega

end

/-! ## The handedness vote (R89, R105) -/

theorem zip_eq_map_range {α β : Type} {as : List α} {bs : List β} {n : Nat} (ha : as.length = n) (hb : bs.length = n)
    (a : α) (b : β) : as.zip bs = (List.range n).map fun i => (as.getD i a, bs.getD i b) := by
  refine List.ext_getElem (by simp [ha, hb]) fun i h _ => ?_
  obtain ⟨hia, hib⟩ : i < as.length ∧ i < bs.length := by simpa using h
  simp [hia, hib]

/-- A palm votes when it became PALM unforced. -/
theorem becamePalm_unforced (b : Option Track) (y : Track) :
    (becamePalm b (some y) && (some y).any (fun t => !t.forced)) = true ↔
      y.cls = .palm ∧ y.forced = false ∧ ¬ (goesOn b (some y) = true ∧ b.map Track.cls = some .palm) := by
  have hpalm : b.any (·.cls == .palm) = true ↔ b.map Track.cls = some .palm := by
    cases b <;> simp
  simp only [becamePalm, Option.any_some, Bool.and_eq_true, Bool.not_eq_true', beq_iff_eq,
    ← Bool.not_eq_true, hpalm]
  tauto

theorem votingPalms_eq {before after : List (Option Track)} (hb : before.length = 10) (ha : after.length = 10) :
    votingPalms before after = (List.range 10).filterMap fun i => (after.getD i none).bind fun y =>
      if y.cls = .palm ∧ y.forced = false ∧
          ¬ (goesOn (before.getD i none) (some y) = true ∧ (before.getD i none).map Track.cls = some .palm) then
        some y.pos.x else none := by
  rw [votingPalms, zip_eq_map_range hb ha none none, List.filterMap_map]
  refine List.filterMap_congr fun i _ => ?_
  simp only [Function.comp_apply]
  cases hafter : after.getD i none with
  | none => simp
  | some y => simp only [becamePalm_unforced, Option.bind_some, Option.map_some]

/-- Within the vote's range a vote needs its clamp on its own side alone. -/
theorem voteFor_eq {v : Int} (hlow : -8 ≤ v) (hhigh : v ≤ 8) (penX x : Nat) : voteFor penX v x =
    if penX < x then min 8 (v + 1) else if x < penX then max (-8) (v - 1) else v := by
  simp only [voteFor, clampInt]
  split
  · omega
  · split <;> omega

theorem voteFor_within {v : Int} (hlow : -8 ≤ v) (hhigh : v ≤ 8) (penX x : Nat) :
    -8 ≤ voteFor penX v x ∧ voteFor penX v x ≤ 8 := by
  rw [voteFor_eq hlow hhigh]
  split
  · omega
  · split <;> omega

theorem foldl_voteFor {v : Int} (hlow : -8 ≤ v) (hhigh : v ≤ 8) (penX : Nat) (xs : List Nat) :
    xs.foldl (voteFor penX) v = xs.foldl
        (fun (v : Int) x => if penX < x then min 8 (v + 1) else if x < penX then max (-8) (v - 1) else v) v ∧
      -8 ≤ xs.foldl (voteFor penX) v ∧ xs.foldl (voteFor penX) v ≤ 8 := by
  induction xs generalizing v with
  | nil => exact ⟨rfl, hlow, hhigh⟩
  | cons x xs ih =>
    obtain ⟨hlow', hhigh'⟩ := voteFor_within hlow hhigh penX x
    have := ih hlow' hhigh'
    rw [List.foldl_cons, List.foldl_cons, ← voteFor_eq hlow hhigh]
    exact this

theorem voteAfter_of_shadow {sn : Snapshot} (h : sn.shadow ≠ none) (vote : Int) (before after : List (Option Track)) :
    voteAfter sn .panel vote before after = (votingPalms before after).foldl (voteFor sn.penPos.x) vote :=
  if_pos (by simpa [Option.isSome_iff_ne_none] using h)

theorem voteAfter_of_none {sn : Snapshot} {u : Surface} (h : u = .pad ∨ sn.shadow = none) (vote : Int)
    (before after : List (Option Track)) : voteAfter sn u vote before after = vote := by
  refine if_neg fun hvotes => ?_
  rw [Bool.and_eq_true, beq_iff_eq, Option.isSome_iff_ne_none] at hvotes
  obtain h | h := h
  · exact absurd (h.symm.trans hvotes.1) (by decide)
  · exact hvotes.2 h

/-- Settles O36: the rectangle clamped at the panel's far borders, and the fold over the voting palms. -/
theorem shadowHoldsThePen : Obligations.ShadowHoldsThePen := by
  refine ⟨fun s hx hy => ⟨State.shadow_eq_none, fun r hr => ?_⟩,
    fun sn u vote before after hb ha hlow hhigh => ?_⟩
  · obtain ⟨-, hrect⟩ := State.shadow_eq_some.mp hr
    have hholds := shadowRect_holds (t := s.tune) hx hy (rightHand s.tune s.pen.vote)
    have heq := shadowRect_eq (t := s.tune) hx hy (rightHand s.tune s.pen.vote)
    rw [hrect] at hholds heq
    subst heq
    refine ⟨hholds, Nat.min_le_right _ _, Nat.min_le_right _ _, fun hright => ?_, fun hleft => ?_, rfl, rfl⟩
    · simp [rightHand_eq_true hright]
    · simp [rightHand_eq_false hleft]
  · intro palms
    have hpalms : votingPalms before after = palms := votingPalms_eq hb ha
    obtain ⟨hfold, hwithin⟩ := foldl_voteFor hlow hhigh sn.penPos.x palms
    refine ⟨fun hu hshadow => ?_, fun hnone => voteAfter_of_none hnone .., ?_⟩
    · rw [hu, voteAfter_of_shadow hshadow, hpalms, hfold]
    · by_cases hnone : u = .pad ∨ sn.shadow = none
      · rw [voteAfter_of_none hnone]
        exact ⟨hlow, hhigh⟩
      · obtain ⟨hu, hshadow⟩ := not_or.mp hnone
        obtain rfl : u = .panel := by cases u <;> simp_all
        rw [voteAfter_of_shadow hshadow, hpalms]
        exact hwithin

end Sys2Proof.Machine

/-! The POSTURE command (07.2 to 07.4): O37. -/

namespace Sys2Proof.Machine

variable {s : State} {tag : Byte}

/-! ## Codes and bands (R109 to R112) -/

theorem Posture.ofCode_eq_none {n : Nat} (h : 5 ≤ n) : Posture.ofCode n = none := List.getElem?_eq_none h

theorem Posture.ofCode_code (p : Posture) : Posture.ofCode p.code = some p := by
  cases p <;> rfl

theorem Posture.mem_all (p : Posture) : p ∈ Posture.all := by
  cases p <;> decide

theorem PostureEntry.bandEmpty_eq_false {e : PostureEntry} :
    e.bandEmpty = false ↔ ¬ (e.bandMin = 0 ∧ e.bandMax = 0) := by
  simp [PostureEntry.bandEmpty]

theorem staysInBand_iff {e : PostureEntry} {hysteresis angle : Nat} : staysInBand e hysteresis angle = true ↔
    ¬ (e.bandMin = 0 ∧ e.bandMax = 0) ∧ e.bandMin ≤ angle + hysteresis ∧ angle ≤ e.bandMax + hysteresis := by
  rw [staysInBand, Bool.and_eq_true, Bool.not_eq_true', PostureEntry.bandEmpty_eq_false, decide_eq_true_eq]

theorem PostureEntry.bandHolds_iff {e : PostureEntry} {angle : Nat} : e.bandHolds angle = true ↔
    ¬ (e.bandMin = 0 ∧ e.bandMax = 0) ∧ e.bandMin ≤ angle ∧ angle ≤ e.bandMax := by
  rw [PostureEntry.bandHolds, Bool.and_eq_true, Bool.not_eq_true', PostureEntry.bandEmpty_eq_false, decide_eq_true_eq]

theorem postureAt_eq_none {t : Tables} {angle : Nat} (h : ∀ p, ¬ (t.postureEntry p).bandHolds angle = true) :
    postureAt t angle = none :=
  List.find?_eq_none.mpr fun p _ => h p

/-- The one posture whose band holds the angle is found. -/
theorem postureAt_eq_some {t : Tables} {angle : Nat} {p : Posture} (hp : (t.postureEntry p).bandHolds angle = true)
    (honly : ∀ q, (t.postureEntry q).bandHolds angle = true → q = p) : postureAt t angle = some p := by
  cases hfound : postureAt t angle with
  | none => exact absurd hp (by simpa using List.find?_eq_none.mp hfound p p.mem_all)
  | some q => rw [honly q (List.find?_some (p := fun p => (t.postureEntry p).bandHolds angle) hfound)]

theorem State.postureFor_of_stays {angle : Nat} (h : staysInBand s.entry (angleHysteresis s.tune) angle = true) :
    s.postureFor angle = s.posture := if_pos h

theorem State.postureFor_of_none {angle : Nat} (h : postureAt s.tables.active angle = none) :
    s.postureFor angle = s.posture := by
  rw [State.postureFor, h]
  exact ite_self _

theorem State.postureFor_of_leaves {angle : Nat} {p : Posture}
    (hleaves : ¬ staysInBand s.entry (angleHysteresis s.tune) angle = true) (h : postureAt s.tables.active angle = some p) :
    s.postureFor angle = p := by
  rw [State.postureFor, if_neg hleaves, h, Option.getD_some]

/-! ## The command (R110, R113) -/

theorem State.setPosture_of_same (h : s.takes) : (s.setLinkOut .zeros).setPosture tag s.posture =
    s.replied tag 0x08 .done ([byteOf s.posture.code] ++ natBytes2 s.angle ++ [0]) :=
  (if_pos rfl).trans (State.done_of_takes h tag 0x08 _)

theorem State.setPosture_of_change {p : Posture} (h : p ≠ s.posture) : s.setPosture tag p = State.done
    (State.noticeRises s (s.changePosture p)) tag 0x08 ([byteOf p.code] ++ natBytes2 s.angle ++ [1]) := by
  refine (if_neg h).trans ?_
  simp [State.postureDone, State.changePosture, flagByte]

/-- Settles O37: the posture that the code or the angle leads to, and whether it is the current one. -/
theorem postureCommandsSetThePosture : Obligations.PostureCommandsSetThePosture := by
  refine ⟨fun s tag v htakes => ⟨fun hv => ?_, fun hv => ?_, fun p hv hp => ?_⟩, fun s tag v htakes => ?_⟩
  · refine State.takeWrite_next htakes ?_
    rw [State.takePostureCode, Posture.ofCode_eq_none hv]
    exact State.refuse_of_takes htakes ..
  · refine State.takeWrite_next htakes ?_
    rw [State.takePostureCode, hv, Posture.ofCode_code]
    exact State.setPosture_of_same htakes
  · refine State.takeWrite_next htakes ?_
    rw [State.takePostureCode, hv, Posture.ofCode_code]
    exact State.setPosture_of_change hp
  · intro a e stays holds kept
    have hholds (p : Posture) : (s.tables.active.postureEntry p).bandHolds a = true ↔ holds p := PostureEntry.bandHolds_iff
    have hstays : staysInBand s.entry (angleHysteresis s.tune) a = true ↔ stays := staysInBand_iff
    have hkept (hfor : s.postureFor a = s.posture) : kept := by
      refine State.takeWrite_next htakes ?_
      show State.setPosture _ tag (s.postureFor a) = _
      rw [hfor]
      exact State.setPosture_of_same (s := { s with angle := a }) htakes
    refine ⟨fun h => hkept (State.postureFor_of_stays (hstays.mpr h)),
      fun h => hkept (State.postureFor_of_none (postureAt_eq_none fun p hp => h p ((hholds p).mp hp))),
      fun p hleaves hp honly hchange => State.takeWrite_next htakes ?_⟩
    have hfor : s.postureFor a = p := State.postureFor_of_leaves (fun h => hleaves (hstays.mp h))
      (postureAt_eq_some ((hholds p).mpr hp) fun q hq => honly q ((hholds q).mp hq))
    show State.setPosture _ tag (s.postureFor a) = _
    rw [hfor]
    exact State.setPosture_of_change (s := { s with linkOut := .zeros, angle := a }) hchange

end Sys2Proof.Machine

/-! CONTACT reports announced and called for (04.4 to 04.7): O32. -/

namespace Sys2Proof.Machine

/-! ## Live completions (R16) -/

section
variable {s : State}

/-- A claim dropped reaches the contexts and the motion unit alone (R123, R149). -/
theorem State.dropClaim_frame (k : Nat) (r : TrackRef) : s.dropClaim k r = { s with
    gestures := { s.gestures with contexts := (s.dropClaim k r).gestures.contexts }
    motion := (s.dropClaim k r).motion } := by
  unfold State.dropClaim
  dsimp only
  split
  · split <;> rfl
  · rfl

theorem State.forceRelease_frame (n : Nat) (b e : Option Track) : s.forceRelease n b e = { s with
    gestures := { s.gestures with contexts := (s.forceRelease n b e).gestures.contexts }
    motion := (s.forceRelease n b e).motion } := by
  unfold State.forceRelease
  split
  · exact s.dropClaim_frame _ _
  · rfl

theorem State.releases_frame (u : Surface) (r : LiveResult) : s.releases u r = { s with
    gestures := { s.gestures with contexts := (s.releases u r).gestures.contexts }
    motion := (s.releases u r).motion } :=
  foldl_invariant (fun x : State => x = { s with
      gestures := { s.gestures with contexts := x.gestures.contexts }, motion := x.motion }) _
    (fun x c hx => by rw [x.forceRelease_frame, hx]) _ _ rfl

/-- What a live completion makes of the state that its forced releases leave (R16, R64). -/
def State.settleOver (s x : State) (u : Surface) (sn : Snapshot) (f : ReadyFrame) : State :=
  let r := liveWork sn u f
  let s2 := x.handDigest (s.liveDigest u sn f r)
  { s2 with
    base := s2.base.set u (liveBase sn u r.extraction.boxes f.samples)
    tracks := liveTable s.tracks u sn r
    palm := palmAfter u (palmHold sn.tables.tune) s.now r.before r.after r.opening.hits s.palm
    pen := { s2.pen with vote := voteAfter sn u s2.pen.vote r.before r.after }
    blobOverflow := s2.blobOverflow.set u
      (if r.extraction.overflow then countUp (s.blobOverflow.get u) else s.blobOverflow.get u) }

theorem State.liveSettled_eq_settleOver (u : Surface) (sn : Snapshot) (f : ReadyFrame) :
    s.liveSettled u sn f = s.settleOver (s.releases u (liveWork sn u f)) u sn f := rfl

theorem State.liveSettled_frame (u : Surface) (sn : Snapshot) (f : ReadyFrame) : s.liveSettled u sn f =
    let r := liveWork sn u f
    { s with
      base := s.base.set u (liveBase sn u r.extraction.boxes f.samples)
      tracks := liveTable s.tracks u sn r
      palm := palmAfter u (palmHold sn.tables.tune) s.now r.before r.after r.opening.hits s.palm
      pen := { s.pen with vote := voteAfter sn u s.pen.vote r.before r.after }
      blobOverflow := s.blobOverflow.set u
        (if r.extraction.overflow then countUp (s.blobOverflow.get u) else s.blobOverflow.get u)
      gestures := { s.gestures with
        contexts := (s.releases u r).gestures.contexts, digests := s.gestures.digests ++ [s.liveDigest u sn f r] }
      motion := (s.releases u r).motion } := by
  rw [State.liveSettled_eq_settleOver, s.releases_frame]
  rfl

/-- A live operation that has room for its digest completes, with no commit pending, with its effects alone (R16). -/
theorem exec_live_completion {o : Operation} {f : ReadyFrame} (hop : s.engine.op = some o) (hworking : o.held = false)
    (hwork : o.work = .frame f) (hlive : o.snap.state = .live) (hroom : s.gestures.digests.length < 4)
    (hcommit : s.tables.commit = none) :
    exec .frameOperationComplete s = .next ((s.setOp none).completeLive o.surface o.snap f) := by
  have happly : (s.setOp none).applyOperation o = (s.setOp none).completeLive o.surface o.snap f := by
    simp only [State.applyOperation, hwork, hlive]
  rw [exec_frameOperationComplete_working hop hworking (.inr (State.digestsFull_eq_false.mpr hroom)),
    State.completeOperation_frame hwork, happly]
  rw [happly]
  simpa using hcommit

theorem State.offerNotice_appends (n : Notice) : ∃ notices : List Notice,
    (s.offerNotice n).queue = s.queue ++ notices.map (fun n => (Payload.notice n).fresh s.now) := by
  obtain ⟨-, heq⟩ | ⟨-, heq⟩ := s.offerNotice_cases n <;> rw [heq]
  · exact ⟨[n], rfl⟩
  · exact ⟨[], (List.append_nil _).symm⟩

theorem State.recapture_appends {u : Surface} (h : (s.intake.get u).state = .live) : ∃ notices : List Notice,
    (s.recapture u).queue = s.queue ++ notices.map (fun n => (Payload.notice n).fresh s.now) := by
  rw [s.recapture_of_change (by rw [h]; exact nofun)]
  exact State.offerNotice_appends _

/-- A recapture by an anti-touch frame adds NOTICEs alone to what the live completion's report leaves. -/
theorem State.completeLive_appends (u : Surface) (sn : Snapshot) (f : ReadyFrame) :
    ∃ notices : List Notice, (s.completeLive u sn f).queue = ((s.liveSettled u sn f).liveReport u sn f).queue ++
        notices.map (fun n => (Payload.notice n).fresh ((s.liveSettled u sn f).liveReport u sn f).now) ∧
      (s.completeLive u sn f).tracks = ((s.liveSettled u sn f).liveReport u sn f).tracks := by
  rw [State.completeLive_eq]
  generalize (s.liveSettled u sn f).liveReport u sn f = t
  dsimp only
  split
  next hrecaptures =>
    obtain ⟨notices, hqueue⟩ := State.recapture_appends (u := u) (by simp at hrecaptures; exact hrecaptures.1.2)
    exact ⟨notices, hqueue, by simp⟩
  · exact ⟨[], (List.append_nil _).symm, rfl⟩

end

/-! ## Reports that are called for (R61, R68, R69) -/

theorem hasRoom_eq_false_of {q : List Record} (h : 28 ≤ ordinaryCount q ∨ 32 ≤ q.length) : hasRoom q = false := by
  rw [hasRoom_eq_false_iff]
  omega

theorem State.offerContact_of_room {s : State} (hshaped : s.tracks.shaped) (hroom : hasRoom s.queue = true) (time : Time)
    (u : Surface) (cause : ContactCause) : s.offerContact time ⟨u, cause, s.tracks.entries u⟩ = { s with
      queue := s.queue ++ [⟨time, .contact ⟨u, cause, s.tracks.entries u⟩, false⟩]
      tracks := { s.tracks with slots := s.tracks.slots.set u ((s.tracks.slots.get u).map announcedSlot) } } := by
  obtain ⟨-, heq⟩ | ⟨hfull, -⟩ := State.offerContact_built hshaped time u cause
  · exact heq
  · exact absurd hroom (by simp [hfull])

theorem State.offerContact_of_full {s : State} (hfull : hasRoom s.queue = false) (time : Time) (r : ContactReport) :
    s.offerContact time r = s := by
  obtain ⟨hroom, -⟩ | ⟨-, heq⟩ := s.offerContact_cases time r
  · exact absurd hroom (by simp [hfull])
  · exact heq

theorem State.engineHas_eq_false {s : State} {u : Surface} : s.engineHas u = false ↔
    (∀ w ∈ s.engine.waitList, w.surface ≠ u) ∧ ∀ o, s.engine.op = some o → o.surface ≠ u := by
  simp only [State.engineHas, Bool.or_eq_false_iff, List.any_eq_false, Option.any_eq_false, beq_iff_eq,
    beq_eq_false_iff_ne, ne_eq]

theorem buildsReport_iff {mode : Nat} {entries : List ContactEntry} {changed : Bool} :
    buildsReport mode entries changed = true ↔ mode = 0 ∨ (∃ e ∈ entries, e.mark ≠ .ongoing) ∨ changed = true := by
  simp [buildsReport, or_assoc]

theorem liveChanged_iff {slopUnits : Nat} {before after : List (Option Track)} :
    liveChanged slopUnits before after = true ↔ ∃ p ∈ before.zip after, movedHere slopUnits p.1 p.2 = true ∨
      (classChanged p.1 p.2 = true ∧ ∃ x, p.2 = some x ∧ x.mark ≠ none) := by
  simp only [liveChanged, List.any_eq_true, Bool.or_eq_true, Bool.and_eq_true, Option.isSome_iff_ne_none]
  refine exists_congr fun p => and_congr_right fun _ => or_congr_right (and_congr_right fun _ => ?_)
  cases p.2 <;> simp

/-- The contact mode and the operation call for a report of the table (R68). -/
def liveBuilds (u : Surface) (sn : Snapshot) (f : ReadyFrame) (table : TrackTable) : Bool :=
  let r := liveWork sn u f
  buildsReport (contactMode sn.tables.tune) (table.entries u) (liveChanged (slop sn.tables.tune) r.before r.after)

theorem State.liveReport_of_room {s : State} {u : Surface} {sn : Snapshot} {f : ReadyFrame} (hshaped : s.tracks.shaped)
    (hbuilds : liveBuilds u sn f s.tracks = true) (hroom : hasRoom s.queue = true) : s.liveReport u sn f = { s with
      queue := s.queue ++ [⟨f.time, .contact ⟨u, .frame f.frame, s.tracks.entries u⟩, false⟩]
      tracks := { s.tracks with slots := s.tracks.slots.set u ((s.tracks.slots.get u).map announcedSlot) } } :=
  (if_pos hbuilds).trans (State.offerContact_of_room hshaped hroom ..)

theorem State.liveReport_of_none {s : State} {u : Surface} {sn : Snapshot} {f : ReadyFrame}
    (h : ¬ liveBuilds u sn f s.tracks = true ∨ hasRoom s.queue = false) : s.liveReport u sn f = s := by
  unfold State.liveReport
  dsimp only
  split
  next hbuilds => exact State.offerContact_of_full (h.resolve_left (not_not.mpr hbuilds)) ..
  · rfl

theorem State.liveSettled_ports (s : State) (u : Surface) (sn : Snapshot) (f : ReadyFrame) :
    (s.liveSettled u sn f).queue = s.queue ∧ (s.liveSettled u sn f).now = s.now := by
  rw [State.liveSettled_frame]
  exact ⟨rfl, rfl⟩

/-- The queue and the tracks that a live completion leaves (R60, R61). -/
theorem State.completeLive_report (s : State) (u : Surface) (sn : Snapshot) (f : ReadyFrame) :
    let table := liveTable s.tracks u sn (liveWork sn u f)
    ∃ notices : List Notice,
      (table.shaped → liveBuilds u sn f table = true → hasRoom s.queue = true → (s.completeLive u sn f).queue =
          s.queue ++ [⟨f.time, .contact ⟨u, .frame f.frame, table.entries u⟩, false⟩] ++
            notices.map (fun n => (Payload.notice n).fresh s.now) ∧
        (s.completeLive u sn f).tracks =
          { table with slots := table.slots.set u ((table.slots.get u).map announcedSlot) }) ∧
      (¬ liveBuilds u sn f table = true ∨ hasRoom s.queue = false → (s.completeLive u sn f).queue =
          s.queue ++ notices.map (fun n => (Payload.notice n).fresh s.now) ∧
        (s.completeLive u sn f).tracks = table) := by
  intro table
  obtain ⟨notices, hqueue, htracks⟩ := s.completeLive_appends u sn f
  obtain ⟨hsettled, hnow⟩ := s.liveSettled_ports u sn f
  have htable : (s.liveSettled u sn f).tracks = table := rfl
  rw [hqueue, htracks]
  generalize s.liveSettled u sn f = t at *
  rw [← hsettled, ← hnow, ← htable]
  refine ⟨notices, fun hshaped hbuilds hroom => ?_, fun h => ?_⟩
  · rw [State.liveReport_of_room hshaped hbuilds hroom]
    exact ⟨rfl, rfl⟩
  · rw [State.liveReport_of_none h]
    exact ⟨rfl, rfl⟩

/-- Settles O32: the entries slot by slot, and each report by whether it is called for and admitted. -/
theorem contactReportsAnnounce : Obligations.ContactReportsAnnounce := by
  refine ⟨fun t u => ⟨fun e => ?_, entries_pairwise t u⟩, fun s u cause time hshaped => ⟨fun hroom => ?_, fun hfull => ?_⟩,
    fun s u => ?_, fun s o f hop hworking hwork hlive hroom hcommit => ?_⟩
  · refine mem_entries.trans (exists_congr fun i => exists_congr fun x => and_congr_right fun _ => ?_)
    rw [contactEntry_eq_some, Track.mark_eq_some]
    tauto
  · exact State.offerContact_of_room hshaped ((hasRoom_iff _).mpr hroom) ..
  · exact State.offerContact_of_full (hasRoom_eq_false_of hfull) ..
  · intro qualifies
    have hqualifies : (s.tracks.announcePending u && !s.engineHas u) = true ↔ qualifies := by
      rw [Bool.and_eq_true, Bool.not_eq_true', TrackTable.announcePending_iff, State.engineHas_eq_false]
    exact ⟨fun h => if_pos (hqualifies.mpr h), fun h => if_neg fun hq => h (hqualifies.mp hq)⟩
  · intro r report builds table hshaped hsnap
    obtain ⟨notices, hreported, hunreported⟩ := (s.setOp none).completeLive_report o.surface o.snap f
    have hbuilds : liveBuilds o.surface o.snap f table = true ↔ builds :=
      buildsReport_iff.trans (or_congr_right (or_congr_right liveChanged_iff))
    exact ⟨_, notices, exec_live_completion hop hworking hwork hlive hroom hcommit,
      fun h hordinary hplace => hreported (liveTable_shaped hsnap hshaped) (hbuilds.mpr h)
        ((hasRoom_iff _).mpr ⟨hordinary, hplace⟩),
      fun h => hunreported (h.imp (fun hnot hb => hnot (hbuilds.mp hb)) hasRoom_eq_false_of)⟩

end Sys2Proof.Machine

/-! Live completions (01.6, 04.1, 04.6, 05.4, 08.2, 09.2): O22. -/

namespace Sys2Proof.Machine

/-! ## Slots by their number -/

theorem zipIdx_map_range {α : Type} (f : Nat → α) (n : Nat) :
    ((List.range n).map f).zipIdx = (List.range n).map fun i => (f i, i) := by
  refine List.ext_getElem (by simp) fun i h _ => ?_
  simp

/-! ## Events, positions and slots of a live completion (R50, R65, R66) -/

section
variable {b : Option Track} {y : Track}

/-- The track of a slot went through the operation, ACTIVE or MISSING before it (R65). -/
theorem wentThrough_iff : (goesOn b (some y) = true ∧ b.any Track.confirmed = true) ↔
    goesOn b (some y) = true ∧ ∃ x, b = some x ∧ (x.state = .active ∨ x.state = .missing) := by
  cases b <;> simp [Track.confirmed]

theorem confirmedHere_iff : confirmedHere b (some y) = true ↔
    y.state = .active ∧ ¬ (goesOn b (some y) = true ∧ b.any Track.confirmed = true) := by
  simp only [confirmedHere, Option.any_some, Bool.and_eq_true, beq_iff_eq, Bool.not_eq_true', ← Bool.not_eq_true]

theorem liftedHere_iff : liftedHere b (some y) = true ↔
    (goesOn b (some y) = true ∧ b.any Track.confirmed = true) ∧ y.state = .ended .lift := by
  simp [liftedHere]

theorem stayedActive_iff : stayedActive b (some y) = true ↔
    (goesOn b (some y) = true ∧ b.any Track.confirmed = true) ∧ y.state = .active := by
  simp [stayedActive]

theorem movedHere_iff {slopUnits : Nat} : movedHere slopUnits b (some y) = true ↔
    stayedActive b (some y) = true ∧ slopUnits ^ 2 ≤ sqDist y.pos y.anchor := by
  simp [movedHere]

theorem reclassed_iff : (stayedActive b (some y) && classChanged b (some y)) = true ↔
    stayedActive b (some y) = true ∧ b.map Track.cls ≠ some y.cls := by
  rw [Bool.and_eq_true]
  refine and_congr_right fun hstayed => ?_
  have hgoes := (stayedActive_iff.mp hstayed).1.1
  simp [classChanged, hgoes]

theorem finishSlot_some (slopUnits : Nat) (b : Option Track) (y : Track) (now : Option Track) :
    finishSlot slopUnits b (some y) now = some { y with
      anchor := if goesOn b (some y) = true ∧ b.any Track.confirmed = true ∧ y.state = .active ∧
        slopUnits ^ 2 ≤ sqDist y.pos y.anchor then y.pos else y.anchor
      owner := now.bind fun x =>
        if goesOn b (some y) = true ∧ votedPalm b (some y) = false ∧ x.id = y.id then x.owner else none } := by
  have howner : ownerAfter b (some y) now = now.bind fun x =>
      if goesOn b (some y) = true ∧ votedPalm b (some y) = false ∧ x.id = y.id then x.owner else none := by
    cases now with
    | none => simp [ownerAfter]
    | some x => simp [ownerAfter, sameTrack, and_assoc, and_comm (a := x.id = y.id)]
  have hmoved : movedHere slopUnits b (some y) = true ↔ goesOn b (some y) = true ∧ b.any Track.confirmed = true ∧
      y.state = .active ∧ slopUnits ^ 2 ≤ sqDist y.pos y.anchor := by
    rw [movedHere_iff, stayedActive_iff, and_assoc, and_assoc]
  unfold finishSlot settleAnchor
  rw [howner]
  by_cases h : movedHere slopUnits b (some y) = true
  · simp [h, if_pos (hmoved.mp h)]
  · simp [h, if_neg fun hm => h (hmoved.mpr hm)]

theorem slotPlaced_finishSlot (n slopUnits : Nat) (b e now : Option Track) :
    slotPlaced n (finishSlot slopUnits b e now) = slotPlaced n e := by
  cases e with
  | none => simp [finishSlot, settleAnchor, movedHere]
  | some y => rw [finishSlot_some]; rfl

theorem slotPlaced_announcedSlot (n : Nat) (r : Option Track) : slotPlaced n (announcedSlot r) = slotPlaced n r := by
  cases r with
  | none => rfl
  | some x =>
    unfold announcedSlot
    cases hstate : x.state with
    | tentative | active | missing => simp [slotPlaced, hstate]
    | ended cause => cases hpending : x.endPending <;> simp [slotPlaced, hstate, hpending]

end

/-- The slots of a live completion's surface, by their number (R50, R65). -/
theorem liveTable_eq_range {now : TrackTable} {u : Surface} {sn : Snapshot} {r : LiveResult} (hb : r.before.length = 10)
    (ha : r.after.length = 10) (hnow : now.shaped) : (liveTable now u sn r).slots.get u = (List.range 10).map fun i =>
      finishSlot (slop sn.tables.tune) (r.before.getD i none) (r.after.getD i none) ((now.slots.get u).getD i none) := by
  have hn : (now.slots.get u).length = 10 := TrackTable.shaped_get hnow u
  refine List.ext_getElem? fun i => ?_
  rw [liveTable_getElem?]
  by_cases hi : i < 10
  · simp [hb, ha, hn, hi]
  · simp [hb, hi]

/-! ## The pointer and the forced releases (R88, R149) -/

section
variable (s : State)

/-- The pointer's source is among the tracks that the context of its holder loses. -/
def State.sourceAmong (lost : Nat → List TrackRef) : Prop := ∃ p c, s.motion.pointer = some p ∧
  s.context p.holder.slot = some c ∧ c.serial = p.holder.serial ∧ p.source ∈ lost p.holder.slot

theorem State.sourceAmong_congr {s t : State} {lost lost' : Nat → List TrackRef} (hmotion : t.motion = s.motion)
    (hserial : ∀ k, (t.context k).map Context.serial = (s.context k).map Context.serial)
    (hlost : ∀ k r, r ∈ lost k ↔ r ∈ lost' k) : t.sourceAmong lost ↔ s.sourceAmong lost' := by
  have key (k n : Nat) : (∃ c, t.context k = some c ∧ c.serial = n) ↔ ∃ c, s.context k = some c ∧ c.serial = n := by
    simpa [Option.map_eq_some_iff] using congrArg (· = some n) (hserial k)
  simp only [State.sourceAmong, hmotion, hlost]
  refine exists_congr fun p => ?_
  have := key p.holder.slot p.holder.serial
  constructor
  · rintro ⟨c, hp, hc, hs, hr⟩
    obtain ⟨c', hc', hs'⟩ := this.mp ⟨c, hc, hs⟩
    exact ⟨c', hp, hc', hs', hr⟩
  · rintro ⟨c, hp, hc, hs, hr⟩
    obtain ⟨c', hc', hs'⟩ := this.mpr ⟨c, hc, hs⟩
    exact ⟨c', hp, hc', hs', hr⟩

/-- A forced release takes the pointer exactly when it takes its source's claim (R88, R149). -/
theorem State.forceRelease_motion (n : Nat) (b e : Option Track) :
    (s.sourceAmong (fun k => (s.tracks.releaseOf k (n, b, e)).toList) ∧
      (s.forceRelease n b e).motion = { s.motion with pointer := none, residueX := 0, residueY := 0 }) ∨
    (¬ s.sourceAmong (fun k => (s.tracks.releaseOf k (n, b, e)).toList) ∧ (s.forceRelease n b e).motion = s.motion) := by
  cases e with
  | none =>
    rw [State.forceRelease_of_none]
    exact .inr ⟨by simp [State.sourceAmong, TrackTable.releaseOf], rfl⟩
  | some y =>
    obtain ⟨k, c, hrelease, hc, heq⟩ | ⟨hnone, heq⟩ := s.forceRelease_cases n b y
    · rw [heq]
      obtain ⟨c', hc', hp, hmotion⟩ | ⟨hother, hmotion⟩ := s.dropClaim_motion_cases k ⟨n, y.id⟩
      · exact .inl ⟨⟨_, c', hp, hc', rfl, by simp [hrelease]⟩, hmotion⟩
      · refine .inr ⟨?_, hmotion⟩
        rintro ⟨⟨⟨j, serial⟩, source⟩, d, hp, hd, hserial, hsource⟩
        have hsome := Option.mem_toList.mp hsource
        obtain rfl : j = k := TrackTable.releaseOf_owner hsome hrelease
        rw [hrelease] at hsome
        cases hsome
        cases hserial
        exact hother d hd hp
    · rw [heq]
      refine .inr ⟨?_, rfl⟩
      rintro ⟨p, c, -, hc, -, hsource⟩
      rw [hnone p.holder.slot (by simp [Option.mem_toList.mp hsource])] at hc
      cases hc

theorem State.not_sourceAmong_of_free (h : s.motion.pointer = none) (lost : Nat → List TrackRef) : ¬ s.sourceAmong lost := by
  rintro ⟨p, _, hp, -⟩
  rw [h] at hp
  cases hp

theorem State.sourceAmong_append (l m : Nat → List TrackRef) :
    s.sourceAmong (fun k => l k ++ m k) ↔ s.sourceAmong l ∨ s.sourceAmong m := by
  simp only [State.sourceAmong, List.mem_append, and_or_left, exists_or]

theorem State.forceReleases_motion (cs : List (Nat × Option Track × Option Track)) :
    (s.sourceAmong (fun k => cs.filterMap (s.tracks.releaseOf k)) ∧
      (cs.foldl (fun acc c => acc.forceRelease c.1 c.2.1 c.2.2) s).motion =
        { s.motion with pointer := none, residueX := 0, residueY := 0 }) ∨
    (¬ s.sourceAmong (fun k => cs.filterMap (s.tracks.releaseOf k)) ∧
      (cs.foldl (fun acc c => acc.forceRelease c.1 c.2.1 c.2.2) s).motion = s.motion) := by
  induction cs generalizing s with
  | nil => exact .inr ⟨by simp [State.sourceAmong], rfl⟩
  | cons change cs ih =>
    obtain ⟨n, b, e⟩ := change
    have hcons (k : Nat) : ((n, b, e) :: cs).filterMap (s.tracks.releaseOf k) =
        (s.tracks.releaseOf k (n, b, e)).toList ++ cs.filterMap (s.tracks.releaseOf k) := by
      rw [List.filterMap_cons]
      cases s.tracks.releaseOf k (n, b, e) <;> rfl
    simp only [hcons, State.sourceAmong_append, List.foldl_cons]
    have hrest := ih (s.forceRelease n b e)
    rw [State.forceRelease_tracks] at hrest
    obtain ⟨hhead, hmotion⟩ | ⟨hhead, hmotion⟩ := s.forceRelease_motion n b e
    · refine .inl ⟨.inl hhead, ?_⟩
      obtain ⟨hsource, -⟩ | ⟨-, heq⟩ := hrest
      · exact absurd hsource (State.not_sourceAmong_of_free _ (by rw [hmotion]) _)
      · rw [heq, hmotion]
    · have hsame := State.sourceAmong_congr hmotion (fun k => by
          rw [State.context_forceRelease, Option.map_map]
          rfl) (fun k r => Iff.rfl (a := r ∈ cs.filterMap (s.tracks.releaseOf k)))
      rw [hsame, hmotion] at hrest
      exact hrest.imp (And.imp_left .inr) (And.imp_left fun h => not_or.mpr ⟨hhead, h⟩)

end

end Sys2Proof.Machine

/-! Live completions, whole (01.6, 02.5): O22. -/

namespace Sys2Proof.Machine

section
variable (s : State) (u : Surface) (sn : Snapshot) (f : ReadyFrame)

/-- An anti-touch frame of a surface that is LIVE and not shut recaptures it (R29). -/
def State.recaptures : Bool := antiTouch sn f.samples && (s.intake.get u).state == .live && !s.shut u

theorem State.recaptures_iff : s.recaptures u sn f = true ↔ recapCells sn.tables.tune ≤
    antiTouchCells (recapThreshold sn.tables.tune) sn.base.values f.samples ∧
      (s.intake.get u).state = .live ∧ s.shut u = false := by
  simp [State.recaptures, antiTouch, and_assoc]

theorem State.recapture_frame (h : (s.intake.get u).state = .live) : s.recapture u = { s with
    intake := s.intake.set u { s.intake.get u with state := .acquire, timeout := s.timeoutFromNow, ready := none }
    engine := { s.engine with waitList := s.postedNone u }
    queue := (s.recapture u).queue
    link := { s.link with owed := (s.recapture u).link.owed } } := by
  rw [s.recapture_of_change (by rw [h]; exact nofun)]
  obtain ⟨-, heq⟩ | ⟨-, heq⟩ := State.offerNotice_cases _ _ <;> rw [State.surfaceNotice, heq] <;> rfl

theorem State.liveReport_frame : s.liveReport u sn f =
    { s with queue := (s.liveReport u sn f).queue, tracks := (s.liveReport u sn f).tracks } := by
  unfold State.liveReport
  dsimp only
  split
  · obtain ⟨-, heq⟩ | ⟨-, heq⟩ := State.offerContact_cases s f.time ⟨u, .frame f.frame, s.tracks.entries u⟩
    · rw [heq]
      rfl
    · rw [heq]
  · rfl

/-- A live completion, past what it settles, reaches the queue, the tracks that its report announces and, by
recapture, the surface's intake, the wait list and the owed causes. -/
theorem State.completeLive_frame : s.completeLive u sn f = { s.liveSettled u sn f with
      intake := if s.recaptures u sn f then
          s.intake.set u { s.intake.get u with state := .acquire, timeout := s.timeoutFromNow, ready := none }
        else s.intake
      engine := if s.recaptures u sn f then { s.engine with waitList := s.postedNone u } else s.engine
      tracks := (s.completeLive u sn f).tracks
      queue := (s.completeLive u sn f).queue
      link := if s.recaptures u sn f then { s.link with owed := (s.completeLive u sn f).link.owed } else s.link } := by
  have hreport := (s.liveSettled u sn f).liveReport_frame u sn f
  have hsettled := s.liveSettled_frame u sn f
  generalize hx : s.liveSettled u sn f = x at *
  generalize hy : x.liveReport u sn f = y at *
  have hcomplete : s.completeLive u sn f = if s.recaptures u sn f then y.recapture u else y := by
    rw [State.completeLive_eq, hx, hy]
    rw [hreport, hsettled]
    rfl
  rw [hcomplete]
  split
  next h =>
    have hlive : (y.intake.get u).state = .live := by
      rw [hreport, hsettled]
      exact ((s.recaptures_iff u sn f).mp h).2.1
    have hframe := y.recapture_frame u hlive
    generalize y.recapture u = z at *
    rw [hframe, hreport, hsettled]
    rfl
  · generalize y.queue = q at *
    generalize y.tracks = t at *
    rw [hreport, hsettled]

theorem State.completeLive_tracks :
    let table := liveTable s.tracks u sn (liveWork sn u f)
    table.shaped → (s.completeLive u sn f).tracks = table ∨ (s.completeLive u sn f).tracks =
      { table with slots := table.slots.set u ((table.slots.get u).map announcedSlot) } := by
  intro table hshaped
  obtain ⟨_, hreported, hunreported⟩ := s.completeLive_report u sn f
  by_cases h : liveBuilds u sn f table = true ∧ hasRoom s.queue = true
  · exact .inr (hreported hshaped h.1 h.2).2
  · refine .inl (hunreported ?_).2
    rw [← Bool.not_eq_true]
    exact not_and_or.mp h

end

/-! ## The digest of a live completion (R64 to R66) -/

theorem slotPlaced_eq_bind (n : Nat) (r : Option Track) : slotPlaced n r = r.bind fun x =>
    if x.state = .active then some ⟨⟨n, x.id⟩, x.pos, x.pos.x - (x.prev.getD x.pos).x, x.pos.y - (x.prev.getD x.pos).y⟩
    else none := by
  cases r <;> rfl

/-- The position list read off the slots that a live completion leaves (R66). -/
theorem placed_of_slots {u : Surface} {g : Nat → Option Track} {after : List (Option Track)}
    (h : ∀ i, slotPlaced (u.firstSlot + i) (g i) = slotPlaced (u.firstSlot + i) (after.getD i none)) :
    (((List.range 10).map g).zipIdx.filterMap fun (r, i) => r.bind fun x =>
      if x.state = .active then
        some (⟨⟨u.firstSlot + i, x.id⟩, x.pos, x.pos.x - (x.prev.getD x.pos).x, x.pos.y - (x.prev.getD x.pos).y⟩ : Placed)
      else none) = (List.range 10).filterMap fun i => slotPlaced (u.firstSlot + i) (after.getD i none) := by
  rw [zipIdx_map_range, List.filterMap_map]
  exact List.filterMap_congr fun i _ => (slotPlaced_eq_bind _ _).symm.trans (h i)

theorem releasedTo_eq {t : TrackTable} {u : Surface} {r : LiveResult} (hb : r.before.length = 10) (ha : r.after.length = 10)
    (k : Nat) : releasedTo t u r k = (List.range 10).filterMap fun i => (r.after.getD i none).bind fun y =>
      ((t.slots.get u).getD i none).bind fun x =>
        if votedPalm (r.before.getD i none) (some y) = true ∧ x.id = y.id ∧ x.owner = some k then
          some ⟨u.firstSlot + i, y.id⟩ else none := by
  rw [releasedTo, slotChanges_eq hb ha, List.filterMap_map]
  refine List.filterMap_congr fun i hi => ?_
  simp only [Function.comp_apply, TrackTable.releaseOf, TrackTable.at_firstSlot_add (List.mem_range.mp hi)]

/-- The events of a slot whose track is there after the operation (R65). -/
theorem slotEvents_some (slopUnits n : Nat) (released : Option ContextRef) (b : Option Track) (y : Track) :
    let track : TrackRef := ⟨n, y.id⟩
    let went := goesOn b (some y) = true ∧ ∃ x, b = some x ∧ (x.state = .active ∨ x.state = .missing)
    let stayed := went ∧ y.state = .active
    slotEvents slopUnits n released b (some y) =
      (if y.state = .active ∧ ¬ went ∧ y.cls ≠ .palm ∧ y.suppressed = false then
          [TrackEvent.touchdown track y.cls y.pos y.zone] else [])
        ++ (if went ∧ y.state = .ended .lift then [TrackEvent.lift track] else [])
        ++ (if stayed ∧ b.map Track.cls ≠ some y.cls then [TrackEvent.reclass track released] else [])
        ++ (if stayed ∧ slopUnits ^ 2 ≤ sqDist y.pos y.anchor then [TrackEvent.move track y.pos] else []) := by
  intro track went stayed
  have hwent : (goesOn b (some y) = true ∧ b.any Track.confirmed = true) ↔ went := wentThrough_iff
  have hstayed : stayedActive b (some y) = true ↔ stayed := stayedActive_iff.trans (and_congr_left' hwent)
  have hbegan : (confirmedHere b (some y) && y.cls != .palm && !y.suppressed) = true ↔
      y.state = .active ∧ ¬ went ∧ y.cls ≠ .palm ∧ y.suppressed = false := by
    rw [← hwent, Bool.and_eq_true, Bool.and_eq_true, confirmedHere_iff, Bool.not_eq_true', bne_iff_ne, and_assoc, and_assoc]
  have hlifted : liftedHere b (some y) = true ↔ went ∧ y.state = .ended .lift := liftedHere_iff.trans (and_congr_left' hwent)
  have hreclassed := reclassed_iff.trans (and_congr_left' (c := b.map Track.cls ≠ some y.cls) hstayed)
  have hmoved := movedHere_iff.trans (and_congr_left' (c := slopUnits ^ 2 ≤ sqDist y.pos y.anchor) hstayed)
  simp only [slotEvents, hbegan, hlifted, hreclassed, hmoved]
  rfl

/-- What a live completion leaves, field by field. -/
theorem State.completeLive_fields (s : State) (u : Surface) (sn : Snapshot) (f : ReadyFrame) :
    let t := s.completeLive u sn f
    let r := liveWork sn u f
    t = { s with intake := t.intake, blobOverflow := t.blobOverflow, engine := t.engine, base := t.base,
                 tracks := t.tracks, palm := t.palm, pen := t.pen, gestures := t.gestures,
                 motion := t.motion, queue := t.queue, link := t.link } ∧
      t.gestures = { s.gestures with
        contexts := (s.releases u r).gestures.contexts, digests := s.gestures.digests ++ [s.liveDigest u sn f r] } ∧
      t.motion = (s.releases u r).motion ∧ t.base = s.base.set u (liveBase sn u r.extraction.boxes f.samples) ∧
      t.blobOverflow = s.blobOverflow.set u (if r.extraction.overflow then countUp (s.blobOverflow.get u)
        else s.blobOverflow.get u) ∧
      t.palm = palmAfter u (palmHold sn.tables.tune) s.now r.before r.after r.opening.hits s.palm ∧
      t.pen = { s.pen with vote := voteAfter sn u s.pen.vote r.before r.after } ∧
      t.engine = (if s.recaptures u sn f then { s.engine with waitList := s.postedNone u } else s.engine) ∧
      t.intake = (if s.recaptures u sn f then
          s.intake.set u { s.intake.get u with state := .acquire, timeout := s.timeoutFromNow, ready := none }
        else s.intake) ∧
      t.link = (if s.recaptures u sn f then { s.link with owed := t.link.owed } else s.link) := by
  have hframe := s.completeLive_frame u sn f
  rw [State.liveSettled_frame] at hframe
  intro t r
  refine ⟨?_, (congrArg State.gestures hframe :), (congrArg State.motion hframe :), (congrArg State.base hframe :),
    (congrArg State.blobOverflow hframe :), (congrArg State.palm hframe :), (congrArg State.pen hframe :),
    (congrArg State.engine hframe :), (congrArg State.intake hframe :), (congrArg State.link hframe :)⟩
  show s.completeLive u sn f = _
  simp only [t]
  generalize s.completeLive u sn f = x at hframe
  rw [hframe]

theorem liveTable_nextId (now : TrackTable) (u : Surface) (sn : Snapshot) (r : LiveResult) :
    (liveTable now u sn r).nextId = r.opening.table.nextId := rfl

theorem liveTable_overflow (now : TrackTable) (u : Surface) (sn : Snapshot) (r : LiveResult) :
    (liveTable now u sn r).overflow = now.overflow.set u (min (now.overflow.get u + r.opening.dropped) 65535) := rfl

/-- The surface's slots and the rest of the track table as a live completion leaves them. -/
theorem State.completeLive_table (s : State) (u : Surface) (sn : Snapshot) (f : ReadyFrame) (hsn : sn.tracks.shaped)
    (hs : s.tracks.shaped) :
    let t := s.completeLive u sn f
    let r := liveWork sn u f
    let slots := (liveTable s.tracks u sn r).slots.get u
    (t.tracks.slots.get u = slots ∨ t.tracks.slots.get u = slots.map announcedSlot) ∧
      (∀ v, v ≠ u → t.tracks.slots.get v = s.tracks.slots.get v) ∧ t.tracks.nextId = r.opening.table.nextId ∧
      t.tracks.overflow = s.tracks.overflow.set u (min (s.tracks.overflow.get u + r.opening.dropped) 65535) := by
  intro t r slots
  have htable := s.completeLive_tracks u sn f (liveTable_shaped hsn hs)
  have hother {v : Surface} (hv : v ≠ u) := liveTable_slots_other (now := s.tracks) (sn := sn) hv (liveWork sn u f)
  have hnext := liveTable_nextId s.tracks u sn (liveWork sn u f)
  have hoverflow := liveTable_overflow s.tracks u sn (liveWork sn u f)
  simp only [t, slots, r]
  generalize liveTable s.tracks u sn (liveWork sn u f) = table at *
  obtain h | h := htable
  · rw [h]
    exact ⟨.inl rfl, fun v hv => hother hv, hnext, hoverflow⟩
  · rw [h]
    exact ⟨.inr (PerSurface.get_set_same _ _ _), fun v hv => (PerSurface.get_set_other _ _ _ _ hv).trans (hother hv), hnext,
      hoverflow⟩

/-- The events of a live completion's digest, slot by slot. -/
theorem State.liveDigest_events {s : State} {u : Surface} {sn : Snapshot} {f : ReadyFrame} {r : LiveResult}
    (hb : r.before.length = 10) (ha : r.after.length = 10) : (s.liveDigest u sn f r).events =
      (List.range 10).flatMap fun i => slotEvents (slop sn.tables.tune) (u.firstSlot + i)
        (s.releasedFrom (u.firstSlot + i) (r.before.getD i none) (r.after.getD i none)) (r.before.getD i none)
        (r.after.getD i none) := by
  refine Eq.trans (b := (slotChanges u r.before r.after).flatMap fun c =>
    slotEvents (slop sn.tables.tune) c.1 (s.releasedFrom c.1 c.2.1 c.2.2) c.2.1 c.2.2) rfl ?_
  rw [slotChanges_eq hb ha, List.flatMap_map]

/-- The position list of a live completion's digest, read off the slots it leaves (R66). -/
theorem State.liveDigest_positions {s : State} {u : Surface} {sn : Snapshot} {f : ReadyFrame} {r : LiveResult}
    {slots : List (Option Track)} (hb : r.before.length = 10) (ha : r.after.length = 10) (hs : s.tracks.shaped)
    (hslots : slots = (liveTable s.tracks u sn r).slots.get u ∨
      slots = ((liveTable s.tracks u sn r).slots.get u).map announcedSlot) :
    (s.liveDigest u sn f r).positions = slots.zipIdx.filterMap fun (r, i) => r.bind fun x =>
      if x.state = .active then
        some (⟨⟨u.firstSlot + i, x.id⟩, x.pos, x.pos.x - (x.prev.getD x.pos).x, x.pos.y - (x.prev.getD x.pos).y⟩ : Placed)
      else none := by
  refine Eq.trans (b := (slotChanges u r.before r.after).filterMap fun c => slotPlaced c.1 c.2.2) rfl ?_
  rw [slotChanges_eq hb ha, List.filterMap_map]
  obtain rfl | rfl := hslots
  · rw [liveTable_eq_range hb ha hs]
    exact (placed_of_slots fun i => slotPlaced_finishSlot _ _ _ _ _).symm
  · rw [liveTable_eq_range hb ha hs, List.map_map]
    exact (placed_of_slots fun i => (slotPlaced_announcedSlot _ _).trans (slotPlaced_finishSlot _ _ _ _ _)).symm

theorem State.releases_motion (s : State) (u : Surface) (r : LiveResult) :
    (s.sourceAmong (releasedTo s.tracks u r) ∧
      (s.releases u r).motion = { s.motion with pointer := none, residueX := 0, residueY := 0 }) ∨
    (¬ s.sourceAmong (releasedTo s.tracks u r) ∧ (s.releases u r).motion = s.motion) :=
  s.forceReleases_motion (slotChanges u r.before r.after)

/-- Settles O22: what the operation settles, and past that its report and the recapture. -/
theorem liveOperationsHandTheirDigest : Obligations.LiveOperationsHandTheirDigest := by
  intro s o f hop hworking hwork hlive hroom hcommit hshaped hsnap u r recaptures released settled sourceReleased
  have hexec := exec_live_completion hop hworking hwork hlive hroom hcommit
  have hbefore : r.before.length = 10 := TrackTable.shaped_get hsnap u
  have hafter : r.after.length = 10 := liveWork_after_length hsnap u f
  have hshut : (s.setOp none).shut u = s.shut u := by
    simp [State.shut, State.setOp, hop, Operation.shuts, hwork]
  have hrecaptures : (s.setOp none).recaptures u o.snap f = true ↔ recaptures := by
    rw [State.recaptures_iff, hshut]
    rfl
  have hsettled : (liveTable s.tracks u o.snap r).slots.get u = settled := by
    refine (liveTable_eq_range hbefore hafter hshaped).trans (List.map_congr_left fun i _ => ?_)
    cases r.after.getD i none with
    | none => simp [finishSlot, settleAnchor, movedHere]
    | some y => exact finishSlot_some _ _ y _
  have hreleased : releasedTo s.tracks u r = released := funext fun k => releasedTo_eq hbefore hafter k
  obtain ⟨hframe, hgestures, hmotion, hbase, hoverflow, hpalm, hpen, hengine, hintake, hlink⟩ :=
    (s.setOp none).completeLive_fields u o.snap f
  obtain ⟨hslots, hothers, hnext, htracksOverflow⟩ := (s.setOp none).completeLive_table u o.snap f hsnap hshaped
  have hpointer := (s.setOp none).releases_motion u r
  rw [show releasedTo (s.setOp none).tracks u r = released from hreleased] at hpointer
  generalize (s.setOp none).completeLive u o.snap f = t at *
  refine ⟨t, (s.setOp none).liveDigest u o.snap f r, hexec, hframe, ?_, ⟨rfl, rfl, rfl, rfl⟩, ?_,
    State.liveDigest_positions (s := s.setOp none) hbefore hafter hshaped hslots, ?_, fun h => ?_, fun h => ?_, hbase, ?_,
    fun v hv => ⟨hothers v hv, ?_, ?_⟩, hsettled, hsettled ▸ hslots, hnext, ?_, ?_, hpalm, hpen, fun k => ?_, fun h => ?_,
    fun h => ?_⟩
  · rw [hgestures]
    rfl
  · refine (State.liveDigest_events (s := s.setOp none) hbefore hafter).trans (List.flatMap_congr fun i _ => ?_)
    generalize r.before.getD i none = b
    cases r.after.getD i none with
    | none => rfl
    | some y => exact slotEvents_some _ _ _ b y
  · rw [hengine]
    split <;> rfl
  · rw [if_pos (hrecaptures.mpr h)] at hengine hintake hlink
    exact ⟨congrArg Engine.waitList hengine, hintake, hlink⟩
  · have hnot : ¬ (s.setOp none).recaptures u o.snap f = true := fun hr => h (hrecaptures.mp hr)
    rw [if_neg hnot] at hengine hintake hlink
    exact ⟨(congrArg Engine.waitList hengine :), hintake, hlink⟩
  · rw [hbase, PerSurface.get_set_same]
    exact ⟨rfl, rfl⟩
  · rw [hoverflow, PerSurface.get_set_other _ _ _ _ hv]
    rfl
  · rw [htracksOverflow, PerSurface.get_set_other _ _ _ _ hv]
    rfl
  · rw [htracksOverflow, PerSurface.get_set_same]
    rfl
  · rw [hoverflow, PerSurface.get_set_same]
    rfl
  · rw [← hreleased]
    refine Eq.trans (congrArg (fun l : List (Option Context) => l.getD k none) (congrArg Gestures.contexts hgestures)) ?_
    exact (s.setOp none).context_releases u r k
  · rw [hmotion]
    obtain ⟨-, heq⟩ | ⟨hnot, -⟩ := hpointer
    · exact heq
    · exact absurd h hnot
  · rw [hmotion]
    obtain ⟨hyes, -⟩ | ⟨-, heq⟩ := hpointer
    · exact absurd hyes h
    · exact heq

end Sys2Proof.Machine

/-! Closings (01.4, 01.6, 04.4 to 04.7): O23. -/

namespace Sys2Proof.Machine

/-! ## Queues with plain records appended -/

/-- The second state's queue is the first's with records behind it, none of them a CONTACT report. -/
def State.appendsPlain (s t : State) : Prop :=
  ∃ rest : List Record, t.queue = s.queue ++ rest ∧ ∀ r ∈ rest, ∀ c, r.payload ≠ .contact c

theorem State.appendsPlain_of_queue {s t : State} (h : t.queue = s.queue) : s.appendsPlain t :=
  ⟨[], h.trans (List.append_nil _).symm, fun _ hr => absurd hr List.not_mem_nil⟩

theorem State.appendsPlain.trans {s t x : State} (hst : s.appendsPlain t) (htx : t.appendsPlain x) : s.appendsPlain x := by
  obtain ⟨rest, hqueue, hplain⟩ := hst
  obtain ⟨rest', hqueue', hplain'⟩ := htx
  exact ⟨rest ++ rest', by rw [hqueue', hqueue, List.append_assoc],
    fun r hr => (List.mem_append.mp hr).elim (hplain r) (hplain' r)⟩

section
variable (s : State)

theorem State.appendsPlain_offerNotice (n : Notice) : s.appendsPlain (s.offerNotice n) := by
  obtain ⟨notices, hqueue⟩ := s.offerNotice_appends n
  refine ⟨_, hqueue, fun r hr c => ?_⟩
  obtain ⟨n', -, rfl⟩ := List.mem_map.mp hr
  exact fun h => nomatch h

theorem State.appendsPlain_noticeRises (before : State) : s.appendsPlain (State.noticeRises before s) := by
  have offered (c : Bool) (t : State) (n : Notice) : t.appendsPlain (if c then t.offerNotice n else t) := by
    cases c
    · exact State.appendsPlain_of_queue rfl
    · exact t.appendsPlain_offerNotice n
  exact (offered _ _ _).trans (offered _ _ _)

theorem State.appendsPlain_penForcedExit : s.appendsPlain s.penForcedExit := by
  unfold State.penForcedExit
  dsimp only
  split
  · exact State.appendsPlain_of_queue rfl
  · unfold State.reportPen State.offerPen
    dsimp only
    split
    · exact ⟨_, rfl, fun r hr c => by rw [List.mem_singleton.mp hr]; exact fun h => nomatch h⟩
    · exact State.appendsPlain_of_queue rfl

/-! ## A surface that enters a state (R10, R18) -/

theorem State.enterState_get (u : Surface) (st : SurfaceState) : (s.enterState u st).intake.get u = { s.intake.get u with
    state := st, timeout := if st == .off || st == .failed then none else (s.intake.get u).timeout } := by
  by_cases h : (s.intake.get u).state = st
  · rw [State.enterState_of_same s h, State.onIntake_get]
  · rw [State.enterState_of_change s h]
    exact (congrArg (fun p : PerSurface Intake => p.get u) (State.offerNotice_intake _ _)).trans (State.onIntake_get _ _ _)

theorem State.appendsPlain_enterState (u : Surface) (st : SurfaceState) : s.appendsPlain (s.enterState u st) := by
  by_cases h : (s.intake.get u).state = st
  · rw [State.enterState_of_same s h]
    exact State.appendsPlain_of_queue rfl
  · rw [State.enterState_of_change s h]
    exact State.appendsPlain_offerNotice _ _

theorem State.appendsPlain_applyOutcome (u : Surface) (out : ClosingOutcome) : s.appendsPlain (s.applyOutcome u out) := by
  cases out with
  | off => exact s.appendsPlain_enterState u .off
  | acquire => exact State.appendsPlain_enterState _ u .acquire
  | none => exact State.appendsPlain_of_queue rfl

theorem State.appendsPlain_outcomePen (o : Operation) : s.appendsPlain (s.outcomePen o) := by
  unfold State.outcomePen
  split
  · exact s.appendsPlain_penForcedExit
  · exact State.appendsPlain_of_queue rfl

theorem State.applyOutcome_keeps (u : Surface) (out : ClosingOutcome) :
    (s.applyOutcome u out).engine = s.engine ∧ (s.applyOutcome u out).tracks = s.tracks ∧
      (s.applyOutcome u out).palm = s.palm ∧ (s.applyOutcome u out).gestures = s.gestures ∧
      (s.applyOutcome u out).base = s.base ∧ (s.applyOutcome u out).pen = s.pen := by
  cases out <;> simp [State.applyOutcome]

theorem State.outcomePen_keeps (o : Operation) :
    (s.outcomePen o).engine = s.engine ∧ (s.outcomePen o).tracks = s.tracks ∧ (s.outcomePen o).palm = s.palm ∧
      (s.outcomePen o).gestures = s.gestures ∧ (s.outcomePen o).base = s.base ∧ (s.outcomePen o).intake = s.intake := by
  unfold State.outcomePen
  split <;> simp

end

/-! ## What a closing makes of its surface's tracks (R18, R62, R63) -/

section
variable {s : State} {u : Surface} {sn : Snapshot} {key : Time}

/-- The CLOSING digest (R64). -/
def State.closingDigest (s : State) (u : Surface) (sn : Snapshot) (key : Time) : Digest :=
  { joined := s.now, surface := u, kind := .closing, time := key
    events := (sn.tracks.slots.get u).zipIdx.filterMap fun (b, i) => cancelEvent (u.firstSlot + i) b, positions := [] }

/-- The track table with a surface's tracks ended (R62). -/
def closedTable (now : TrackTable) (u : Surface) (sn : Snapshot) : TrackTable :=
  { now with slots := now.slots.set u (((sn.tracks.slots.get u).zip (now.slots.get u)).map fun p => closedSlot p.1 p.2) }

theorem State.tracksClosed_eq : s.tracksClosed u sn key = { s with
    gestures := { s.gestures with digests := s.gestures.digests ++ [s.closingDigest u sn key] }
    tracks := closedTable s.tracks u sn } := rfl

theorem closedTable_shaped (hsn : sn.tracks.shaped) (hs : s.tracks.shaped) : (closedTable s.tracks u sn).shaped :=
  tracksClosed_shaped (s := s) (key := 0) hsn hs

theorem State.closeTracks_of_reported (hsn : sn.tracks.shaped) (hs : s.tracks.shaped)
    (hbuilds : buildsReport (contactMode sn.tables.tune) ((closedTable s.tracks u sn).entries u) false = true)
    (hroom : hasRoom s.queue = true) : s.closeTracks u sn key = { s with
      gestures := { s.gestures with digests := s.gestures.digests ++ [s.closingDigest u sn key] }
      tracks := { closedTable s.tracks u sn with
        slots := (closedTable s.tracks u sn).slots.set u (((closedTable s.tracks u sn).slots.get u).map announcedSlot) }
      queue := s.queue ++ [⟨key, .contact ⟨u, .closing, (closedTable s.tracks u sn).entries u⟩, false⟩] } := by
  exact (if_pos hbuilds).trans (State.offerContact_of_room (s := s.tracksClosed u sn key) (closedTable_shaped hsn hs) hroom ..)

theorem State.closeTracks_of_unreported
    (h : ¬ (buildsReport (contactMode sn.tables.tune) ((closedTable s.tracks u sn).entries u) false = true ∧
      hasRoom s.queue = true)) : s.closeTracks u sn key = { s with
      gestures := { s.gestures with digests := s.gestures.digests ++ [s.closingDigest u sn key] }
      tracks := closedTable s.tracks u sn } := by
  rw [State.closeTracks_eq]
  dsimp only
  split
  next hbuilds =>
    refine State.offerContact_of_full (s := s.tracksClosed u sn key) ?_ ..
    rw [← Bool.not_eq_true]
    exact fun hroom => h ⟨hbuilds, hroom⟩
  · rfl

/-- Whatever a closing leaves in a slot of its surface has ended. -/
theorem closedTable_ended {x : Track} (h : some x ∈ (closedTable s.tracks u sn).slots.get u) : ∃ cause, x.state = .ended cause := by
  have hslots : (closedTable s.tracks u sn).slots.get u = _ := PerSurface.get_set_same _ _ _
  rw [hslots] at h
  obtain ⟨p, -, hp⟩ := List.mem_map.mp h
  obtain ⟨-, -, -, -, -, -, hended, -⟩ := closedSlot_eq_some hp
  exact hended

theorem closedTable_closed : (closedTable s.tracks u sn).closed u := by
  rintro _ hr x rfl
  obtain ⟨cause, hended⟩ := closedTable_ended hr
  exact Track.open_eq_false hended

/-- A slot with an ended track, once announced, is FREE when its end was pending (R60). -/
theorem announcedSlot_of_closed {r : Option Track} (h : ∀ x, r = some x → ∃ cause, x.state = .ended cause) :
    announcedSlot r = r.bind fun x => if x.endPending then none else some x := by
  cases r with
  | none => rfl
  | some x =>
    obtain ⟨cause, hended⟩ := h x rfl
    exact announcedSlot_of_ended hended

theorem closedTable_announced : ((closedTable s.tracks u sn).slots.get u).map announcedSlot =
    ((closedTable s.tracks u sn).slots.get u).map fun r => r.bind fun x => if x.endPending then none else some x :=
  List.map_congr_left fun _ hr => announcedSlot_of_closed fun _ hx => closedTable_ended (s := s) (sn := sn) (u := u) (hx ▸ hr)

theorem closedTable_announced_closed : TrackTable.closed { closedTable s.tracks u sn with
    slots := (closedTable s.tracks u sn).slots.set u (((closedTable s.tracks u sn).slots.get u).map announcedSlot) } u := by
  intro r hr y hy
  rw [PerSurface.get_set_same, closedTable_announced] at hr
  obtain ⟨r', hr', rfl⟩ := List.mem_map.mp hr
  obtain ⟨x, rfl, hx⟩ := Option.bind_eq_some_iff.mp hy
  obtain ⟨-, hx⟩ := Option.ite_none_left_eq_some.mp hx
  cases hx
  exact closedTable_closed _ hr' _ rfl

theorem mark_of_ended {x : Track} {m : ContactMark} {cause : EndCause} (h : x.state = .ended cause) (hm : x.mark = some m) :
    m = .ended cause x.startPending := by
  obtain ⟨hstate, -⟩ | ⟨hstate, -⟩ | ⟨cause', hstate, -, hm⟩ := Track.mark_eq_some.mp hm
  · simp [h] at hstate
  · simp [h] at hstate
  · rw [h] at hstate
    cases hstate
    exact hm

theorem closedTable_marks {e : ContactEntry} (h : e ∈ (closedTable s.tracks u sn).entries u) :
    ∃ cause unseen, e.mark = .ended cause unseen := by
  obtain ⟨i, x, hx, he⟩ := mem_entries.mp h
  obtain ⟨cause, hended⟩ := closedTable_ended (List.mem_of_getElem? hx)
  exact ⟨cause, x.startPending, mark_of_ended hended (contactEntry_eq_some.mp he).1⟩

theorem closedTable_builds {mode : Nat} :
    buildsReport mode ((closedTable s.tracks u sn).entries u) false = true ↔
      mode = 0 ∨ (closedTable s.tracks u sn).entries u ≠ [] := by
  rw [buildsReport_iff]
  refine or_congr_right ⟨fun h => ?_, fun h => .inl ?_⟩
  · obtain ⟨e, he, -⟩ | h := h
    · exact List.ne_nil_of_mem he
    · exact absurd h Bool.false_ne_true
  · obtain ⟨e, he⟩ := List.exists_mem_of_ne_nil _ h
    obtain ⟨cause, unseen, hmark⟩ := closedTable_marks he
    exact ⟨e, he, by rw [hmark]; exact nofun⟩

/-- A track that was ACTIVE or MISSING is listed with cause CANCEL (R62, R67). -/
theorem closedTable_cancels (hsn : sn.tracks.shaped) (hs : s.tracks.shaped) {i : Nat} {x : Track}
    (hx : (sn.tracks.slots.get u)[i]? = some (some x)) (hconfirmed : x.confirmed = true) :
    ∃ e ∈ (closedTable s.tracks u sn).entries u, e.track = ⟨u.firstSlot + i, x.id⟩ ∧
      e.mark = .ended .cancel x.startPending := by
  have hi : i < (s.tracks.slots.get u).length := by
    rw [TrackTable.shaped_get hs, ← TrackTable.shaped_get hsn u]
    exact (List.getElem?_eq_some_iff.mp hx).1
  have hslot := tracksClosed_getElem? s u sn 0 i
  rw [hx, List.getElem?_eq_getElem hi] at hslot
  obtain ⟨y, hy, hid, hstate, hend, hstart⟩ : ∃ y, closedSlot (some x) (s.tracks.slots.get u)[i] = some y ∧ y.id = x.id ∧
      y.state = .ended .cancel ∧ y.endPending = true ∧ y.startPending = x.startPending := by
    rw [closedSlot, closeSlot_of_confirmed hconfirmed, Option.map_some]
    refine ⟨_, rfl, ?_⟩
    split <;> exact ⟨rfl, rfl, rfl, rfl⟩
  have hmark : y.mark = some (.ended .cancel x.startPending) :=
    Track.mark_eq_some.mpr (.inr (.inr ⟨.cancel, hstate, hend, by rw [hstart]⟩))
  obtain ⟨e, he⟩ : ∃ e, contactEntry (u.firstSlot + i) (some y) = some e := by simp [contactEntry, hmark]
  obtain ⟨hemark, htrack, -⟩ := contactEntry_eq_some.mp he
  rw [hmark, Option.some.injEq] at hemark
  exact ⟨e, mem_entries.mpr ⟨i, y, hslot.trans (congrArg some hy), he⟩, by rw [htrack, hid], hemark.symm⟩

theorem closedTable_slots : (closedTable s.tracks u sn).slots.get u =
    ((sn.tracks.slots.get u).zip (s.tracks.slots.get u)).map fun p => closedSlot p.1 p.2 := PerSurface.get_set_same _ _ _

theorem cancelEvent_eq (n : Nat) (r : Option Track) : cancelEvent n r = r.bind fun x =>
    if x.state = .active ∨ x.state = .missing then some (.cancel ⟨n, x.id⟩) else none := by
  simp [cancelEvent, Track.confirmed]

end

/-! ## The whole completion -/

/-- A closing's tracks, digest and report, and its palm entries gone (R18, R62, R85). -/
def State.closeReported (s : State) (u : Surface) (sn : Snapshot) (key : Time) : State :=
  (if hasOpenTracks sn u then s.closeTracks u sn key else s).palmCleared u

theorem State.closeReported_keeps (s : State) (u : Surface) (sn : Snapshot) (key : Time) :
    (s.closeReported u sn key).engine = s.engine ∧ (s.closeReported u sn key).base = s.base ∧
      (s.closeReported u sn key).intake = s.intake ∧ (s.closeReported u sn key).timeoutFromNow = s.timeoutFromNow ∧
      (s.closeReported u sn key).palm = s.palm.filter fun e => e.surface != u := by
  unfold State.closeReported
  split
  · rw [State.closeTracks_eq]
    dsimp only
    split
    · obtain ⟨-, heq⟩ | ⟨-, heq⟩ := State.offerContact_cases (s.tracksClosed u sn key) key
        ⟨u, .closing, (s.tracksClosed u sn key).tracks.entries u⟩
      · rw [heq]
        exact ⟨rfl, rfl, rfl, rfl, rfl⟩
      · rw [heq]
        exact ⟨rfl, rfl, rfl, rfl, rfl⟩
    · exact ⟨rfl, rfl, rfl, rfl, rfl⟩
  · exact ⟨rfl, rfl, rfl, rfl, rfl⟩

section
variable {s : State} {u : Surface} {sn : Snapshot} {key : Time}

theorem State.closeReported_of_closed (h : hasOpenTracks sn u = false) :
    (s.closeReported u sn key).gestures = s.gestures ∧ (s.closeReported u sn key).tracks = s.tracks ∧
      (s.closeReported u sn key).queue = s.queue := by
  rw [State.closeReported, if_neg (by simp [h])]
  exact ⟨rfl, rfl, rfl⟩

theorem State.closeReported_of_reported (h : hasOpenTracks sn u = true) (hsn : sn.tracks.shaped) (hs : s.tracks.shaped)
    (hbuilds : buildsReport (contactMode sn.tables.tune) ((closedTable s.tracks u sn).entries u) false = true)
    (hroom : hasRoom s.queue = true) :
    (s.closeReported u sn key).gestures.digests = s.gestures.digests ++ [s.closingDigest u sn key] ∧
      (s.closeReported u sn key).tracks = { closedTable s.tracks u sn with
        slots := (closedTable s.tracks u sn).slots.set u (((closedTable s.tracks u sn).slots.get u).map announcedSlot) } ∧
      (s.closeReported u sn key).queue =
        s.queue ++ [⟨key, .contact ⟨u, .closing, (closedTable s.tracks u sn).entries u⟩, false⟩] := by
  rw [State.closeReported, if_pos h, State.closeTracks_of_reported hsn hs hbuilds hroom]
  exact ⟨rfl, rfl, rfl⟩

theorem State.closeReported_of_unreported (h : hasOpenTracks sn u = true)
    (hnot : ¬ (buildsReport (contactMode sn.tables.tune) ((closedTable s.tracks u sn).entries u) false = true ∧
      hasRoom s.queue = true)) :
    (s.closeReported u sn key).gestures.digests = s.gestures.digests ++ [s.closingDigest u sn key] ∧
      (s.closeReported u sn key).tracks = closedTable s.tracks u sn ∧ (s.closeReported u sn key).queue = s.queue := by
  rw [State.closeReported, if_pos h, State.closeTracks_of_unreported hnot]
  exact ⟨rfl, rfl, rfl⟩

end

/-- What follows a closing's report: the outcome, the pen's part of it and the NOTICEs of what rose (R18, R98). -/
def State.closingTail (x : State) (o : Operation) (out : ClosingOutcome) : State :=
  let z := (x.clearAcquire o.surface).applyOutcome o.surface out
  State.noticeRises z (z.outcomePen o)

theorem exec_closing_completion {s : State} {o : Operation} {key : Time} {out : ClosingOutcome} (hop : s.engine.op = some o)
    (hworking : o.held = false) (hwork : o.work = .closing key out)
    (hroom : hasOpenTracks o.snap o.surface = false ∨ s.gestures.digests.length < 4) (hcommit : s.tables.commit = none) :
    exec .frameOperationComplete s = .next (State.closingTail
      ((s.setOp none).closeReported o.surface o.snap key) o out) := by
  have happly : (s.setOp none).applyOperation o = (s.setOp none).completeClosing o.surface o.snap key out := by
    simp only [State.applyOperation, hwork]
  have htables : ((s.setOp none).applyOperation o).tables.commit = none := by
    rw [happly]
    simpa using hcommit
  rw [exec_frameOperationComplete_working hop hworking
    (hroom.imp (makesDigest_closing hwork ▸ ·) State.digestsFull_eq_false.mpr)]
  refine congrArg Host.Outcome.next ?_
  unfold State.completeOperation
  dsimp only
  rw [State.switchFrameSide_of_no_commit (by simpa using htables), State.endCommit_of_no_commit (by simpa using htables), happly]
  rfl

section
variable (x : State) (o : Operation) (out : ClosingOutcome)

theorem State.closingTail_keeps : (x.closingTail o out).engine = x.engine ∧ (x.closingTail o out).tracks = x.tracks ∧
    (x.closingTail o out).palm = x.palm ∧ (x.closingTail o out).gestures = x.gestures ∧
    (x.closingTail o out).base = (x.clearAcquire o.surface).base ∧
    (x.closingTail o out).intake = ((x.clearAcquire o.surface).applyOutcome o.surface out).intake ∧
    x.appendsPlain (x.closingTail o out) := by
  obtain ⟨hengine, htracks, hpalm, hgestures, hbase, -⟩ := (x.clearAcquire o.surface).applyOutcome_keeps o.surface out
  obtain ⟨hengine', htracks', hpalm', hgestures', hbase', hintake'⟩ :=
    ((x.clearAcquire o.surface).applyOutcome o.surface out).outcomePen_keeps o
  refine ⟨?_, ?_, ?_, ?_, ?_, ?_, ?_⟩
  · simp only [State.closingTail, State.noticeRises_engine, hengine', hengine, State.clearAcquire_engine]
  · simp only [State.closingTail, State.noticeRises_tracks, htracks', htracks, State.clearAcquire_tracks]
  · simp only [State.closingTail, State.noticeRises_palm, hpalm', hpalm, State.clearAcquire_palm]
  · simp only [State.closingTail, State.noticeRises_gestures, hgestures', hgestures, State.clearAcquire_gestures]
  · simp only [State.closingTail, State.noticeRises_base, hbase', hbase]
  · simp only [State.closingTail, State.noticeRises_intake, hintake']
  · exact ((State.appendsPlain_of_queue rfl).trans ((x.clearAcquire o.surface).appendsPlain_applyOutcome o.surface out)).trans
      ((State.appendsPlain_outcomePen _ o).trans (State.appendsPlain_noticeRises _ _))

theorem State.applyOutcome_intake (u : Surface) : ((x.clearAcquire u).applyOutcome u out).intake.get u = match out with
    | .off => { x.intake.get u with state := .off, timeout := none }
    | .acquire => { x.intake.get u with state := .acquire, timeout := x.timeoutFromNow, errorRun := 0 }
    | .none => x.intake.get u := by
  cases out with
  | off => exact State.enterState_get _ _ _
  | acquire =>
    refine (State.enterState_get _ _ _).trans ?_
    rw [State.onIntake_get]
    rfl
  | none => rfl

theorem State.closingTail_pen (hu : o.surface = .panel) {key : Time} (hwork : o.work = .closing key .off) :
    (x.closingTail o .off).pen.mode = .out ∧ (x.closingTail o .off).pen.guard = none := by
  have hpen : (x.closingTail o .off).pen =
      (((x.clearAcquire o.surface).applyOutcome o.surface .off).penForcedExit).pen := by
    simp only [State.closingTail, State.noticeRises_pen, State.outcomePen, hu, hwork]
  rw [hpen]
  unfold State.penForcedExit
  dsimp only
  split
  · exact ⟨rfl, rfl⟩
  · rw [State.reportPen, State.offerPen_pen]
    exact ⟨rfl, rfl⟩

end

/-- The surface's tracks are closed when the snapshot's were (R18). -/
theorem State.surfaceSound.closed_iff {s : State} {o : Operation} (h : s.surfaceSound o.surface) (hop : s.engine.op = some o) :
    s.tracks.closed o.surface ↔ hasOpenTracks o.snap o.surface = false := by
  obtain ⟨-, -, -, hopens⟩ := h
  have hany : (s.tracks.slots.get o.surface).any (·.any Track.open_) = hasOpenTracks o.snap o.surface := by
    have := congrArg (List.any · id) (hopens o hop rfl)
    simp only [List.any_map, Function.id_comp] at this
    exact this
  rw [← hany]
  simp only [List.any_eq_false, TrackTable.closed, Option.any_eq_true, not_exists, not_and, Bool.not_eq_true]

/-- Settles O23: the tracks and the report by whether a track was open, and then what follows every closing. -/
theorem closingsWindTheirSurfaceDown : Obligations.ClosingsWindTheirSurfaceDown := by
  intro s o key out hop hworking hwork hopenroom hcommit hshaped hsnap hsound ended table kept listed offered room
  have hclosed := hsound.closed_iff hop
  have hexec := exec_closing_completion hop hworking hwork (hopenroom.imp_left hclosed.mp) hcommit
  have hbuilds : buildsReport (contactMode o.snap.tables.tune) ((closedTable s.tracks o.surface o.snap).entries o.surface)
      false = true ↔ offered := closedTable_builds
  have hroom : hasRoom s.queue = true ↔ room := hasRoom_iff _
  obtain ⟨hengine, hbase, hintake, htimeout, hpalm⟩ := (s.setOp none).closeReported_keeps o.surface o.snap key
  have hopen : ¬ s.tracks.closed o.surface ↔ hasOpenTracks o.snap o.surface = true := by rw [hclosed, Bool.not_eq_false]
  have hshut (h : s.tracks.closed o.surface) := State.closeReported_of_closed (s := s.setOp none) (key := key) (hclosed.mp h)
  have hreported (h : ¬ s.tracks.closed o.surface) (ho : offered) (hr : room) := State.closeReported_of_reported
    (s := s.setOp none) (key := key) (hopen.mp h) hsnap hshaped (hbuilds.mpr ho) (hroom.mpr hr)
  have hunreported (h : ¬ s.tracks.closed o.surface) (hn : ¬ (offered ∧ room)) := State.closeReported_of_unreported
    (s := s.setOp none) (key := key) (hopen.mp h) fun hb => hn ⟨hbuilds.mp hb.1, hroom.mp hb.2⟩
  generalize (s.setOp none).closeReported o.surface o.snap key = x at *
  have hdigest (h : ¬ s.tracks.closed o.surface) :
      x.gestures.digests = s.gestures.digests ++ [(s.setOp none).closingDigest o.surface o.snap key] := by
    by_cases hrep : offered ∧ room
    · exact (hreported h hrep.1 hrep.2).1
    · exact (hunreported h hrep).1
  have hended : x.tracks.closed o.surface := by
    by_cases h : s.tracks.closed o.surface
    · rw [(hshut h).2.1]
      exact h
    · by_cases hrep : offered ∧ room
      · rw [(hreported h hrep.1 hrep.2).2.1]
        exact closedTable_announced_closed
      · rw [(hunreported h hrep).2.1]
        exact closedTable_closed
  obtain ⟨hengine', htracks', hpalm', hgestures', hbase', hintake', rest, hqueue', hplain⟩ := x.closingTail_keeps o out
  have hget := (congrArg (fun p : PerSurface Intake => p.get o.surface) hintake').trans (x.applyOutcome_intake out o.surface)
  rw [hintake, htimeout] at hget
  refine ⟨_, rest, hexec, ?_, ?_, ?_, ?_, ?_, fun hout => ?_, fun hout => ?_, fun hout hu => ?_, fun h => ?_, fun h => ?_,
    fun e he => closedTable_marks he, fun i y hy hstate => closedTable_cancels hsnap hshaped hy (by simpa [Track.confirmed] using hstate),
    hplain, fun h ho hr => ?_, fun h hn => ?_, fun h => ?_⟩
  · rw [hengine', hengine]
    rfl
  · rwa [htracks']
  · rw [hpalm', hpalm]
    rfl
  · rw [hbase', State.clearAcquire, State.setBase, PerSurface.get_set_same, hbase]
    rfl
  · rw [hget]
    cases out <;> rfl
  · subst hout
    rw [hget]
    exact ⟨rfl, rfl⟩
  · subst hout
    rw [hget]
  · subst hout
    exact x.closingTail_pen o hu hwork
  · rw [hgestures', (hshut h).1]
    rfl
  · rw [hgestures', hdigest h]
    simp only [State.closingDigest, cancelEvent_eq]
    rfl
  · obtain ⟨-, htracks, hqueue⟩ := hreported h ho hr
    rw [hqueue', htracks', htracks, hqueue, closedTable_announced, closedTable_slots]
    exact ⟨rfl, congrArg (fun slots => { s.tracks with slots := slots }) (PerSurface.set_set _ _ _ _)⟩
  · obtain ⟨-, htracks, hqueue⟩ := hunreported h hn
    rw [hqueue', htracks', htracks, hqueue]
    exact ⟨rfl, rfl⟩
  · obtain ⟨-, htracks, hqueue⟩ := hshut h
    rw [hqueue', htracks', htracks, hqueue]
    exact ⟨rfl, rfl⟩

end Sys2Proof.Machine

/-! Departures (11.3): O11. -/

namespace Sys2Proof.Machine

/-! ## Owed causes issued (R180, R181) -/

/-- The second state is the first with its first `k` owed causes issued as NOTICEs. -/
def State.issuesFirst (s t : State) (k : Nat) : Prop :=
  t = { s with queue := t.queue, link := t.link } ∧ t.link = { s.link with owed := t.link.owed } ∧
    t.queue = s.queue ++ (s.owedNotices.take k).map (fun n => (Payload.notice n).fresh s.now) ∧
    t.owedNotices = s.owedNotices.drop k ∧ (s.queue.length ≤ 32 → t.queue.length ≤ 32)

theorem State.issuesFirst_zero (s : State) : s.issuesFirst s 0 := ⟨rfl, rfl, by simp, rfl, id⟩

theorem State.issuesFirst.trans {s t x : State} {j k : Nat} (hst : s.issuesFirst t j) (htx : t.issuesFirst x k) :
    s.issuesFirst x (j + k) := by
  obtain ⟨ht, hlink, hqueue, howed, hbound⟩ := hst
  obtain ⟨hx, hlink', hqueue', howed', hbound'⟩ := htx
  have hnow : t.now = s.now := (congrArg State.now ht :)
  refine ⟨hx.trans (by rw [ht]), hlink'.trans (by rw [hlink]), ?_, ?_, fun h => hbound' (hbound h)⟩
  · rw [hqueue', hqueue, howed, hnow, List.append_assoc, ← List.map_append, List.take_add]
  · rw [howed', howed, List.drop_drop]

/-- One owed cause issued: the NOTICE at the head of what is owed. -/
theorem State.issuesFirst_one {s : State} {n : Notice} {rest : List Notice} (howed : s.owedNotices = n :: rest) {o : Owed}
    (hrest : (s.setOwed o).owedNotices = rest) (hplace : hasPlace s.queue = true) :
    s.issuesFirst ((s.setOwed o).enqueue s.now (.notice n)) 1 := by
  refine ⟨rfl, rfl, by rw [howed]; rfl, by rw [howed]; exact hrest, fun _ => ?_⟩
  have hroom : s.queue.length < 32 := by simpa [hasPlace, Config.queueCapacity] using hplace
  simpa [State.enqueue, State.setOwed] using hroom

section
variable (s : State)

theorem State.issueSurface_issues : ∃ k, s.issuesFirst s.issueSurface k ∧
    (hasPlace s.issueSurface.queue = true → s.issueSurface.link.owed.surface = none) := by
  unfold State.issueSurface
  cases hsurface : s.link.owed.surface with
  | none => exact ⟨0, s.issuesFirst_zero, fun _ => hsurface⟩
  | some m =>
    dsimp only
    split
    next hplace =>
      refine ⟨1, State.issuesFirst_one ?_ rfl hplace, fun _ => rfl⟩
      rw [State.owedNotices, hsurface]
      rfl
    next hfull => exact ⟨0, s.issuesFirst_zero, fun h => absurd h hfull⟩

theorem State.issuePosture_issues (h : hasPlace s.queue = true → s.link.owed.surface = none) :
    ∃ k, s.issuesFirst s.issuePosture k ∧ (hasPlace s.issuePosture.queue = true →
      s.issuePosture.link.owed.surface = none ∧ s.issuePosture.link.owed.posture = false) := by
  unfold State.issuePosture
  split
  next hissue =>
    obtain ⟨hposture, hplace⟩ := Bool.and_eq_true_iff.mp hissue
    refine ⟨1, State.issuesFirst_one ?_ rfl hplace, fun _ => ⟨h hplace, rfl⟩⟩
    simp [State.owedNotices, State.setOwed, hposture, h hplace]
  next hnot =>
    refine ⟨0, s.issuesFirst_zero, fun hplace => ⟨h hplace, ?_⟩⟩
    simpa [hplace] using hnot

theorem State.issueFault_issues
    (h : hasPlace s.queue = true → s.link.owed.surface = none ∧ s.link.owed.posture = false) :
    ∃ k, s.issuesFirst s.issueFault k ∧ (hasPlace s.issueFault.queue = true → s.issueFault.link.owed.surface = none ∧
      s.issueFault.link.owed.posture = false ∧ s.issueFault.link.owed.fault = false) := by
  unfold State.issueFault
  split
  next hissue =>
    obtain ⟨hfault, hplace⟩ := Bool.and_eq_true_iff.mp hissue
    obtain ⟨hsurface, hposture⟩ := h hplace
    refine ⟨1, State.issuesFirst_one ?_ rfl hplace, fun _ => ⟨hsurface, hposture, rfl⟩⟩
    simp [State.owedNotices, State.setOwed, hfault, hsurface, hposture]
  next hnot =>
    refine ⟨0, s.issuesFirst_zero, fun hplace => ⟨(h hplace).1, (h hplace).2, ?_⟩⟩
    simpa [hplace] using hnot

theorem State.issueLoss_issues (h : hasPlace s.queue = true → s.link.owed.surface = none ∧
      s.link.owed.posture = false ∧ s.link.owed.fault = false) :
    ∃ k, s.issuesFirst s.issueLoss k ∧ (hasPlace s.issueLoss.queue = true → s.issueLoss.link.owed = Owed.empty) := by
  unfold State.issueLoss
  have hempty {o : Owed} (hs : o.surface = none) (hp : o.posture = false) (hf : o.fault = false) (hl : o.loss = false) :
      o = Owed.empty := by
    obtain ⟨surface, posture, fault, loss⟩ := o
    cases hs
    cases hp
    cases hf
    cases hl
    rfl
  split
  next hissue =>
    obtain ⟨hloss, hplace⟩ := Bool.and_eq_true_iff.mp hissue
    obtain ⟨hsurface, hposture, hfault⟩ := h hplace
    refine ⟨1, State.issuesFirst_one ?_ rfl hplace, fun _ => hempty hsurface hposture hfault rfl⟩
    simp [State.owedNotices, State.setOwed, hloss, hfault, hsurface, hposture]
  next hnot =>
    refine ⟨0, s.issuesFirst_zero, fun hplace => ?_⟩
    obtain ⟨hsurface, hposture, hfault⟩ := h hplace
    exact hempty hsurface hposture hfault (by simpa [hplace] using hnot)

/-- The owed causes are issued in order while there is room (R181, step 2). -/
theorem State.issueOwed_issues : ∃ k, s.issuesFirst s.issueOwed k ∧
    (hasPlace s.issueOwed.queue = true → s.issueOwed.link.owed = Owed.empty) := by
  obtain ⟨k, hk, hsurface⟩ := s.issueSurface_issues
  obtain ⟨l, hl, hposture⟩ := s.issueSurface.issuePosture_issues hsurface
  obtain ⟨m, hm, hfault⟩ := s.issueSurface.issuePosture.issueFault_issues hposture
  obtain ⟨n, hn, hloss⟩ := s.issueSurface.issuePosture.issueFault.issueLoss_issues hfault
  exact ⟨_, ((hk.trans hl).trans hm).trans hn, hloss⟩

theorem State.owedNotices_of_empty (h : s.link.owed = Owed.empty) : s.owedNotices = [] := by
  simp [State.owedNotices, h, Owed.empty]

/-- What of the owed causes is issued, and what is left over. -/
theorem State.issueOwed_spec (h : s.queue.length ≤ 32) :
    let room := 32 - s.queue.length
    s.issueOwed = { s with queue := s.issueOwed.queue, link := s.issueOwed.link } ∧
      s.issueOwed.link = { s.link with owed := s.issueOwed.link.owed } ∧
      s.issueOwed.queue = s.queue ++ (s.owedNotices.take room).map (fun n => (Payload.notice n).fresh s.now) ∧
      s.issueOwed.owedNotices = s.owedNotices.drop room ∧
      (s.issueOwed.link.owed = Owed.empty ∨ 32 ≤ s.issueOwed.queue.length) := by
  obtain ⟨k, ⟨hframe, hlink, hqueue, howed, hbound⟩, hempty⟩ := s.issueOwed_issues
  have hlength : s.issueOwed.queue.length = s.queue.length + min k s.owedNotices.length := by rw [hqueue]; simp
  have hfull := hbound h
  refine ⟨hframe, hlink, ?_⟩
  by_cases hplace : hasPlace s.issueOwed.queue = true
  · have hdropped : s.owedNotices.length ≤ k := by
      rw [← List.drop_eq_nil_iff, ← howed, State.owedNotices_of_empty _ (hempty hplace)]
    have hroom : s.owedNotices.length ≤ 32 - s.queue.length := by omega
    rw [hqueue, howed, List.take_of_length_le hdropped, List.take_of_length_le hroom, List.drop_of_length_le hdropped,
      List.drop_of_length_le hroom]
    exact ⟨rfl, rfl, .inl (hempty hplace)⟩
  · have hnone : 32 ≤ s.issueOwed.queue.length := by simpa [hasPlace, Config.queueCapacity] using hplace
    refine ⟨?_, ?_, .inr hnone⟩
    · rw [hqueue]
      have htake : s.owedNotices.take k = s.owedNotices.take (32 - s.queue.length) :=
        List.take_eq_take_iff.mpr (by omega)
      rw [htake]
    · rw [howed]
      by_cases hk : k ≤ s.owedNotices.length
      · rw [show k = 32 - s.queue.length by omega]
      · rw [List.drop_of_length_le (by omega), List.drop_of_length_le (by omega)]

/-! ## What follows the NOTICEs (R181, steps 3 and 4) -/

theorem State.catchUp_appends (u : Surface) : s.queue <+: (s.catchUp u).queue ∧ (s.catchUp u).link = s.link ∧
    (s.catchUp u).motion = s.motion := by
  unfold State.catchUp
  split
  · obtain ⟨-, heq⟩ | ⟨-, heq⟩ := State.offerContact_cases s s.now ⟨u, .catchUp, s.tracks.entries u⟩
    · rw [State.reportContacts, heq]
      exact ⟨List.prefix_append _ _, rfl, rfl⟩
    · rw [State.reportContacts, heq]
      exact ⟨List.prefix_rfl, rfl, rfl⟩
  · exact ⟨List.prefix_rfl, rfl, rfl⟩

theorem State.offerPointer_length (time : Time) (m : Motion) : s.queue.length ≤ (s.offerPointer time m).queue.length := by
  obtain ⟨q, hq, heq⟩ | ⟨-, -, heq⟩ | ⟨-, -, heq⟩ := s.offerPointer_cases time m <;> rw [heq]
  · obtain ⟨l, hl, rfl⟩ := Option.map_eq_some_iff.mp hq
    obtain ⟨hlength, -⟩ := absorbNewest_spec _ _ _ _ hl
    rw [List.length_reverse, hlength, List.length_reverse]
  · exact (List.prefix_append _ _).length_le
  · exact Nat.le_refl _

theorem State.offerUnsent_length : s.queue.length ≤ s.offerUnsent.queue.length := by
  unfold State.offerUnsent
  split
  · exact Nat.le_refl _
  · exact (s.setUnsent none).offerPointer_length _ _

theorem State.offerUnsent_of_none (h : s.motion.unsent = none) : s.offerUnsent = s := by
  simp only [State.offerUnsent, h]

end

/-- Settles O11: the waiting replies, the owed causes, and what of the rest reaches the queue. -/
theorem departuresServeRepliesFirst : Obligations.DeparturesServeRepliesFirst := by
  intro s hlength room replies notices t
  have hreplies : replies.length = min room s.link.waiting.length := List.length_take
  have hroom : 32 - s.admitWaiting.queue.length = room - replies.length := by
    show 32 - (s.queue ++ replies).length = _
    rw [List.length_append]
    omega
  obtain ⟨hframe, hlink, hqueue, howed, hleft⟩ := s.admitWaiting.issueOwed_spec (by
    show (s.queue ++ replies).length ≤ 32
    rw [List.length_append]
    omega)
  rw [hroom] at hqueue howed
  obtain ⟨hpad, hpadLink, hpadMotion⟩ := t.catchUp_appends .pad
  obtain ⟨hpanel, hpanelLink, hpanelMotion⟩ := (t.catchUp .pad).catchUp_appends .panel
  have hprefix : t.queue <+: ((t.catchUp .pad).catchUp .panel).queue := hpad.trans hpanel
  have hdeparture : s.departure = ((t.catchUp .pad).catchUp .panel).offerUnsent := rfl
  have hkept : s.departure.link = t.link := by rw [hdeparture, State.offerUnsent_link, hpanelLink, hpadLink]
  have hlonger : t.queue.length ≤ s.departure.queue.length :=
    hprefix.length_le.trans (State.offerUnsent_length _)
  refine ⟨hframe, hqueue, hlink, howed, rfl, hkept, ?_, ?_, fun hunsent => ?_⟩
  · rw [hkept, show t.link.waiting = s.link.waiting.drop room from congrArg Link.waiting hlink]
    by_cases hall : s.link.waiting.length ≤ room
    · exact .inl (List.drop_of_length_le hall)
    · refine .inr (Nat.le_trans ?_ hlonger)
      have hfull : s.admitWaiting.queue.length = 32 := by
        show (s.queue ++ replies).length = 32
        rw [List.length_append]
        omega
      rw [show t.queue = _ from hqueue, List.length_append, hfull]
      exact Nat.le_add_right _ _
  · rw [hkept]
    exact hleft.imp_right fun h => h.trans hlonger
  · have hmotion : ((t.catchUp .pad).catchUp .panel).motion.unsent = none := by
      rw [hpanelMotion, hpadMotion, show t.motion = s.motion from (congrArg State.motion hframe :)]
      exact hunsent
    rw [hdeparture, State.offerUnsent_of_none _ hmotion]
    exact hprefix

end Sys2Proof.Machine

/-! Writes (11.1, 12.2, 12.3): O7, O8, O9. -/

namespace Sys2Proof.Machine

/-! ## The framing of a write (R174, R191) -/

theorem joinBytes_natBytes2 {n : Nat} (h : n < 65536) :
    ∃ hi lo, natBytes2 n = [hi, lo] ∧ (joinBytes hi lo).toNat = n := by
  refine ⟨_, _, rfl, ?_⟩
  rw [joinBytes_halves, BitVec.toNat_ofNat, Nat.mod_eq_of_lt h]

theorem natBytes2_joinBytes (hi lo : Byte) : natBytes2 (joinBytes hi lo).toNat = [hi, lo] := by
  rw [natBytes2, BitVec.ofNat_toNat, BitVec.setWidth_eq, halfBytes_joinBytes]

theorem halfBytes_length (f : Half) : (halfBytes f).length = 2 := rfl

theorem goodRecord_frameWrite {record : List Byte} (hshort : 2 ≤ record.length) (hlong : record.length ≤ 520)
    (extra : List Byte) : goodRecord (frameWrite record ++ extra) = some record := by
  obtain ⟨hi, lo, hbytes, hlength⟩ := joinBytes_natBytes2 (n := record.length) (by omega)
  have hframe : frameWrite record ++ extra =
      hi :: lo :: (record ++ (halfBytes (checkBytes checkStart (hi :: lo :: record)) ++ extra)) := by
    simp [frameWrite, hbytes]
  rw [hframe]
  simp only [goodRecord, hlength, List.take_left, List.drop_left]
  rw [if_pos]
  refine ⟨hshort, hlong, ?_, ?_⟩
  · simp only [List.length_append, halfBytes_length]
    omega
  · exact List.take_left' (halfBytes_length _)

/-- What a good write carries is the record between its length and its check. -/
theorem exists_of_goodRecord {bytes record : List Byte} (h : goodRecord bytes = some record) :
    ∃ extra, 2 ≤ record.length ∧ record.length ≤ 520 ∧ bytes = frameWrite record ++ extra := by
  unfold goodRecord at h
  split at h
  next hi lo rest =>
    obtain ⟨⟨hshort, hlong, hfits, hcheck⟩, hrecord⟩ := Option.ite_none_right_eq_some.mp h
    cases hrecord
    have hlength : (rest.take (joinBytes hi lo).toNat).length = (joinBytes hi lo).toNat := by
      rw [List.length_take]
      omega
    refine ⟨(rest.drop (joinBytes hi lo).toNat).drop 2, by rwa [hlength], by rwa [hlength], ?_⟩
    rw [frameWrite, hlength, natBytes2_joinBytes]
    simp only [List.cons_append, List.nil_append, List.append_assoc]
    rw [← hcheck, List.take_append_drop, List.take_append_drop]
  · cases h

/-! ## Management records (R175, R192) -/

/-- The command that a management record spells does what the record does. -/
theorem exec_of_toInstr {m : Mgmt} {i : Instr} (h : m.toInstr = some i) (s : State) :
    exec i s = .next (s.takeWrite fun r => r.runMgmt m) := by
  cases m <;> cases h <;> rfl

theorem exec_writeTransfer_of_good {bytes record : List Byte} (h : goodRecord bytes = some record) (s : State) :
    exec (.writeTransfer bytes) s = .next (s.takeWrite fun r => r.takeRecord record) := by
  refine congrArg Host.Outcome.next ?_
  simp only [h]

theorem exec_writeTransfer_frameWrite {tag code : Byte} {payload : List Byte} (h : payload.length + 2 ≤ 520)
    (extra : List Byte) (s : State) : exec (.writeTransfer (frameWrite (tag :: code :: payload) ++ extra)) s =
      .next (s.takeWrite fun r => r.runMgmt (decodeCommand tag code payload)) :=
  exec_writeTransfer_of_good (goodRecord_frameWrite (record := tag :: code :: payload) (Nat.le_add_left 2 _) h extra) s

theorem decodeCommand_unknown {code : Byte} (h : code.toNat = 0 ∨ 14 < code.toNat) (tag : Byte) (payload : List Byte) :
    decodeCommand tag code payload = .unknownCommand tag code := by
  unfold decodeCommand
  generalize hn : code.toNat = n at h
  obtain rfl | hlarge := h
  · rfl
  · obtain ⟨m, rfl⟩ := Nat.exists_eq_add_of_lt hlarge
    have hout : ¬ (1 ≤ m + 15 ∧ m + 15 ≤ 14) := by omega
    rw [show 14 + m + 1 = m + 15 by omega]
    exact if_neg hout

theorem decodeQuery_unknown {selector : Byte} (h : 6 < selector.toNat) (tag : Byte) (args : List Byte) :
    decodeQuery tag (selector :: args) = .queryBadSelector tag selector := by
  unfold decodeQuery
  dsimp only
  split
  case h_8 => exact if_neg (by omega)
  all_goals omega

theorem decodePosture_badForm {form : Byte} (h : 2 ≤ form.toNat) (tag v1 v0 : Byte) :
    decodePosture tag [form, v1, v0] = .postureBadForm tag form (joinBytes v1 v0) := by
  unfold decodePosture
  dsimp only
  split
  case h_3 => rfl
  all_goals omega

/-- A record that spells a command reads back from its bytes as itself (R192). -/
theorem decodeMgmt_encodeMgmt {m : Mgmt} {i : Instr} (h : spells m i) : decodeMgmt (encodeMgmt m) = some m := by
  obtain ⟨hspells, hformed⟩ := h
  have back {f : Half → Mgmt} (v : Half) : some (f (joinBytes (v.extractLsb' 8 8) (v.extractLsb' 0 8))) = some (f v) := by
    rw [joinBytes_halves]
  cases m with
  | load tag k p o entries => exact back (f := fun o => .load tag k p o entries) o
  | postureCode tag v => exact back (f := .postureCode tag) v
  | postureAngle tag v => exact back (f := .postureAngle tag) v
  | postureBadForm tag form v =>
    cases hspells
    have hform : 2 ≤ form.toNat := by simpa [Instr.wellFormed] using hformed
    exact (congrArg some (decodePosture_badForm hform tag _ _)).trans (back (f := .postureBadForm tag form) v)
  | queryTableRange tag k p f c =>
    show some (Mgmt.queryTableRange tag k p _ _) = _
    rw [joinBytes_halves, joinBytes_halves]
  | queryBadSelector tag selector =>
    cases hspells
    have hselector : 7 ≤ selector.toNat := by simpa [Instr.wellFormed] using hformed
    exact congrArg some (decodeQuery_unknown hselector tag [])
  | unknownCommand tag code =>
    cases hspells
    exact congrArg some (decodeCommand_unknown (code := code) (by simpa [Instr.wellFormed] using hformed) tag [])
  | badLength => cases hspells
  | discard | check | commit | run | stop | abort | recal | queryCondition | queryTrackTable | queryContexts | queryPen
  | queryPosture | queryBaselineRow | watch | unwatch | clear | reset => rfl

theorem encodeMgmt_length {m : Mgmt} {i : Instr} (h : spells m i) :
    2 ≤ (encodeMgmt m).length ∧ (encodeMgmt m).length ≤ 520 := by
  obtain ⟨hspells, hformed⟩ := h
  cases m with
  | load tag k p o entries =>
    cases hspells
    have hlength : entries.length + 6 ≤ 520 := of_decide_eq_true hformed
    simp only [encodeMgmt, List.length_append, List.length_cons, List.length_nil, halfBytes_length]
    omega
  | _ => simp [encodeMgmt, halfBytes_length]

/-- Settles O7: the record between the length and the check is the one that its bytes decode to. -/
theorem writesRunTheirRecord : Obligations.WritesRunTheirRecord := by
  refine ⟨fun m i extra s hspells => ?_, fun tag code payload extra s hlength hcode => ?_,
    fun tag selector args extra s hlength hselector => ?_⟩
  · obtain ⟨hshort, hlong⟩ := encodeMgmt_length hspells
    rw [exec_writeTransfer_of_good (goodRecord_frameWrite hshort hlong extra), exec_of_toInstr hspells.1]
    simp only [State.takeRecord, decodeMgmt_encodeMgmt hspells]
  · rw [exec_writeTransfer_frameWrite hlength, decodeCommand_unknown hcode]
    rfl
  · rw [exec_writeTransfer_frameWrite (by simpa using hlength)]
    show Host.Outcome.next (s.takeWrite fun r => r.runMgmt (decodeQuery tag (selector :: args))) = _
    rw [decodeQuery_unknown hselector]
    rfl

/-! ## Writes that are counted (R174) -/

theorem State.takeWrite_of_full {s : State} (hpin : s.pinHeld = false) (hfull : 32 ≤ s.queue.length) (f : State → State) :
    s.takeWrite f = (s.setLinkOut .zeros).countDroppedWrite := by
  obtain ⟨hheld, -⟩ | ⟨-, hroom, -⟩ | ⟨-, -, heq⟩ := s.takeWrite_cases f
  · exact absurd hheld (by simp [hpin])
  · exact absurd hfull (by omega)
  · exact heq

/-- Settles O8: what is not a good write, and good writes that find the queue full. -/
theorem droppedWritesAreCounted : Obligations.DroppedWritesAreCounted := by
  refine ⟨⟨fun s bytes hpin hbad => congrArg Host.Outcome.next ?_, fun s kind hpin => congrArg Host.Outcome.next ?_⟩,
    fun s hpin hfull => ⟨fun record extra hshort hlong => ?_, fun m i hspells => ?_⟩⟩
  · cases hgood : goodRecord bytes with
    | none => exact State.unlessHeld_of_released hpin
    | some record =>
      obtain ⟨extra, hshort, hlong, hbytes⟩ := exists_of_goodRecord hgood
      exact absurd hbytes (hbad record extra hshort hlong)
  · exact State.unlessHeld_of_released hpin
  · rw [exec_writeTransfer_of_good (goodRecord_frameWrite hshort hlong extra), State.takeWrite_of_full hpin hfull]
    rfl
  · rw [exec_of_toInstr hspells.1, State.takeWrite_of_full hpin hfull]
    rfl

/-! ## Payloads that do not suit their command (R175, R192) -/

section
variable {tag code : Byte} {payload : List Byte}

theorem decodeCommand_load_short (h : payload.length < 4) : decodeCommand tag 0x01 payload = .badLength tag 0x01 := by
  match payload, h with
  | [], _ => rfl
  | [_], _ => rfl
  | [_, _], _ => rfl
  | [_, _, _], _ => rfl

/-- A command that takes no payload, with one; RECAL's, with none. -/
theorem decodeCommand_unwanted (hcode : code.toNat ∈ [2, 3, 4, 5, 6, 7, 13, 14]) (h : payload ≠ []) :
    decodeCommand tag code payload = .badLength tag code := by
  obtain ⟨x, rest, rfl⟩ := List.exists_cons_of_ne_nil h
  unfold decodeCommand
  generalize code.toNat = n at hcode
  simp only [List.mem_cons, List.not_mem_nil, or_false] at hcode
  obtain rfl | rfl | rfl | rfl | rfl | rfl | rfl | rfl := hcode <;> rfl

theorem decodeCommand_recal_unsuited (hcode : code.toNat = 9) (h : payload.length ≠ 1) :
    decodeCommand tag code payload = .badLength tag code := by
  unfold decodeCommand
  rw [hcode]
  match payload, h with
  | [], _ => rfl
  | _ :: _ :: _, _ => rfl

theorem decodeCommand_watch_unsuited (hcode : code.toNat ∈ [11, 12]) (h : payload.length ≠ 2) :
    decodeCommand tag code payload = .badLength tag code := by
  unfold decodeCommand
  generalize code.toNat = n at hcode
  simp only [List.mem_cons, List.not_mem_nil, or_false] at hcode
  obtain rfl | rfl := hcode <;> match payload, h with
    | [], _ => rfl
    | [_], _ => rfl
    | _ :: _ :: _ :: _, _ => rfl

theorem decodeCommand_posture_unsuited (hcode : code.toNat = 8) (h : payload.length ≠ 3) :
    decodeCommand tag code payload = .badLength tag code := by
  obtain rfl : code = 0x08 := BitVec.eq_of_toNat_eq hcode
  match payload, h with
  | [], _ => rfl
  | [_], _ => rfl
  | [_, _], _ => rfl
  | _ :: _ :: _ :: _ :: _, _ => rfl

/-- A QUERY without a selector, or with arguments that its selector does not take (R192). -/
theorem decodeQuery_unsuited (h : payload = [] ∨ ∃ selector args, payload = selector :: args ∧ selector.toNat ≤ 6 ∧
    [0, 1, 0, 0, 0, 2, 6].getD selector.toNat 0 ≠ args.length) : decodeQuery tag payload = .badLength tag 0x0A := by
  obtain rfl | ⟨selector, args, rfl, hknown, hunsuited⟩ := h
  · rfl
  · unfold decodeQuery
    dsimp only
    split
    case h_8 => exact if_pos hknown
    all_goals next hselector => exact absurd (by rw [hselector]; rfl) hunsuited

theorem decodeCommand_query_unsuited (hcode : code.toNat = 10) (h : payload = [] ∨ ∃ selector args,
      payload = selector :: args ∧ selector.toNat ≤ 6 ∧ [0, 1, 0, 0, 0, 2, 6].getD selector.toNat 0 ≠ args.length) :
    decodeCommand tag code payload = .badLength tag code := by
  obtain rfl : code = 0x0A := BitVec.eq_of_toNat_eq hcode
  exact decodeQuery_unsuited h

end

theorem State.runMgmt_badLength {s : State} {code : Byte} (h : code ≠ 0x01) (tag : Byte) :
    s.runMgmt (.badLength tag code) = s.refuse tag code .range :=
  if_neg fun hload => h hload.1

/-- Settles O9: what names nothing, and the family of commands by what payload suits it. -/
theorem unsuitableCommandsAreRefused : Obligations.UnsuitableCommandsAreRefused := by
  refine ⟨fun s tag code v htakes => ⟨State.takeWrite_next htakes (State.refuse_of_takes htakes ..),
    State.takeWrite_next htakes (State.refuse_of_takes htakes ..),
    State.takeWrite_next htakes (State.refuse_of_takes htakes ..)⟩,
    fun s tag code payload extra htakes hlength hlow hhigh hunwanted hposture hrecal hwatch hquery => ?_,
    fun s tag payload extra htakes hlength => ?_⟩
  · have hbad : decodeCommand tag code payload = .badLength tag code := by
      have hfamily : code.toNat ∈ [2, 3, 4, 5, 6, 7, 13, 14] ∨ code.toNat = 9 ∨ code.toNat ∈ [11, 12] ∨ code.toNat = 8 ∨
          code.toNat = 10 := by
        simp only [List.mem_cons, List.not_mem_nil, or_false]
        omega
      obtain h | h | h | h | h := hfamily
      · exact decodeCommand_unwanted h (hunwanted h)
      · exact decodeCommand_recal_unsuited h (hrecal h)
      · exact decodeCommand_watch_unsuited h (hwatch h)
      · exact decodeCommand_posture_unsuited h (hposture h)
      · exact decodeCommand_query_unsuited h (hquery h)
    have hcode : code ≠ 0x01 := fun h => by
      rw [h] at hlow
      exact absurd hlow (by decide)
    rw [exec_writeTransfer_frameWrite hlength, hbad]
    refine State.takeWrite_next htakes ((State.runMgmt_badLength hcode tag).trans (State.refuse_of_takes htakes ..))
  · rw [exec_writeTransfer_frameWrite (by omega), decodeCommand_load_short hlength]
    refine State.takeWrite_next htakes ?_
    by_cases hcommit : s.tables.commit = none
    · rw [if_pos hcommit]
      exact (if_neg fun h => by simp [hcommit] at h).trans (State.refuse_of_takes htakes ..)
    · rw [if_neg hcommit]
      exact (if_pos ⟨rfl, Option.isSome_iff_ne_none.mpr hcommit⟩).trans (State.busy_of_takes htakes ..)

end Sys2Proof.Machine

/-! Records and transfers (01.1, 11.1, 12.1 to 12.3): O6. -/

namespace Sys2Proof.Machine

/-! ## Scan records (R2, R190) -/

/-- Every scan record is the one that its command stands for. -/
theorem encodeScan_decodeScan (u : Surface) (kind : Byte) (body : List Byte) :
    encodeScan (decodeScan u kind body) = some (u, kind, body) := by
  unfold decodeScan
  split
  next hkind =>
    obtain rfl : kind = 1 := BitVec.eq_of_toNat_eq hkind
    simp only [encodeScan, halfBytes_joinBytes]
    rfl
  next hkind =>
    obtain rfl : kind = 2 := BitVec.eq_of_toNat_eq hkind
    rfl
  next hkind =>
    obtain rfl : kind = 3 := BitVec.eq_of_toNat_eq hkind
    simp only [encodeScan, halfBytes_joinBytes]
    rfl
  next hkind =>
    obtain rfl : kind = 4 := BitVec.eq_of_toNat_eq hkind
    cases u with
    | pad => rfl
    | panel =>
      simp only [encodeScan, halfBytes_joinBytes]
      rfl
  · rfl

/-- A scan command reads back from its record, whose body fits the length byte. -/
theorem decodeScan_encodeScan {i : Instr} {u : Surface} {kind : Byte} {body : List Byte} (hformed : i.wellFormed = true)
    (h : encodeScan i = some (u, kind, body)) : decodeScan u kind body = i ∧ body.length ≤ 255 := by
  cases i with
  | frameStart port frame c r =>
    cases h
    refine ⟨?_, by simp [halfBytes_length]⟩
    show Instr.frameStart _ (joinBytes _ _) _ _ = _
    rw [joinBytes_halves]
  | rowRecord port fields =>
    cases h
    exact ⟨rfl, of_decide_eq_true hformed⟩
  | frameEnd port frame check =>
    cases h
    refine ⟨?_, by simp [halfBytes_length]⟩
    show Instr.frameEnd _ (joinBytes _ _) (joinBytes _ _) = _
    rw [joinBytes_halves, joinBytes_halves]
  | penSample flags x y p tx ty q =>
    cases h
    refine ⟨?_, by simp [halfBytes_length]⟩
    show Instr.penSample _ (joinBytes _ _) (joinBytes _ _) (joinBytes _ _) _ _ _ = _
    rw [joinBytes_halves, joinBytes_halves, joinBytes_halves]
  | unknownScanRecord port k b =>
    cases h
    obtain ⟨hfits, hunknown⟩ := Bool.and_eq_true_iff.mp hformed
    exact ⟨of_decide_eq_true hunknown, of_decide_eq_true hfits⟩
  | _ => cases h

/-- What a scan record decodes to is well formed when its body fits the length byte. -/
theorem decodeScan_wellFormed {u : Surface} {kind : Byte} {body : List Byte} (h : body.length ≤ 255) :
    (decodeScan u kind body).wellFormed = true := by
  have hback := encodeScan_decodeScan u kind body
  cases hdecoded : decodeScan u kind body with
  | rowRecord port fields =>
    rw [hdecoded] at hback
    cases hback
    exact decide_eq_true h
  | unknownScanRecord port k b =>
    rw [hdecoded] at hback
    cases hback
    exact Bool.and_eq_true_iff.mpr ⟨decide_eq_true h, decide_eq_true hdecoded⟩
  | frameStart | frameEnd | penSample => rfl
  | _ =>
    rw [hdecoded] at hback
    cases hback

/-! ## Records on a port (R190) -/

theorem encodeScanRecord_eq_some {i : Instr} {u : Surface} {bytes : List Byte} (h : encodeScanRecord i = some (u, bytes)) :
    ∃ kind body, encodeScan i = some (u, kind, body) ∧ bytes = scanRecord kind body := by
  obtain ⟨⟨port, kind, body⟩, hencoded, heq⟩ := Option.map_eq_some_iff.mp h
  cases heq
  exact ⟨kind, body, hencoded, rfl⟩

theorem readScan_scanRecord {kind : Byte} {body : List Byte} (h : body.length ≤ 255) (u : Surface) (after : List Byte) :
    readScan u (scanRecord kind body ++ after) = some (decodeScan u kind body, after) := by
  have hlength : (byteOf body.length).toNat = body.length := byteOf_toNat (by omega)
  show (if (body ++ after).length < (byteOf body.length).toNat then none
    else some (decodeScan u kind ((body ++ after).take (byteOf body.length).toNat),
      (body ++ after).drop (byteOf body.length).toNat)) = _
  rw [hlength, List.take_left, List.drop_left, if_neg (by simp)]

theorem readScan_partial {kind : Byte} {body : List Byte} (h : body.length ≤ 255) (u : Surface) {n : Nat}
    (hn : n < (scanRecord kind body).length) : readScan u ((scanRecord kind body).take n) = none := by
  have hlength : (byteOf body.length).toNat = body.length := byteOf_toNat (by omega)
  match n, hn with
  | 0, _ => rfl
  | 1, _ => rfl
  | n + 2, hn =>
    have hshort : n < body.length := by simpa [scanRecord] using hn
    refine if_pos ?_
    rw [hlength, List.length_take]
    omega

/-- What reads as a command is its record, with what came after it. -/
theorem exists_of_readScan {u : Surface} {received after : List Byte} {i : Instr} (h : readScan u received = some (i, after)) :
    i.wellFormed = true ∧ ∃ bytes, encodeScanRecord i = some (u, bytes) ∧ received = bytes ++ after := by
  unfold readScan at h
  split at h
  next kind length rest =>
    obtain ⟨hfits, heq⟩ := Option.ite_none_left_eq_some.mp h
    cases heq
    have hlength : (rest.take length.toNat).length = length.toNat := by
      rw [List.length_take]
      omega
    have hbyte : length.toNat < 256 := length.isLt
    refine ⟨decodeScan_wellFormed (by omega), _, by rw [encodeScanRecord, encodeScan_decodeScan]; rfl, ?_⟩
    rw [scanRecord, hlength, byteOf_self]
    simp
  · cases h

/-- The records that a port receives in a row, at most as many as asked for (R2, R190). -/
theorem readScans_records {u : Surface} {after : List Byte} (hafter : readScan u after = none)
    (records : List (Instr × List Byte))
    (h : ∀ r ∈ records, r.1.wellFormed = true ∧ encodeScanRecord r.1 = some (u, r.2)) {n : Nat} (hn : records.length ≤ n) :
    readScans u n (records.flatMap Prod.snd ++ after) = (records.map Prod.fst, after) := by
  induction records generalizing n with
  | nil =>
    cases n with
    | zero => rfl
    | succ n => simp [readScans, hafter]
  | cons r records ih =>
    obtain ⟨hformed, hencoded⟩ := h r List.mem_cons_self
    obtain ⟨kind, body, hscan, hbytes⟩ := encodeScanRecord_eq_some hencoded
    obtain ⟨hdecoded, hfits⟩ := decodeScan_encodeScan hformed hscan
    match n, hn with
    | n + 1, hn =>
      have hrest := ih (fun x hx => h x (List.mem_cons_of_mem _ hx)) (n := n) (by simpa using hn)
      have hread : readScan u ((r :: records).flatMap Prod.snd ++ after) =
          some (r.1, records.flatMap Prod.snd ++ after) := by
        rw [List.flatMap_cons, List.append_assoc, hbytes, readScan_scanRecord hfits, hdecoded]
      simp only [readScans, hread, hrest, List.map_cons]

theorem records_length_le {u : Surface} (records : List (Instr × List Byte))
    (h : ∀ r ∈ records, encodeScanRecord r.1 = some (u, r.2)) : records.length ≤ (records.flatMap Prod.snd).length := by
  induction records with
  | nil => exact Nat.le_refl _
  | cons r records ih =>
    obtain ⟨kind, body, -, hbytes⟩ := encodeScanRecord_eq_some (h r List.mem_cons_self)
    have hrest := ih fun x hx => h x (List.mem_cons_of_mem _ hx)
    rw [List.flatMap_cons, List.length_append, List.length_cons, hbytes, scanRecord, List.length_cons]
    omega

/-! ## Transfers (R173, R191) -/

theorem State.readTotal_eq {s : State} {n : Nat}
    (h : s.queue = [] ∧ n = 2 ∨ ∃ r q, s.queue = r :: q ∧ n = 2 + (r.bytes s.summary).length) : s.readTotal = n := by
  obtain ⟨hqueue, rfl⟩ | ⟨r, q, hqueue, rfl⟩ := h
  · simp only [State.readTotal, hqueue]
  · simp only [State.readTotal, hqueue, Record.sent, natBytes2, List.length_append, halfBytes_length]

/-- Settles O6: the management records, the scan records by themselves and on a port, and the transfers. -/
theorem recordsRoundTrip : Obligations.RecordsRoundTrip := by
  refine ⟨fun m i => decodeMgmt_encodeMgmt, fun i u kind body => decodeScan_encodeScan, encodeScan_decodeScan,
    ⟨fun i u bytes hformed hencoded => ?_, fun u received after i => exists_of_readScan,
      fun u records after hrecords hafter => ?_⟩, fun s rest => ⟨rfl, fun n hn => ⟨fun hearly => ?_, fun hend => ?_⟩,
      fun kind hread hwrite => ⟨?_, decide_eq_true ⟨hread, hwrite⟩⟩⟩⟩
  · obtain ⟨kind, body, hscan, rfl⟩ := encodeScanRecord_eq_some hencoded
    obtain ⟨hdecoded, hfits⟩ := decodeScan_encodeScan hformed hscan
    exact ⟨⟨kind, byteOf body.length, body, rfl, byteOf_toNat (by omega)⟩,
      fun after => by rw [readScan_scanRecord hfits, hdecoded], fun n hn => readScan_partial hfits u hn⟩
  · refine readScans_records hafter records hrecords ?_
    rw [List.length_append]
    exact (records_length_le records fun r hr => (hrecords r hr).2).trans (Nat.le_add_right _ _)
  · rw [State.transfer, State.readTotal_eq hn]
    exact if_pos hearly
  · rw [State.transfer, State.readTotal_eq hn]
    exact if_neg (Nat.not_lt.mpr hend)
  · exact (if_neg hread).trans (if_neg hwrite)

end Sys2Proof.Machine

/-! RUN and STOP (11.5): O51. -/

namespace Sys2Proof.Machine

/-! ## NOTICEs offered in a row (R177, R180) -/

/-- Those that the queue has room for join it, and the causes of the rest are owed. -/
theorem State.offerNotices_eq (ns : List Notice) (s : State) (h : s.queue.length ≤ 32) : ns.foldl State.offerNotice s =
    { s with
      queue := s.queue ++ (ns.take (32 - s.queue.length)).map (fun n => (Payload.notice n).fresh s.now)
      link := { s.link with owed := (ns.drop (32 - s.queue.length)).foldl Owed.add s.link.owed } } := by
  induction ns generalizing s with
  | nil => simp
  | cons n ns ih =>
    rw [List.foldl_cons]
    obtain ⟨hplace, heq⟩ | ⟨hfull, heq⟩ := s.offerNotice_cases n
    · have hlength : (s.offerNotice n).queue.length = s.queue.length + 1 := by rw [heq]; simp [State.enqueue]
      obtain ⟨room, hroom⟩ : ∃ room, 32 - s.queue.length = room + 1 := ⟨31 - s.queue.length, by omega⟩
      rw [ih _ (by omega), hlength, hroom, show 32 - (s.queue.length + 1) = room by omega, heq]
      simp [State.enqueue, Payload.fresh]
    · have hnone : 32 - s.queue.length = 0 := by omega
      rw [ih _ (by rw [heq]; exact h), heq]
      dsimp only
      rw [hnone]
      simp

/-! ## Surfaces that enter ACQUIRE (R10, R185) -/

section
variable (s : State) (u : Surface)

/-- A surface's intake as it enters ACQUIRE. -/
def State.acquiring (s : State) (u : Surface) : Intake :=
  { s.intake.get u with state := .acquire, timeout := s.timeoutFromNow, errorRun := 0 }

theorem State.enterAcquire_frame : s.enterAcquire u false = { s with
    intake := s.intake.set u (s.acquiring u)
    queue := (s.enterAcquire u false).queue
    link := { s.link with owed := (s.enterAcquire u false).link.owed } } := by
  have hstate : s.enterAcquire u false = (s.onIntake u fun i =>
        { i with timeout := s.timeoutFromNow, errorRun := 0 }).enterState u .acquire := rfl
  have hmerged : (s.onIntake u fun i => { i with timeout := s.timeoutFromNow, errorRun := 0 }).onIntake u
      (fun i => { i with state := .acquire, timeout := if SurfaceState.acquire == .off || SurfaceState.acquire == .failed then none else i.timeout }) =
      { s with intake := s.intake.set u (s.acquiring u) } := State.onIntake_onIntake _ _ _ _
  by_cases h : ((s.onIntake u fun i => { i with timeout := s.timeoutFromNow, errorRun := 0 }).intake.get u).state = .acquire
  · rw [hstate, State.enterState_of_same _ h, hmerged]
  · rw [hstate, State.enterState_of_change _ h, hmerged]
    obtain ⟨-, heq⟩ | ⟨-, heq⟩ := State.offerNotice_cases { s with intake := s.intake.set u (s.acquiring u) }
      (.surface (s.intake.set u (s.acquiring u)).pad.state (s.intake.set u (s.acquiring u)).panel.state (u == .pad) (u == .panel))
    · rw [State.surfaceNotice, heq]
      rfl
    · rw [State.surfaceNotice, heq]

theorem State.runSurface_frame : s.runSurface u = { s with
    intake := if s.entry.enablesSurface u then s.intake.set u (s.acquiring u) else s.intake
    queue := (s.runSurface u).queue
    link := { s.link with owed := (s.runSurface u).link.owed } } := by
  unfold State.runSurface
  split
  · exact s.enterAcquire_frame u
  · rfl

theorem State.runSurface_get (v : Surface) : (s.runSurface u).intake.get v =
    if v = u ∧ s.entry.enablesSurface u = true then s.acquiring u else s.intake.get v := by
  rw [s.runSurface_frame u]
  dsimp only
  by_cases h : s.entry.enablesSurface u = true
  · rw [if_pos h, PerSurface.get_set]
    simp [h]
  · rw [if_neg h, if_neg fun hv => h hv.2]

/-- RUN's surfaces, pad first. -/
def State.runSurfaces (s : State) : State := ((s.setPart .run).runSurface .pad).runSurface .panel

theorem State.runSurfaces_frame : s.runSurfaces = { s with
    intake := s.runSurfaces.intake
    queue := s.runSurfaces.queue
    link := { s.link with part := .run, owed := s.runSurfaces.link.owed } } := by
  have hpad := (s.setPart .run).runSurface_frame .pad
  have hpanel := ((s.setPart .run).runSurface .pad).runSurface_frame .panel
  have hall : s.runSurfaces = ((s.setPart .run).runSurface .pad).runSurface .panel := rfl
  rw [← hall] at hpanel
  generalize (s.setPart .run).runSurface .pad = x at *
  generalize s.runSurfaces = y at *
  rw [hpanel, hpad]
  rfl

theorem State.runSurfaces_get : s.runSurfaces.intake.get u =
    if s.entry.enablesSurface u = true then s.acquiring u else s.intake.get u := by
  have hpad := (s.setPart .run).runSurface_frame .pad
  have hget := ((s.setPart .run).runSurface .pad).runSurface_get .panel u
  have hentry : ((s.setPart .run).runSurface .pad).entry = s.entry := by rw [hpad]; rfl
  have htimeout : ((s.setPart .run).runSurface .pad).timeoutFromNow = s.timeoutFromNow := by rw [hpad]; rfl
  rw [hentry, State.acquiring, htimeout, (s.setPart .run).runSurface_get .pad, (s.setPart .run).runSurface_get .pad] at hget
  refine hget.trans ?_
  cases u with
  | pad => rw [if_neg (fun h => nomatch h.1)]; exact if_congr ⟨And.right, fun h => ⟨rfl, h⟩⟩ rfl rfl
  | panel => rw [if_neg (c := Surface.panel = .pad ∧ _) (fun h => nomatch h.1)]; exact if_congr ⟨And.right, fun h => ⟨rfl, h⟩⟩ rfl rfl

/-- RUN in HOLD lets nothing rise: no surface fails by it. -/
theorem State.runSurfaces_notices (before : State) (hintake : before.intake = s.intake) (hlink : before.link = s.link) :
    State.noticeRises before s.runSurfaces = s.runSurfaces := by
  have hlink' : s.runSurfaces.link = { s.link with part := .run, owed := s.runSurfaces.link.owed } :=
    (congrArg State.link s.runSurfaces_frame :)
  refine State.noticeRises_of_steady ?_ ?_
  · by_cases hfault : s.runSurfaces.fault = true
    · refine .inl (before.fault_iff.mpr ?_)
      rw [hintake, hlink]
      have hstate (u : Surface) (h : (s.runSurfaces.intake.get u).state = .failed) : (s.intake.get u).state = .failed := by
        rw [State.runSurfaces_get] at h
        split at h
        · cases h
        · exact h
      have hdiscarded (u : Surface) : (s.runSurfaces.intake.get u).discarded = (s.intake.get u).discarded := by
        rw [State.runSurfaces_get]
        split <;> rfl
      have hrose := s.runSurfaces.fault_iff.mp hfault
      rw [hlink'] at hrose
      simp only [hdiscarded] at hrose
      exact hrose.imp_left fun ⟨u, hu⟩ => ⟨u, hstate u hu⟩
    · exact .inr (by simpa using hfault)
  · rw [hlink', hlink]
    cases s.link.loss
    · exact .inr rfl
    · exact .inl rfl

/-! ## RUN's NOTICEs (R10, R180) -/

theorem State.offerNotices_setIntake (ns : List Notice) (j : PerSurface Intake) :
    { ns.foldl State.offerNotice s with intake := j } = ns.foldl State.offerNotice { s with intake := j } := by
  induction ns generalizing s with
  | nil => rfl
  | cons n ns ih =>
    rw [List.foldl_cons, List.foldl_cons, ih]
    obtain ⟨hplace, heq⟩ | ⟨hfull, heq⟩ := s.offerNotice_cases n
    · rw [heq, State.offerNotice_of_place (s := { s with intake := j }) hplace]
      rfl
    · rw [heq, State.offerNotice_of_full (s := { s with intake := j }) hfull]

/-- A surface that is OFF enters ACQUIRE by RUN, when its entry enables it, with its NOTICE. -/
theorem State.runSurface_of_off (hoff : (s.intake.get u).state = .off) : s.runSurface u =
    let j := if s.entry.enablesSurface u then s.intake.set u (s.acquiring u) else s.intake
    (if s.entry.enablesSurface u then [Notice.surface j.pad.state j.panel.state (u == .pad) (u == .panel)] else []).foldl
      State.offerNotice { s with intake := j } := by
  unfold State.runSurface
  split
  · exact State.enterAcquire_of_change s false (by rw [hoff]; exact nofun)
  · rfl

theorem State.runSurfaces_of_off (hoff : ∀ u, (s.intake.get u).state = .off) : s.runSurfaces =
    s.runNotices.foldl State.offerNotice { s with intake := s.runSurfaces.intake, link := { s.link with part := .run } } := by
  have hfirst := (s.setPart .run).runSurface_of_off .pad (hoff .pad)
  have hsecond := ((s.setPart .run).runSurface .pad).runSurface_of_off .panel (by
    rw [State.runSurface_get]
    exact (congrArg Intake.state (if_neg fun h => nomatch h.1)).trans (hoff .panel))
  have hframe := (s.setPart .run).runSurface_frame .pad
  have hentry : ((s.setPart .run).runSurface .pad).entry = s.entry := by rw [hframe]; rfl
  have hj : (if s.entry.enablesSurface .panel then ((s.setPart .run).runSurface .pad).intake.set .panel
      (((s.setPart .run).runSurface .pad).acquiring .panel) else ((s.setPart .run).runSurface .pad).intake) = s.runSurfaces.intake := by
    rw [← hentry]
    exact (congrArg State.intake (((s.setPart .run).runSurface .pad).runSurface_frame .panel)).symm
  have hpad : s.runSurfaces.intake.pad.state = if s.entry.enablesSurface .pad then .acquire else .off := by
    refine (congrArg Intake.state (s.runSurfaces_get .pad)).trans ?_
    split
    · rfl
    · exact hoff .pad
  rw [hentry] at hsecond
  rw [show (s.setPart .run).entry = s.entry from rfl] at hfirst
  dsimp only at hfirst hsecond
  rw [hj] at hsecond
  have hx : { (s.setPart .run).runSurface .pad with intake := s.runSurfaces.intake } =
      (if s.entry.enablesSurface .pad then [Notice.surface .acquire .off true false] else []).foldl State.offerNotice
        { s with intake := s.runSurfaces.intake, link := { s.link with part := .run } } := by
    rw [hfirst]
    refine (State.offerNotices_setIntake _ _ _).trans ?_
    by_cases h : s.entry.enablesSurface .pad = true
    · have hpanel : s.intake.panel.state = .off := hoff .panel
      simp only [if_pos h]
      rw [← hpanel]
      rfl
    · simp only [if_neg h]
      rfl
  refine Eq.trans hsecond ?_
  rw [hx, ← List.foldl_append]
  congr 1
  rw [State.runNotices, hpad]
  by_cases h : s.entry.enablesSurface .panel = true
  · have hpanel : s.runSurfaces.intake.panel.state = .acquire := by
      refine (congrArg Intake.state (s.runSurfaces_get .panel)).trans ?_
      rw [if_pos h]
      rfl
    rw [if_pos h, if_pos h, hpanel]
    rfl
  · rw [if_neg h, if_neg h]

end

/-! ## RUN's answer (R185) -/

section
variable {s : State} {tag : Byte} (htakes : s.takes)
include htakes

/-- RUN in HOLD, taken. -/
theorem State.takeRun_hold (hhold : s.link.part = .hold) :
    s.takeWrite (·.takeRun tag) = (s.setLinkOut .zeros).runSurfaces.done tag 0x05 [] := by
  refine (s.takeWrite_of_takes _ htakes).trans ?_
  have hpart : (s.setLinkOut .zeros).link.part = .hold := hhold
  simp only [State.takeRun, hpart]
  exact congrArg (State.done · tag 0x05 []) (State.runSurfaces_notices (s.setLinkOut .zeros) _ rfl rfl)

theorem State.execRun_hold (hhold : s.link.part = .hold) : ∃ t : State, exec (.run tag) s = .next t ∧
    t = { s with linkOut := .zeros, intake := t.intake, queue := t.queue, link := t.link } ∧
    t.link = { s.link with part := .run, waiting := t.link.waiting, owed := t.link.owed } ∧
    ((∀ u, (s.intake.get u).state = .off) →
      let room := 32 - s.queue.length
      let notices := s.runNotices
      let answer : Record := ⟨s.now, .reply ⟨tag, 0x05, .done, []⟩, false⟩
      t.queue = s.queue ++ (notices.take room).map (fun n => ⟨s.now, .notice n, false⟩) ++
          (if notices.length < room then [answer] else []) ∧
        t.link.waiting = s.link.waiting ++ (if notices.length < room then [] else [answer]) ∧
        t.link.owed = (notices.drop room).foldl Owed.add s.link.owed) ∧
    (∀ u, s.entry.enablesSurface u = false → t.intake.get u = s.intake.get u) ∧
    ∀ u, s.entry.enablesSurface u = true → t.intake.get u = s.acquiring u := by
  refine ⟨_, congrArg Host.Outcome.next (State.takeRun_hold htakes hhold), ?_⟩
  have hframe := (s.setLinkOut .zeros).runSurfaces_frame
  have hget := (s.setLinkOut .zeros).runSurfaces_get
  have hoff := (s.setLinkOut .zeros).runSurfaces_of_off
  generalize (s.setLinkOut .zeros).runSurfaces = x at *
  have hintake (u : Surface) : (x.done tag 0x05 []).intake.get u =
      if s.entry.enablesSurface u = true then s.acquiring u else s.intake.get u := by
    rw [State.done_intake]
    exact hget u
  refine ⟨?_, ?_, fun hall => ?_, fun u hdisabled => ?_, fun u henabled => ?_⟩
  · obtain ⟨-, heq⟩ | ⟨-, heq⟩ := x.offerReply_cases ⟨tag, 0x05, .done, []⟩ <;> rw [State.done, heq, hframe] <;> rfl
  · obtain ⟨-, heq⟩ | ⟨-, heq⟩ := x.offerReply_cases ⟨tag, 0x05, .done, []⟩ <;> rw [State.done, heq, hframe] <;> rfl
  · have hx := (hoff hall).trans (State.offerNotices_eq _ _ (htakes.2.le :))
    have hqueue : x.queue = s.queue ++ (s.runNotices.take (32 - s.queue.length)).map
        (fun n => (Payload.notice n).fresh s.now) := (congrArg State.queue hx :)
    have hlink : x.link = { s.link with part := .run, owed := (s.runNotices.drop (32 - s.queue.length)).foldl Owed.add s.link.owed } :=
      (congrArg State.link hx :)
    have hnow : x.now = s.now := (congrArg State.now hx :)
    have hlength : x.queue.length = s.queue.length + min (32 - s.queue.length) s.runNotices.length := by simp [hqueue]
    obtain ⟨hroom, heq⟩ | ⟨hfull, heq⟩ := x.offerReply_cases ⟨tag, 0x05, .done, []⟩
    · have hfit : s.runNotices.length < 32 - s.queue.length := by omega
      rw [State.done, heq]
      simp only [if_pos hfit, State.enqueue, hqueue, hlink, hnow]
      exact ⟨rfl, (List.append_nil _).symm, trivial⟩
    · have hover : ¬ s.runNotices.length < 32 - s.queue.length := by omega
      rw [State.done, heq]
      simp only [if_neg hover, hqueue, hlink, hnow]
      exact ⟨(List.append_nil _).symm, trivial, trivial⟩
  · rw [hintake u, if_neg (by rw [hdisabled]; exact nofun)]
  · rw [hintake u, if_pos henabled]

end

/-! ## What offers leave of the link -/

/-- The link's values that no offer of a record changes. -/
def Link.lasting (l : Link) : Link := { l with loss := false, waiting := [], owed := Owed.empty }

section
variable (s : State)

theorem State.offerNotice_lasting (n : Notice) : (s.offerNotice n).link.lasting = s.link.lasting := by
  obtain ⟨-, heq⟩ | ⟨-, heq⟩ := s.offerNotice_cases n <;> rw [heq] <;> rfl

theorem State.noticeRises_lasting (before : State) : (State.noticeRises before s).link.lasting = s.link.lasting := by
  have offered (c : Bool) (t : State) (n : Notice) :
      (if c then t.offerNotice n else t).link.lasting = t.link.lasting := by
    cases c
    · rfl
    · exact t.offerNotice_lasting n
  exact (offered _ _ _).trans (offered _ _ _)

theorem State.done_lasting (tag c : Byte) (b : List Byte) : (s.done tag c b).link.lasting = s.link.lasting := by
  obtain ⟨-, heq⟩ | ⟨-, heq⟩ := s.offerReply_cases ⟨tag, c, .done, b⟩ <;> rw [State.done, heq] <;> rfl

theorem State.endCommit_lasting : s.endCommit.link.lasting = s.link.lasting := by
  unfold State.endCommit
  split
  · rfl
  · dsimp only
    split
    · exact State.done_lasting _ _ _ _
    · rfl

theorem State.stopDone_lasting : s.stopDone.link.lasting = { s.link.lasting with stopTag := none } := by
  unfold State.stopDone
  split
  next htag => simp only [Link.lasting, ← htag]
  · exact State.done_lasting _ _ _ _

theorem State.penForcedExit_lasting : s.penForcedExit.link.lasting = s.link.lasting := by
  unfold State.penForcedExit State.reportPen State.offerPen
  dsimp only
  split
  · rfl
  · split <;> rfl

theorem State.penForcedExit_frame : s.penForcedExit = { s with
    pen := { s.pen with mode := .out, coast := 0, guard := none }, queue := s.penForcedExit.queue, link := s.penForcedExit.link } := by
  unfold State.penForcedExit State.reportPen State.offerPen
  dsimp only
  split
  · rfl
  · split <;> rfl

theorem State.noticeRises_frame (before : State) : State.noticeRises before s = { s with
    queue := (State.noticeRises before s).queue, link := (State.noticeRises before s).link } := by
  have offered (c : Bool) (t : State) (n : Notice) : (if c then t.offerNotice n else t) = { t with
      queue := (if c then t.offerNotice n else t).queue, link := (if c then t.offerNotice n else t).link } := by
    cases c
    · rfl
    · obtain ⟨-, heq⟩ | ⟨-, heq⟩ := t.offerNotice_cases n <;> rw [if_pos rfl, heq]
      rfl
  have hfault := offered (!before.fault && s.fault) s .faultRising
  unfold State.noticeRises
  generalize (if !before.fault && s.fault then s.offerNotice .faultRising else s) = x at *
  refine (offered (!before.link.loss && s.link.loss) x .lossRising).trans ?_
  dsimp only
  rw [hfault]

theorem State.penForcedExit_of_out (h : s.pen.mode = .out) :
    s.penForcedExit = { s with pen := { s.pen with mode := .out, coast := 0, guard := none } } := if_pos h

/-- DONE stands in the queue, or waits (R177). -/
theorem State.done_answers (tag c : Byte) (b : List Byte) :
    (⟨s.now, .reply ⟨tag, c, .done, b⟩, false⟩ : Record) ∈ (s.done tag c b).queue ++ (s.done tag c b).link.waiting := by
  obtain ⟨-, heq⟩ | ⟨-, heq⟩ := s.offerReply_cases ⟨tag, c, .done, b⟩ <;> rw [State.done, heq] <;> simp [State.enqueue]

/-! ## A posted OFF (R13, R186) -/

theorem State.postClosing_off (u : Surface) : s.postClosing u .off = { s with
    intake := s.intake.set u { s.intake.get u with ready := none, timeout := none }
    engine := { s.engine with waitList := postedList s.engine.waitList s.now u .off } } := rfl

/-- A part that STOP winds down, before its pen is taken out (R186). -/
def State.stopPosted (s : State) (tag : Byte) : State :=
  (((s.setPart .stopping).setStopTag (some tag)).postClosing .pad .off).postClosing .panel .off

theorem State.stopPosted_get (tag : Byte) (u : Surface) :
    (s.stopPosted tag).intake.get u = { s.intake.get u with ready := none, timeout := none } := by
  cases u <;> rfl

theorem State.stopPosted_waits (tag : Byte) (u : Surface) : (s.stopPosted tag).waitsFor u .off := by
  cases u with
  | pad => exact closingIn_posted_off closingIn_posted
  | panel => exact closingIn_posted

theorem State.shut_of_waitsFor {u : Surface} (h : s.waitsFor u .off) : s.shut u = true := by
  have hshut : s.engine.waitList.any (·.shuts u) = true := shutIn_iff.mp (.inl h)
  simp [State.shut, hshut]

/-- Taken with no pen to take out, STOP lets nothing rise. -/
theorem State.beginStop_quiet (before : State) (hintake : before.intake = s.intake) (hlink : before.link = s.link) (tag : Byte)
    (hout : s.pen.mode = .out) : State.noticeRises before (s.beginStop tag) = s.beginStop tag := by
  have heq : s.beginStop tag = { s.stopPosted tag with pen := { s.pen with mode := .out, coast := 0, guard := none } } :=
    (s.stopPosted tag).penForcedExit_of_out hout
  rw [heq]
  refine State.noticeRises_of_steady ?_ ?_
  · by_cases hfault : (s.stopPosted tag).fault = true
    · refine .inl (before.fault_iff.mpr ?_)
      rw [State.fault_iff] at hfault
      simp only [State.stopPosted_get] at hfault
      rw [hintake, hlink]
      exact hfault
    · exact .inr (Bool.eq_false_iff.mpr hfault)
  · rw [hlink]
    cases hloss : s.link.loss
    · exact .inr hloss
    · exact .inl rfl

/-! ## Cancellations leave nothing behind (R141, R148, R152) -/

/-- The engine and the motion unit of the second state are the first's, cancelled. -/
def State.cancelled (s t : State) : Prop :=
  t.gestures.contexts = List.replicate 6 none ∧ t.gestures.penInk = none ∧ t.gestures.inHand = false ∧
    t.gestures.digests = (if s.gestures.inHand then s.gestures.digests.tail else s.gestures.digests) ∧
    t.motion.pointer = none ∧ ∀ b ∈ t.motion.buttons, b = none

theorem State.cancelled.keep {s t x : State} (h : s.cancelled t) (hcontexts : x.gestures.contexts = t.gestures.contexts)
    (hpenInk : x.gestures.penInk = t.gestures.penInk) (hhand : x.gestures.inHand = t.gestures.inHand)
    (hdigests : x.gestures.digests = t.gestures.digests) (hmotion : x.motion = t.motion) : s.cancelled x := by
  unfold State.cancelled
  rw [hcontexts, hpenInk, hhand, hdigests, hmotion]
  exact h

/-- A general cancellation leaves no context running, no pointer held and no button pressed. -/
theorem State.cancelled_generalCancel (hlist : s.gestures.contexts.length = 6) (hmotion : s.motionHeld) :
    s.cancelled s.generalCancel := by
  have hheld : s.cancelContexts.motionHeld := (s.cancelContexts_moves (held := True) fun _ => hmotion).motionHeld (fun _ => hmotion) trivial
  have hnone := State.context_cancelContexts_eq_none hlist
  have hcontexts := State.contexts_cancelContexts hlist
  have hapart := s.cancelContexts_apart
  have hpointer : s.cancelContexts.motion.pointer = none := by
    refine Option.eq_none_iff_forall_not_mem.mpr fun p hp => ?_
    obtain ⟨x, hx, -⟩ := hheld.1 p hp
    exact absurd hx (by rw [hnone]; exact nofun)
  have hbuttons (b : Option ContextRef) (hb : b ∈ s.cancelContexts.motion.buttons) : b = none := by
    refine Option.eq_none_iff_forall_not_mem.mpr fun c hc => ?_
    obtain ⟨x, hx, -⟩ := hheld.2 b hb c hc
    exact absurd hx (by rw [hnone]; exact nofun)
  unfold State.generalCancel
  generalize s.cancelContexts = x at *
  have hink : x.gestures.penInk = none := (congrArg Gestures.penInk hapart :)
  have hhand : x.gestures.inHand = s.gestures.inHand := (congrArg Gestures.inHand hapart :)
  have hdigests : x.gestures.digests = s.gestures.digests := (congrArg Gestures.digests hapart :)
  dsimp only
  rw [hhand]
  split
  next hin => exact ⟨hcontexts, hink, rfl, by rw [if_pos hin, ← hdigests]; rfl, hpointer, hbuttons⟩
  next hout => exact ⟨hcontexts, hink, hhand.trans (by simpa using hout), by rw [if_neg hout, hdigests], hpointer, hbuttons⟩

theorem State.lasting_of_engineKeeps {s t : State} (h : s.engineKeeps t) : t.link.lasting = s.link.lasting := by
  obtain ⟨-, -, -, -, -, -, -, -, -, -, -, -, -, -, -, -, -, -, hpart, -, hstop, hbad, hdropped, hcause, hseen⟩ := h
  unfold Link.lasting
  rw [hpart, hstop, hbad, hdropped, hcause, hseen]

theorem State.generalCancel_lasting : s.generalCancel.link.lasting = s.link.lasting := by
  have hcancel := State.lasting_of_engineKeeps (s.cancelContexts_moves (held := False) nofun).keeps
  unfold State.generalCancel
  generalize s.cancelContexts = x at *
  dsimp only
  split <;> exact hcancel

theorem State.generalCancel_now : s.generalCancel.now = s.now := by
  obtain ⟨-, -, hnow, -⟩ := (s.cancelContexts_moves (held := False) nofun).keeps
  unfold State.generalCancel
  generalize s.cancelContexts = x at *
  dsimp only
  split <;> exact hnow

/-- The switch at HOLD leaves nothing of a commit to switch, and of the engine only its waiting switch changes (R170). -/
theorem State.switchAtHold_gestures : s.switchAtHold.gestures =
    { s.gestures with switchWaiting := s.switchAtHold.gestures.switchWaiting } := by
  unfold State.switchAtHold State.switchProgram
  rw [← s.switchFrameSide_gestures]
  split <;> rfl

theorem State.switchAtHold_switched : ∀ c, s.switchAtHold.tables.commit = some c → c.frameSide = KindSet.empty ∧ c.program = false := by
  have hside (c : CommitRecord) (hc : s.switchFrameSide.tables.commit = some c) : c.frameSide = KindSet.empty := by
    unfold State.switchFrameSide at hc
    split at hc
    next hnone => exact absurd (hnone.symm.trans hc) nofun
    next d hd =>
      split at hc
      next hempty => rw [Option.some.inj (hd.symm.trans hc)] at hempty; exact hempty
      · split at hc
        · rw [State.applyEntry_tables] at hc
          exact Option.some.inj hc ▸ rfl
        · exact Option.some.inj hc ▸ rfl
  intro c hc
  unfold State.switchAtHold State.switchProgram at hc
  split at hc
  · obtain ⟨d, hd, rfl⟩ := Option.map_eq_some_iff.mp hc
    exact ⟨hside d hd, rfl⟩
  next hnone => exact ⟨hside c hc, by simpa [hc] using hnone⟩

theorem State.endCommit_commit (h : ∀ c, s.tables.commit = some c → c.frameSide = KindSet.empty ∧ c.program = false) :
    s.endCommit.tables.commit = none := by
  unfold State.endCommit
  split
  next hnone => exact hnone
  next c hc =>
    rw [if_pos (h c hc)]
    exact congrArg TableStore.commit (State.done_tables _ _ _ _)

theorem State.applySurface_lasting (e : PostureEntry) (u : Surface) : (s.applySurface e u).link.lasting = s.link.lasting := by
  unfold State.applySurface State.enableSurface State.disableSurface
  split
  · split
    · split
      · rfl
      · split
        · rw [s.enterAcquire_frame u]
          rfl
        · rfl
    · rfl
  · split <;> rfl

theorem State.applyEntry_lasting : s.applyEntry.link.lasting = s.link.lasting := by
  have hsurfaces : ((s.applySurface s.entry .pad).applySurface s.entry .panel).link.lasting = s.link.lasting :=
    (State.applySurface_lasting _ _ _).trans (State.applySurface_lasting _ _ _)
  unfold State.applyEntry
  dsimp only
  split
  · exact hsurfaces
  · exact (State.penForcedExit_lasting _).trans hsurfaces

theorem State.switchFrameSide_lasting : s.switchFrameSide.link.lasting = s.link.lasting := by
  unfold State.switchFrameSide
  split
  · rfl
  · split
    · rfl
    · dsimp only
      split
      · exact State.applyEntry_lasting _
      · rfl

theorem State.switchAtHold_lasting : s.switchAtHold.link.lasting = s.link.lasting := by
  unfold State.switchAtHold
  rw [State.switchProgram_link]
  exact s.switchFrameSide_lasting

/-- A part that enters HOLD, with the rest of a commit switched and over (R170, R186, R187). -/
def State.enterHold (before s : State) : State := (State.noticeRises before s.switchAtHold).endCommit

theorem State.enterHold_lasting (before : State) : (State.enterHold before s).link.lasting = s.link.lasting :=
  ((State.endCommit_lasting _).trans (State.noticeRises_lasting _ _)).trans s.switchAtHold_lasting

theorem State.enterHold_commit (before : State) : (State.enterHold before s).tables.commit = none := by
  refine State.endCommit_commit _ fun c hc => s.switchAtHold_switched c ?_
  rwa [State.noticeRises_tables] at hc

theorem State.enterHold_cancelled (before : State) {x : State} (h : x.cancelled s) : x.cancelled (State.enterHold before s) := by
  have hgestures : (State.enterHold before s).gestures = s.switchAtHold.gestures :=
    (State.endCommit_gestures _).trans (State.noticeRises_gestures _ _)
  have hmotion : (State.enterHold before s).motion = s.motion := by simp [State.enterHold, State.switchAtHold]
  rw [s.switchAtHold_gestures] at hgestures
  exact h.keep (congrArg Gestures.contexts hgestures :) (congrArg Gestures.penInk hgestures :)
    (congrArg Gestures.inHand hgestures :) (congrArg Gestures.digests hgestures :) hmotion

theorem State.stopDone_cancelled {x : State} (h : x.cancelled s) : x.cancelled s.stopDone := by
  unfold State.stopDone
  split
  · exact h
  · exact h.keep (by simp) (by simp) (by simp) (by simp) (by simp)

/-- STOP's DONE, when it is owed, is made (R186). -/
theorem State.stopDone_answers {tag : Byte} (h : s.link.stopTag = some tag) :
    (⟨s.now, .reply ⟨tag, 0x06, .done, []⟩, false⟩ : Record) ∈ s.stopDone.queue ++ s.stopDone.link.waiting := by
  have heq : s.stopDone = (s.setStopTag none).done tag 0x06 [] := by simp only [State.stopDone, h]
  rw [heq]
  exact (s.setStopTag none).done_answers tag 0x06 []

end

/-! ## The obligation -/

/-- STOP in RUN (R186): both surfaces shut, the pen out. -/
theorem State.execStop_run {s : State} {tag : Byte} (htakes : s.takes) (hrun : s.link.part = .run) :
    ∃ t : State, exec (.stop tag) s = .next t ∧
      t.link.part = .stopping ∧ t.link.stopTag = some tag ∧ t.pen.mode = .out ∧ t.pen.guard = none ∧
      (∀ u, t.waitsFor u .off ∧ t.shut u = true ∧ (t.intake.get u).ready = none ∧
        (t.intake.get u).timeout = none ∧ (t.intake.get u).state = (s.intake.get u).state) ∧
      (s.pen.mode = .out → t.queue = s.queue) ∧ t.engine.op = s.engine.op ∧ t.tables = s.tables ∧
      t.gestures = s.gestures ∧ t.motion = s.motion ∧ t.tracks = s.tracks ∧ t.palm = s.palm := by
  have htaken : s.takeWrite (·.takeStop tag) =
      State.noticeRises (s.setLinkOut .zeros) ((s.setLinkOut .zeros).beginStop tag) := by
    refine (s.takeWrite_of_takes _ htakes).trans ?_
    have hpart : (s.setLinkOut .zeros).link.part = .run := hrun
    simp only [State.takeStop, hpart]
  refine ⟨_, congrArg Host.Outcome.next htaken, ?_⟩
  have hquiet := (s.setLinkOut .zeros).beginStop_quiet (s.setLinkOut .zeros) rfl rfl tag
  have hget := (s.setLinkOut .zeros).stopPosted_get tag
  have hwaits := (s.setLinkOut .zeros).stopPosted_waits tag
  have hlasting : (State.noticeRises (s.setLinkOut .zeros) ((s.setLinkOut .zeros).beginStop tag)).link.lasting =
      { s.link.lasting with part := .stopping, stopTag := some tag } :=
    (State.noticeRises_lasting _ _).trans (State.penForcedExit_lasting _)
  have hqueue (hmode : s.pen.mode = .out) : ((s.setLinkOut .zeros).beginStop tag).queue = s.queue :=
    (congrArg State.queue (((s.setLinkOut .zeros).stopPosted tag).penForcedExit_of_out hmode) :)
  have hframe := State.noticeRises_frame ((s.setLinkOut .zeros).beginStop tag) (s.setLinkOut .zeros)
  have hbegun : (s.setLinkOut .zeros).beginStop tag = _ := ((s.setLinkOut .zeros).stopPosted tag).penForcedExit_frame
  generalize State.noticeRises (s.setLinkOut .zeros) ((s.setLinkOut .zeros).beginStop tag) = t at *
  generalize (s.setLinkOut .zeros).beginStop tag = x at *
  have hkept : t = { (s.setLinkOut .zeros).stopPosted tag with
      pen := { s.pen with mode := .out, coast := 0, guard := none }, queue := t.queue, link := t.link } := by
    rw [hframe, hbegun]
    rfl
  have hintake : t.intake = ((s.setLinkOut .zeros).stopPosted tag).intake := (congrArg State.intake hkept :)
  have hengine : t.engine = ((s.setLinkOut .zeros).stopPosted tag).engine := (congrArg State.engine hkept :)
  have hpen : t.pen = { s.pen with mode := .out, coast := 0, guard := none } := (congrArg State.pen hkept :)
  have hwaits' (u : Surface) : t.waitsFor u .off := by
    unfold State.waitsFor
    rw [hengine]
    exact hwaits u
  refine ⟨(congrArg Link.part hlasting :), (congrArg Link.stopTag hlasting :), (congrArg PenTracker.mode hpen :),
    (congrArg PenTracker.guard hpen :), fun u => ⟨hwaits' u, t.shut_of_waitsFor (hwaits' u), ?_⟩,
    fun hmode => (congrArg State.queue (hquiet hmode) :).trans (hqueue hmode), (congrArg Engine.op hengine :),
    (congrArg State.tables hkept :), (congrArg State.gestures hkept :), (congrArg State.motion hkept :),
    (congrArg State.tracks hkept :), (congrArg State.palm hkept :)⟩
  rw [hintake, hget]
  exact ⟨rfl, rfl, rfl⟩

/-- A drained stop completes (R186). -/
theorem State.execStopComplete_drained {s : State} {tag : Byte} (hpart : s.link.part = .stopping) (hop : s.engine.op = none)
    (htag : s.link.stopTag = some tag) (hclosing : ¬ ∃ w ∈ s.engine.waitList, ∃ o, w.work = .closing o)
    (hlist : s.gestures.contexts.length = 6) (hmotion : s.motionHeld) :
    ∃ t : State, exec .stopComplete s = .next t ∧ t.link.part = .hold ∧ t.link.stopTag = none ∧
      s.cancelled t ∧ t.tables.commit = none ∧
      (⟨s.now, .reply ⟨tag, 0x06, .done, []⟩, false⟩ : Record) ∈ t.queue ++ t.link.waiting := by
  have hdrained : s.drained = true := by
    have hnone (u : Surface) : s.closingWaits u = false := by
      refine Bool.eq_false_iff.mpr fun h => ?_
      obtain ⟨w, hw, hwaits⟩ := List.any_eq_true.mp h
      obtain ⟨-, o, ho⟩ := WaitItem.isClosing_iff.mp hwaits
      exact hclosing ⟨w, hw, o, ho⟩
    simp [State.drained, hop, hnone]
  refine ⟨s.completeStop, congrArg Host.Outcome.next (if_pos ⟨hpart, hdrained⟩), ?_⟩
  have hcancelled := s.cancelled_generalCancel hlist hmotion
  have hlasting := s.generalCancel_lasting
  have hnow : s.generalCancel.now = s.now := s.generalCancel_now
  have hstop : s.completeStop = (State.enterHold s (s.generalCancel.setPart .hold)).stopDone := rfl
  rw [hstop]
  generalize s.generalCancel = x at *
  have hheld : s.cancelled (x.setPart .hold) := hcancelled.keep rfl rfl rfl rfl rfl
  have hentered := State.enterHold_cancelled _ s hheld
  have hover := (x.setPart .hold).enterHold_commit s
  have hnow' : (State.enterHold s (x.setPart .hold)).now = s.now := by simp [State.enterHold, State.switchAtHold, hnow]
  have hlink : (State.enterHold s (x.setPart .hold)).link.lasting = { s.link.lasting with part := .hold } :=
    ((x.setPart .hold).enterHold_lasting s).trans (congrArg (fun l : Link => { l with part := .hold }) hlasting)
  generalize State.enterHold s (x.setPart .hold) = y at *
  have hdone := y.stopDone_lasting
  have hanswer := y.stopDone_answers (((congrArg Link.stopTag hlink :) : y.link.stopTag = s.link.stopTag).trans htag)
  rw [hlink] at hdone
  rw [hnow'] at hanswer
  exact ⟨(congrArg Link.part hdone :), (congrArg Link.stopTag hdone :), y.stopDone_cancelled hentered,
    (congrArg TableStore.commit y.stopDone_tables).trans hover, hanswer⟩

theorem State.stopComplete_not_due {s : State} (h : s.link.part ≠ .stopping ∨ s.engine.op ≠ none ∨
    ∃ w ∈ s.engine.waitList, ∃ o, w.work = .closing o) : exec .stopComplete s = .next s := by
  refine congrArg Host.Outcome.next (if_neg ?_)
  rintro ⟨hpart, hdrained⟩
  simp only [State.drained, Bool.and_eq_true, Bool.not_eq_true', Option.isNone_iff_eq_none] at hdrained
  obtain ⟨⟨hop, hpad⟩, hpanel⟩ := hdrained
  obtain hother | hbusy | ⟨w, hw, o, ho⟩ := h
  · exact hother hpart
  · exact hbusy hop
  · have hwaits : s.closingWaits w.surface = true := List.any_eq_true.mpr ⟨w, hw, WaitItem.isClosing_iff.mpr ⟨rfl, o, ho⟩⟩
    cases hu : w.surface with
    | pad => rw [hu, hpad] at hwaits; cases hwaits
    | panel => rw [hu, hpanel] at hwaits; cases hwaits

/-- Settles O51: RUN and STOP by the part state, and the completion of a stop. -/
theorem runAndStopChangeThePartState : Obligations.RunAndStopChangeThePartState := by
  refine ⟨fun s tag htakes => ⟨fun hpart => State.takeWrite_next htakes ?_, fun hpart => State.takeWrite_next htakes ?_,
    fun hpart => State.execRun_hold htakes hpart⟩, fun s tag htakes => ⟨fun hpart => State.takeWrite_next htakes ?_,
    fun hpart => State.takeWrite_next htakes ?_, fun hpart => State.execStop_run htakes hpart⟩,
    fun s tag hpart hop htag hclosing hlist hmotion => ?_, fun s h => State.stopComplete_not_due h⟩
  · have hpart' : (s.setLinkOut .zeros).link.part = .run := hpart
    simp only [State.takeRun, hpart']
    exact State.done_of_takes htakes _ _ _
  · have hpart' : (s.setLinkOut .zeros).link.part = .stopping := hpart
    simp only [State.takeRun, hpart']
    exact State.busy_of_takes htakes _ _
  · have hpart' : (s.setLinkOut .zeros).link.part = .hold := hpart
    simp only [State.takeStop, hpart']
    exact State.done_of_takes htakes _ _ _
  · have hpart' : (s.setLinkOut .zeros).link.part = .stopping := hpart
    simp only [State.takeStop, hpart']
    exact State.busy_of_takes htakes _ _
  · obtain ⟨t, hexec, hhold, hstop, ⟨hcontexts, hink, hhand, hdigests, hpointer, hbuttons⟩, hover, hanswer⟩ :=
      State.execStopComplete_drained hpart hop htag hclosing hlist hmotion
    exact ⟨t, hexec, hhold, hstop, hcontexts, hink, hhand, hdigests, hpointer, hbuttons, hover, _, hanswer, rfl⟩

end Sys2Proof.Machine

/-! ABORT (11.5): O52. -/

namespace Sys2Proof.Machine

/-! ## Track tables without an open track (R18, R63) -/

namespace TrackTable
variable {t : TrackTable}

theorem closed_put (h : ∀ u, t.closed u) (n : Nat) {v : Option Track} (hv : ∀ y, v = some y → y.open_ = false) (u : Surface) :
    (t.put n v).closed u := by
  intro r hr y hy
  rw [put, PerSurface.get_set] at hr
  split at hr
  · obtain hold | rfl := List.mem_or_eq_of_mem_set hr
    · exact h _ r hold y hy
    · exact hv y hy
  · exact h u r hr y hy

theorem closed_announce (h : ∀ u, t.closed u) (e : ContactEntry) (u : Surface) : (t.announce e).closed u := by
  have hon (f : Track → Option Track) (hf : ∀ x y, f x = some y → y.open_ = x.open_) : (t.onTrack e.track f).closed u := by
    obtain ⟨x, hx, -, heq⟩ | ⟨-, heq⟩ := t.onTrack_cases e.track f <;> rw [heq]
    · exact closed_put h _ (fun y hy => (hf x y hy).trans (h _ _ (List.mem_of_getElem? (at_eq_some.mp hx)) x rfl)) u
    · exact h u
  unfold announce
  split
  · exact hon _ fun x y hy => by cases hy; rfl
  · exact h u
  · exact hon _ fun x y hy => nomatch hy

theorem closed_of_ownersOff {t' : TrackTable} {u : Surface} (h : t.closed u)
    (hslots : ownersOff (t'.slots.get u) = ownersOff (t.slots.get u)) : t'.closed u := by
  intro r hr x hx
  have hmem : some { x with owner := none } ∈ ownersOff (t'.slots.get u) := List.mem_map.mpr ⟨r, hr, by rw [hx]; rfl⟩
  rw [hslots] at hmem
  obtain ⟨r', hr', heq⟩ := List.mem_map.mp hmem
  obtain ⟨y, rfl, hy⟩ := Option.map_eq_some_iff.mp heq
  have hopen : Track.open_ { y with owner := none } = false := h _ hr' y rfl
  rw [hy] at hopen
  exact hopen

theorem announce_counters (e : ContactEntry) : (t.announce e).nextId = t.nextId ∧ (t.announce e).overflow = t.overflow := by
  unfold announce
  split
  · exact onTrack_nextId _ _ _
  · exact ⟨rfl, rfl⟩
  · exact onTrack_nextId _ _ _

/-- The second table has the first's counters, and no open track when the first has none. -/
def staysClosed (t t' : TrackTable) : Prop :=
  t'.nextId = t.nextId ∧ t'.overflow = t.overflow ∧ ((∀ u, t.closed u) → ∀ u, t'.closed u)

theorem staysClosed.trans {t' t'' : TrackTable} (h : t.staysClosed t') (h' : t'.staysClosed t'') : t.staysClosed t'' := by
  obtain ⟨hnext, hoverflow, hclosed⟩ := h
  obtain ⟨hnext', hoverflow', hclosed'⟩ := h'
  exact ⟨hnext'.trans hnext, hoverflow'.trans hoverflow, fun hall => hclosed' (hclosed hall)⟩

theorem staysClosed_announced (es : List ContactEntry) (t : TrackTable) : t.staysClosed (es.foldl announce t) := by
  induction es generalizing t with
  | nil => exact ⟨rfl, rfl, id⟩
  | cons e es ih =>
    obtain ⟨hnext, hoverflow⟩ := t.announce_counters e
    exact staysClosed.trans ⟨hnext, hoverflow, fun h => closed_announce h e⟩ (ih _)

end TrackTable

/-! ## ABORT's steps 1 to 4 (R187) -/

section
variable (s : State)

theorem State.enterState_frame (u : Surface) (st : SurfaceState) : s.enterState u st = { s with
    intake := (s.enterState u st).intake, queue := (s.enterState u st).queue, link := (s.enterState u st).link } := by
  by_cases h : (s.intake.get u).state = st
  · rw [State.enterState_of_same s h]
    rfl
  · rw [State.enterState_of_change s h]
    obtain ⟨-, heq⟩ | ⟨-, heq⟩ := State.offerNotice_cases (s.onIntake u fun i => { i with
        state := st, timeout := if st == .off || st == .failed then none else i.timeout })
      (.surface (s.onIntake u fun i => { i with state := st, timeout := if st == .off || st == .failed then none else i.timeout }).intake.pad.state
        (s.onIntake u fun i => { i with state := st, timeout := if st == .off || st == .failed then none else i.timeout }).intake.panel.state
        (u == .pad) (u == .panel)) <;>
      rw [State.surfaceNotice, heq] <;> rfl

theorem State.enterState_lasting (u : Surface) (st : SurfaceState) : (s.enterState u st).link.lasting = s.link.lasting := by
  by_cases h : (s.intake.get u).state = st
  · rw [State.enterState_of_same s h]
    rfl
  · rw [State.enterState_of_change s h]
    exact State.offerNotice_lasting _ _

theorem State.enterState_other {u v : Surface} (st : SurfaceState) (h : v ≠ u) : (s.enterState u st).intake.get v = s.intake.get v := by
  by_cases hsame : (s.intake.get u).state = st
  · rw [State.enterState_of_same s hsame]
    exact (PerSurface.get_set _ _ _ _).trans (if_neg h)
  · rw [State.enterState_of_change s hsame]
    exact (congrArg (fun p : PerSurface Intake => p.get v) (State.offerNotice_intake _ _)).trans
      ((PerSurface.get_set _ _ _ _).trans (if_neg h))

theorem State.windDown_frame : s.windDown = { s.wound with
    intake := s.windDown.intake, queue := s.windDown.queue, link := s.windDown.link } := by
  have hpad := s.wound.enterState_frame .pad .off
  have hpanel := (s.wound.enterState .pad .off).enterState_frame .panel .off
  have hall : s.windDown = (s.wound.enterState .pad .off).enterState .panel .off := rfl
  rw [← hall] at hpanel
  generalize s.wound.enterState .pad .off = x at *
  generalize s.windDown = y at *
  rw [hpanel, hpad]

theorem State.windDown_lasting : s.windDown.link.lasting = s.link.lasting :=
  (State.enterState_lasting _ _ _).trans (State.enterState_lasting _ _ _)

theorem State.windDown_get (u : Surface) : s.windDown.intake.get u =
    { s.intake.get u with ready := none, state := .off, timeout := none } := by
  have hall : s.windDown = (s.wound.enterState .pad .off).enterState .panel .off := rfl
  rw [hall]
  cases u with
  | pad => rw [State.enterState_other (u := .panel) (v := .pad) _ _ (by decide), State.enterState_get]; rfl
  | panel => rw [State.enterState_get, State.enterState_other (u := .pad) (v := .panel) _ _ (by decide)]; rfl

theorem State.wound_closed (u : Surface) : s.wound.tracks.closed u := by
  intro r hr x hx
  rw [wound_slots] at hr
  obtain ⟨r', -, rfl⟩ := List.mem_map.mp hr
  exact closeSlot_open hx

theorem State.wound_base (u : Surface) : s.wound.base.get u = { s.base.get u with acquired := 0, drift := 0 } := by
  cases u <;> rfl

/-! ## ABORT's steps 5 to 8 (R187) -/

theorem State.abortReport_frame (u : Surface) : s.abortReport u = { s with
    tracks := (s.abortReport u).tracks, queue := (s.abortReport u).queue } ∧ s.tracks.staysClosed (s.abortReport u).tracks := by
  unfold State.abortReport
  split
  · obtain ⟨-, heq⟩ | ⟨-, heq⟩ := s.offerContact_cases s.now ⟨u, .abort, s.tracks.entries u⟩ <;> rw [State.reportContacts, heq]
    · exact ⟨rfl, TrackTable.staysClosed_announced _ _⟩
    · exact ⟨rfl, rfl, rfl, id⟩
  · exact ⟨rfl, rfl, rfl, id⟩

/-- What the CONTACT reports, the pen and the cancellation of a winding part leave. -/
def State.windsUp (s t : State) : Prop :=
  t.engine = s.engine ∧ t.palm = s.palm ∧ t.intake = s.intake ∧ t.base = s.base ∧ t.blobOverflow = s.blobOverflow ∧
    t.now = s.now ∧ t.posture = s.posture ∧ t.angle = s.angle ∧ s.tracks.staysClosed t.tracks ∧
    t.pen = { s.pen with mode := .out, coast := 0, guard := none } ∧ t.link.lasting = s.link.lasting ∧
    t.gestures.serial = s.gestures.serial ∧ t.gestures.watch = s.gestures.watch

theorem State.windsUp_reported : s.windsUp ((s.abortReport .pad).abortReport .panel).penForcedExit := by
  obtain ⟨hpad, hclosed⟩ := s.abortReport_frame .pad
  obtain ⟨hpanel, hclosed'⟩ := (s.abortReport .pad).abortReport_frame .panel
  have hpen := ((s.abortReport .pad).abortReport .panel).penForcedExit_frame
  have hlasting := ((s.abortReport .pad).abortReport .panel).penForcedExit_lasting
  have htracks := hclosed.trans hclosed'
  generalize ((s.abortReport .pad).abortReport .panel).penForcedExit = z at *
  generalize (s.abortReport .pad).abortReport .panel = y at *
  have hy : y = { s with tracks := y.tracks, queue := y.queue } := by rw [hpanel, hpad]
  have hz : z = { s with
      tracks := y.tracks, pen := { s.pen with mode := .out, coast := 0, guard := none }, queue := z.queue, link := z.link } := by
    rw [hpen, hy]
  have hlink : y.link.lasting = s.link.lasting := by rw [hy]
  have hztracks : z.tracks = y.tracks := (congrArg State.tracks hz :)
  exact ⟨(congrArg State.engine hz :), (congrArg State.palm hz :), (congrArg State.intake hz :), (congrArg State.base hz :),
    (congrArg State.blobOverflow hz :), (congrArg State.now hz :), (congrArg State.posture hz :), (congrArg State.angle hz :),
    hztracks ▸ htracks, (congrArg State.pen hz :), hlasting.trans hlink, (congrArg (fun s : State => s.gestures.serial) hz :),
    (congrArg (fun s : State => s.gestures.watch) hz :)⟩

theorem State.windsUp.cancel {s t : State} (h : s.windsUp t) : s.windsUp t.generalCancel := by
  obtain ⟨hengine, hpalm, hintake, hbase, hover, hnow, hposture, hangle, htracks, hpen, hlink, hserial, hwatch⟩ := h
  have hlasting := t.generalCancel_lasting
  have hapart := t.cancelContexts_apart
  obtain ⟨-, -, hnow', -, hintake', hover', hengine', hbase', hnext, hoverflow, hslots, hpalm', hpen', hposture', hangle', -⟩ :=
    (t.cancelContexts_moves (held := False) nofun).keeps
  have hclosed : t.tracks.staysClosed t.cancelContexts.tracks :=
    ⟨hnext, hoverflow, fun hall u => TrackTable.closed_of_ownersOff (hall u) (hslots u)⟩
  unfold State.generalCancel at *
  generalize t.cancelContexts = x at *
  have hkept : s.windsUp x := ⟨hengine'.trans hengine, hpalm'.trans hpalm, hintake'.trans hintake, hbase'.trans hbase,
    hover'.trans hover, hnow'.trans hnow, hposture'.trans hposture, hangle'.trans hangle, htracks.trans hclosed,
    hpen'.trans hpen, (by revert hlasting; dsimp only; split <;> exact fun h => h.trans hlink),
    (congrArg Gestures.serial hapart :).trans hserial, (congrArg Gestures.watch hapart :).trans hwatch⟩
  dsimp only
  split <;> exact hkept

/-! ## The rest of a commit, in a part at rest (R170) -/

/-- A part in HOLD with an idle frame engine, both surfaces OFF and the pen OUT. -/
def State.atRest (s : State) : Prop :=
  s.link.part = .hold ∧ s.engine = ⟨[], none⟩ ∧ (∀ u, (s.intake.get u).state = .off) ∧
    s.pen = { s.pen with mode := .out, coast := 0, guard := none }

theorem State.applySurface_of_rest (h : s.atRest) (e : PostureEntry) (u : Surface) : s.applySurface e u = s := by
  obtain ⟨hpart, hengine, hoff, -⟩ := h
  have hnone : s.closings u .acquire = false := by simp [State.closings, hengine]
  unfold State.applySurface State.enableSurface State.disableSurface
  split
  · rw [if_neg (by rw [hpart]; exact nofun)]
  · rw [if_pos ⟨hoff u, hnone⟩]

/-- A posture's entry finds nothing to change in a part at rest. -/
theorem State.applyEntry_of_rest (h : s.atRest) : s.applyEntry = s := by
  obtain ⟨-, -, -, hpen⟩ := id h
  unfold State.applyEntry
  dsimp only
  rw [s.applySurface_of_rest h, s.applySurface_of_rest h]
  split
  · rfl
  · rw [s.penForcedExit_of_out (congrArg PenTracker.mode hpen :), ← hpen]

theorem State.switchAtHold_of_rest (h : s.atRest) : s.switchAtHold = { s with
    tables := s.switchAtHold.tables
    gestures := { s.gestures with switchWaiting := s.switchAtHold.gestures.switchWaiting } } := by
  have hentry (τ : TableStore) : { s with tables := τ }.applyEntry = { s with tables := τ } :=
    State.applyEntry_of_rest { s with tables := τ } h
  have hside : s.switchFrameSide = { s with tables := s.switchFrameSide.tables } := by
    unfold State.switchFrameSide
    split
    · rfl
    · split
      · rfl
      · dsimp only
        split
        · rw [hentry]
        · rfl
  unfold State.switchAtHold State.switchProgram
  generalize s.switchFrameSide = x at *
  split
  · rw [hside]
    rfl
  · rw [hside]

theorem State.done_frame (tag c : Byte) (b : List Byte) : s.done tag c b = { s with
    queue := (s.done tag c b).queue, link := (s.done tag c b).link } := by
  obtain ⟨-, heq⟩ | ⟨-, heq⟩ := s.offerReply_cases ⟨tag, c, .done, b⟩ <;> rw [State.done, heq]
  rfl

theorem State.endCommit_frame : s.endCommit = { s with
    tables := s.endCommit.tables, queue := s.endCommit.queue, link := s.endCommit.link } := by
  unfold State.endCommit
  split
  · rfl
  · dsimp only
    split
    · rw [State.done_frame]
    · rfl

theorem State.stopDone_frame : s.stopDone = { s with queue := s.stopDone.queue, link := s.stopDone.link } := by
  unfold State.stopDone
  split
  · rfl
  · rw [State.done_frame]
    rfl

theorem State.enterHold_of_rest (before : State) (h : s.atRest) : State.enterHold before s = { s with
    tables := (State.enterHold before s).tables
    gestures := { s.gestures with switchWaiting := (State.enterHold before s).gestures.switchWaiting }
    queue := (State.enterHold before s).queue, link := (State.enterHold before s).link } := by
  have hswitch := s.switchAtHold_of_rest h
  have hnotice := s.switchAtHold.noticeRises_frame before
  have hend := (State.noticeRises before s.switchAtHold).endCommit_frame
  have hall : State.enterHold before s = (State.noticeRises before s.switchAtHold).endCommit := rfl
  rw [← hall] at hend
  generalize State.enterHold before s = z at *
  generalize State.noticeRises before s.switchAtHold = y at *
  generalize s.switchAtHold = x at *
  rw [hend, hnotice, hswitch]

/-- A reply that is in the queue, or waits, still does so behind another. -/
theorem State.done_keeps {r : Record} (tag c : Byte) (b : List Byte) (h : r ∈ s.queue ++ s.link.waiting) :
    r ∈ (s.done tag c b).queue ++ (s.done tag c b).link.waiting := by
  obtain ⟨-, heq⟩ | ⟨-, heq⟩ := s.offerReply_cases ⟨tag, c, .done, b⟩ <;> rw [State.done, heq] <;>
    simp only [State.enqueue, List.mem_append] at h ⊢ <;> tauto

theorem State.windsUp.wound {t : State} (h : s.windDown.windsUp t) :
    t.engine = ⟨[], none⟩ ∧ t.palm = [] ∧ t.pen = { s.pen with mode := .out, coast := 0, guard := none } ∧ t.now = s.now ∧
      t.tracks.nextId = s.tracks.nextId ∧ t.tracks.overflow = s.tracks.overflow ∧ t.link.lasting = s.link.lasting ∧
      t.gestures.serial = s.gestures.serial ∧ t.gestures.watch = s.gestures.watch ∧ t.posture = s.posture ∧ t.angle = s.angle ∧
      ∀ u, t.intake.get u = { s.intake.get u with ready := none, state := .off, timeout := none } ∧ t.tracks.closed u ∧
        t.base.get u = { s.base.get u with acquired := 0, drift := 0 } ∧ t.blobOverflow.get u = s.blobOverflow.get u := by
  obtain ⟨hengine, hpalm, hintake, hbase, hover, hnow, hposture, hangle, ⟨hnext, hoverflow, hclosed⟩, hpen, hlink, hserial, hwatch⟩ := h
  have hframe := s.windDown_frame
  have hget := s.windDown_get
  have hlasting := s.windDown_lasting
  have hwoundClosed := s.wound_closed
  have hwoundBase := s.wound_base
  generalize s.windDown = d at *
  have hdTracks : d.tracks = s.wound.tracks := (congrArg State.tracks hframe :)
  have hdBase : d.base = s.wound.base := (congrArg State.base hframe :)
  have hdPen : d.pen = s.pen := (congrArg State.pen hframe :)
  have hdOver : d.blobOverflow = s.blobOverflow := (congrArg State.blobOverflow hframe :)
  refine ⟨hengine.trans (congrArg State.engine hframe :), hpalm.trans (congrArg State.palm hframe :), by rw [hpen, hdPen],
    hnow.trans (congrArg State.now hframe :), hnext.trans (congrArg (fun s : State => s.tracks.nextId) hframe :),
    hoverflow.trans (congrArg (fun s : State => s.tracks.overflow) hframe :), hlink.trans hlasting,
    hserial.trans (congrArg (fun s : State => s.gestures.serial) hframe :),
    hwatch.trans (congrArg (fun s : State => s.gestures.watch) hframe :), hposture.trans (congrArg State.posture hframe :),
    hangle.trans (congrArg State.angle hframe :), fun u => ⟨?_, hclosed (hdTracks ▸ hwoundClosed) u, ?_, ?_⟩⟩
  · rw [hintake, hget]
  · rw [hbase, hdBase, hwoundBase]
  · rw [hover, hdOver]

/-- A part that ABORT has wound down, before it enters HOLD. -/
def State.abortCancelled (s : State) : State := ((s.windDown.abortReport .pad).abortReport .panel).penForcedExit.generalCancel

theorem State.abortCancelled_cancelled (hlist : s.gestures.contexts.length = 6) (hmotion : s.motionHeld) :
    s.cancelled s.abortCancelled := by
  have hgestures : ((s.windDown.abortReport .pad).abortReport .panel).penForcedExit.gestures = s.gestures := by simp
  have hmotions : ((s.windDown.abortReport .pad).abortReport .panel).penForcedExit.motion = s.motion := by simp
  unfold State.abortCancelled
  generalize ((s.windDown.abortReport .pad).abortReport .panel).penForcedExit = r at *
  have hcancelled := r.cancelled_generalCancel (hgestures ▸ hlist)
    (State.motionHeld_of_same hmotion (by rw [hgestures]) (by rw [hmotions]) (by rw [hmotions]))
  unfold State.cancelled at hcancelled ⊢
  rw [hgestures] at hcancelled
  exact hcancelled

theorem State.abortAll_eq : s.abortAll = State.enterHold s.windDown (s.abortCancelled.setPart .hold) := rfl

/-- What is left when STOP's DONE and ABORT's are made after the entry to HOLD (R187). -/
theorem State.aborted_spec (before : State) (tag : Byte) {g : State} (hengine : g.engine = ⟨[], none⟩)
    (hoff : ∀ u, (g.intake.get u).state = .off) (hpen : g.pen = { g.pen with mode := .out, coast := 0, guard := none }) :
    let t := (State.enterHold before (g.setPart .hold)).stopDone.done tag 0x07 []
    t = { g with tables := t.tables, queue := t.queue, link := t.link,
                 gestures := { g.gestures with switchWaiting := t.gestures.switchWaiting } } ∧
      t.link.lasting = { g.link.lasting with part := .hold, stopTag := none } ∧ t.tables.commit = none ∧
      (⟨g.now, .reply ⟨tag, 0x07, .done, []⟩, false⟩ : Record) ∈ t.queue ++ t.link.waiting ∧
      ∀ stopTag, g.link.stopTag = some stopTag →
        (⟨g.now, .reply ⟨stopTag, 0x06, .done, []⟩, false⟩ : Record) ∈ t.queue ++ t.link.waiting := by
  have hrest : (g.setPart .hold).atRest := ⟨rfl, hengine, hoff, hpen⟩
  have hentered := (g.setPart .hold).enterHold_of_rest before hrest
  have hover := (g.setPart .hold).enterHold_commit before
  have hlasting := (g.setPart .hold).enterHold_lasting before
  generalize State.enterHold before (g.setPart .hold) = e at *
  have hstopped := e.stopDone_frame
  have hstopLink := e.stopDone_lasting
  have hanswer {stopTag : Byte} := e.stopDone_answers (tag := stopTag)
  generalize e.stopDone = d at *
  have hdone := d.done_frame tag 0x07 []
  have hdoneLink := d.done_lasting tag 0x07 []
  have hmine := d.done_answers tag 0x07 []
  have hkeeps {r : Record} := d.done_keeps (r := r) tag 0x07 []
  generalize d.done tag 0x07 [] = t at *
  have hnow : e.now = g.now := (congrArg State.now hentered :)
  have hnow' : d.now = g.now := (congrArg State.now hstopped :).trans hnow
  have hcommit : t.tables.commit = none := by
    rw [hdone, hstopped]
    exact hover
  have hstopTag : e.link.stopTag = g.link.stopTag := (congrArg Link.stopTag hlasting :)
  refine ⟨?_, ?_, hcommit, hnow' ▸ hmine, fun stopTag htag => hkeeps (hnow ▸ hanswer (hstopTag.trans htag))⟩
  · have hg : e = { g with
        tables := e.tables, queue := e.queue, link := e.link,
        gestures := { g.gestures with switchWaiting := e.gestures.switchWaiting } } := hentered
    rw [hdone, hstopped, hg]
  · rw [hdoneLink, hstopLink, hlasting]
    rfl

end

/-! ## The obligation -/

/-- Settles O52: ABORT's steps, the switch at HOLD finding a part at rest. -/
theorem abortsWindDownAtOnce : Obligations.AbortsWindDownAtOnce := by
  intro s tag htakes
  refine ⟨fun hpart => State.takeWrite_next htakes ?_, fun hpart hlist hmotion => ?_⟩
  · have hpart' : (s.setLinkOut .zeros).link.part = .hold := hpart
    simp only [State.takeAbort, hpart']
    exact State.done_of_takes htakes _ _ _
  · have htaken : s.takeWrite (·.takeAbort tag) = ((s.setLinkOut .zeros).abortAll.stopDone).done tag 0x07 [] := by
      refine (s.takeWrite_of_takes _ htakes).trans ?_
      have hpart' : (s.setLinkOut .zeros).link.part ≠ .hold := hpart
      unfold State.takeAbort
      split
      next hhold => exact absurd hhold hpart'
      · rfl
      · rfl
    refine ⟨_, congrArg Host.Outcome.next htaken, ?_⟩
    have hcancelled := (s.setLinkOut .zeros).abortCancelled_cancelled hlist hmotion
    have hwound := State.windsUp.wound _ (t := (s.setLinkOut .zeros).abortCancelled)
      (s.setLinkOut .zeros).windDown.windsUp_reported.cancel
    rw [State.abortAll_eq]
    generalize (s.setLinkOut .zeros).abortCancelled = g at *
    obtain ⟨hengine, hpalm, hpen, hnow, hnext, hoverflow, hlink, hserial, hwatch, hposture, hangle, hsurfaces⟩ := hwound
    have hspec := State.aborted_spec (s.setLinkOut .zeros).windDown tag hengine (fun u => by rw [(hsurfaces u).1])
      (by rw [hpen])
    dsimp only at hspec
    generalize (State.enterHold (s.setLinkOut .zeros).windDown (g.setPart .hold)).stopDone.done tag 0x07 [] = t at hspec ⊢
    obtain ⟨hframe, hlasting, hcommit, hmine, hstops⟩ := hspec
    rw [hlink] at hlasting
    have hgestures : t.gestures = { g.gestures with switchWaiting := t.gestures.switchWaiting } := (congrArg State.gestures hframe :)
    obtain ⟨hcontexts, hink, hhand, hdigests, hpointer, hbuttons⟩ := hcancelled.keep
      (congrArg Gestures.contexts hgestures :) (congrArg Gestures.penInk hgestures :) (congrArg Gestures.inHand hgestures :)
      (congrArg Gestures.digests hgestures :) (congrArg State.motion hframe :)
    have hintake : t.intake = g.intake := (congrArg State.intake hframe :)
    have htracks : t.tracks = g.tracks := (congrArg State.tracks hframe :)
    have hbase : t.base = g.base := (congrArg State.base hframe :)
    have hover : t.blobOverflow = g.blobOverflow := (congrArg State.blobOverflow hframe :)
    have hstopTag : g.link.stopTag = s.link.stopTag := (congrArg Link.stopTag hlink :)
    refine ⟨(congrArg State.engine hframe :).trans hengine, (congrArg State.palm hframe :).trans hpalm,
      (congrArg State.pen hframe :).trans hpen, hcontexts, hink, hhand, hdigests, hpointer, hbuttons,
      (congrArg Link.part hlasting :), (congrArg Link.stopTag hlasting :), hcommit, (congrArg State.now hframe :).trans hnow,
      (congrArg TrackTable.nextId htracks).trans hnext, (congrArg TrackTable.overflow htracks).trans hoverflow,
      (congrArg Link.badWrites hlasting :), (congrArg Link.droppedWrites hlasting :), (congrArg Link.cause hlasting :),
      (congrArg Link.resetSeen hlasting :), (congrArg Gestures.serial hgestures :).trans hserial,
      (congrArg Gestures.watch hgestures :).trans hwatch, (congrArg State.posture hframe :).trans hposture,
      (congrArg State.angle hframe :).trans hangle, ?_, ⟨_, hnow ▸ hmine, rfl⟩, fun stopTag htag =>
      ⟨_, hnow ▸ hstops stopTag (hstopTag.trans htag), rfl⟩⟩
    rw [hintake, htracks, hbase, hover]
    exact hsurfaces

end Sys2Proof.Machine

/-! What a posture's entry does to the surfaces (07.4, 01.5): O38. -/

namespace Sys2Proof.Machine

/-! ## What a surface has of the part -/

/-- The wait items of a surface. -/
def State.itemsOf (s : State) (u : Surface) : List WaitItem := s.engine.waitList.filter fun w => w.surface == u

/-- The closings of a surface in flight are the same. -/
def State.sameFor (s t : State) (u : Surface) : Prop :=
  t.intake.get u = s.intake.get u ∧ t.itemsOf u = s.itemsOf u ∧
    ∀ out, t.engine.op.any (·.closes u out) = s.engine.op.any (·.closes u out)

theorem State.sameFor_of_same {s t : State} (hintake : t.intake = s.intake) (hengine : t.engine = s.engine) (u : Surface) :
    s.sameFor t u := by
  rw [State.sameFor, State.itemsOf, State.itemsOf, hintake, hengine]
  exact ⟨rfl, rfl, fun _ => rfl⟩

theorem State.sameFor.trans {s t x : State} {u : Surface} (h : s.sameFor t u) (h' : t.sameFor x u) : s.sameFor x u := by
  obtain ⟨hintake, hitems, hop⟩ := h
  obtain ⟨hintake', hitems', hop'⟩ := h'
  exact ⟨hintake'.trans hintake, hitems'.trans hitems, fun out => (hop' out).trans (hop out)⟩

theorem State.closings_eq (s : State) (u : Surface) (out : ClosingOutcome) :
    s.closings u out = ((s.itemsOf u).any (·.work == .closing out) || s.engine.op.any (·.closes u out)) := by
  rw [State.closings, State.itemsOf, List.any_filter]

theorem State.sameFor.closings {s t : State} {u : Surface} (h : s.sameFor t u) (out : ClosingOutcome) :
    t.closings u out = s.closings u out := by
  obtain ⟨-, hitems, hop⟩ := h
  rw [State.closings_eq, State.closings_eq, hitems, hop]

theorem State.waitsFor_iff_itemsOf {s : State} {u : Surface} {out : ClosingOutcome} :
    s.waitsFor u out ↔ ∃ w ∈ s.itemsOf u, w.work = .closing out := by
  simp only [State.waitsFor, State.itemsOf, List.mem_filter, beq_iff_eq, and_assoc]

theorem State.sameFor.waitsFor {s t : State} {u : Surface} (h : s.sameFor t u) {out : ClosingOutcome} (hs : s.waitsFor u out) :
    t.waitsFor u out := by
  obtain ⟨-, hitems, -⟩ := h
  rw [State.waitsFor_iff_itemsOf] at hs ⊢
  rwa [hitems]

/-! ## The surface that an action does not name -/

theorem turnWaiting_surface (u : Surface) (w : WaitItem) : (turnWaiting u w).surface = w.surface := by
  unfold turnWaiting
  split <;> rfl

section
variable (s : State) {u v : Surface} (hne : v ≠ u)
include hne

/-- A map that changes only another surface's items changes nothing of this one's. -/
theorem filter_surface_map {f : WaitItem → WaitItem} (hsurface : ∀ w, (f w).surface = w.surface)
    (hother : ∀ w, w.surface ≠ u → f w = w) (l : List WaitItem) :
    (l.map f).filter (fun w => w.surface == v) = l.filter fun w => w.surface == v := by
  have hcomp : (fun w : WaitItem => w.surface == v) ∘ f = fun w => w.surface == v :=
    funext fun w => congrArg (· == v) (hsurface w)
  rw [List.filter_map, hcomp]
  refine (List.map_congr_left fun w hw => ?_).trans (List.map_id _)
  have hv : w.surface = v := by simpa using (List.mem_filter.mp hw).2
  exact hother w (hv ▸ hne)

theorem filter_surface_posted (l : List WaitItem) (now : Time) (o : ClosingOutcome) :
    (postedList l now u o).filter (fun w => w.surface == v) = l.filter fun w => w.surface == v := by
  have hframe : (l.filter fun w => !w.isFrame u).filter (fun w => w.surface == v) = l.filter fun w => w.surface == v := by
    rw [List.filter_filter]
    refine List.filter_congr fun w _ => ?_
    by_cases hw : w.surface = v
    · have hnot : w.isFrame u = false := by
        refine Bool.eq_false_iff.mpr fun h => hne ?_
        rw [← hw]
        exact (WaitItem.isFrame_iff.mp h).1
      simp [hw, hnot]
    · simp [hw]
  unfold postedList
  dsimp only
  split
  · rw [filter_surface_map hne mergeClosing_surface fun w => mergeClosing_other, hframe]
  · rw [List.filter_append, hframe]
    simp [Ne.symm hne]

theorem turnInFlight_closes_other (o : Operation) (out : ClosingOutcome) : (turnInFlight u o).closes v out = o.closes v out := by
  unfold turnInFlight
  split
  · split
    next hu =>
      have hv : (o.surface == v) = false := by simpa [hu] using Ne.symm hne
      simp [Operation.closes, hv]
    · rfl
  · rfl

theorem State.enterAcquire_sameFor : s.sameFor (s.enterAcquire u false) v := by
  rw [s.enterAcquire_frame u]
  exact ⟨(PerSurface.get_set _ _ _ _).trans (if_neg hne), rfl, fun _ => rfl⟩

theorem State.applySurface_other (e : PostureEntry) : s.sameFor (s.applySurface e u) v := by
  have hsame : s.sameFor s v := State.sameFor_of_same rfl rfl v
  unfold State.applySurface State.enableSurface State.disableSurface
  split
  · split
    · split
      · refine ⟨rfl, filter_surface_map hne (turnWaiting_surface u) (fun w hw => if_neg fun h => hw h.1) _, fun out => ?_⟩
        cases s.engine.op with
        | none => rfl
        | some o => exact turnInFlight_closes_other hne o out
      · split
        · exact s.enterAcquire_sameFor hne
        · exact hsame
    · exact hsame
  · split
    · exact hsame
    · rw [s.postClosing_off u]
      exact ⟨(PerSurface.get_set _ _ _ _).trans (if_neg hne), filter_surface_posted hne _ _ _, fun _ => rfl⟩

end

/-! ## The surface that an action names (R114 to R116) -/

/-- What an entry does to a surface, the action taken on `s` and its outcome `t`. -/
def State.surfaceApplied (s t : State) (e : PostureEntry) (u : Surface) : Prop :=
  (e.enablesSurface u = false →
      ((s.intake.get u).state ≠ .off ∨ s.closings u .acquire = true →
        t.waitsFor u .off ∧ t.intake.get u = { s.intake.get u with ready := none, timeout := none }) ∧
      ((s.intake.get u).state = .off → s.closings u .acquire = false → t.intake.get u = s.intake.get u)) ∧
    (e.enablesSurface u = true →
      (s.link.part = .run → s.offClosings u = true → t.offClosings u = false) ∧
      (s.link.part = .run → s.offClosings u = false → (s.intake.get u).state = .off → t.intake.get u = s.acquiring u) ∧
      (s.link.part = .run → s.offClosings u = false → t.itemsOf u = s.itemsOf u) ∧
      (s.link.part ≠ .run ∨ s.offClosings u = true ∨ (s.intake.get u).state ≠ .off → t.intake.get u = s.intake.get u))

section
variable (s : State) (u : Surface)

/-- Turned closings are OFF no more (R13). -/
theorem turned_not_off (w : WaitItem) (h : (turnWaiting u w).surface = u) : (turnWaiting u w).work ≠ .closing .off := by
  unfold turnWaiting at h ⊢
  split
  · exact fun h => nomatch h
  next hnot => exact fun hwork => hnot ⟨by rwa [if_neg hnot] at h, hwork⟩

theorem turnInFlight_closes_off (o : Operation) : (turnInFlight u o).closes u .off = false := by
  unfold turnInFlight
  split
  next key hwork =>
    split
    · simp [Operation.closes]
    next hu => simp [Operation.closes, hu]
  next hother =>
    refine Bool.eq_false_iff.mpr fun h => ?_
    simp only [Operation.closes, Bool.and_eq_true] at h
    obtain ⟨-, hwork⟩ := h
    split at hwork
    next key x hkey => exact hother key (by rw [hkey, beq_iff_eq.mp hwork])
    · cases hwork

theorem State.applySurface_applied (e : PostureEntry) : s.surfaceApplied (s.applySurface e u) e u := by
  refine ⟨fun hdisabled => ?_, fun henabled => ?_⟩
  · have hdisable : s.applySurface e u = s.disableSurface u := if_neg (by rw [hdisabled]; exact nofun)
    rw [hdisable]
    unfold State.disableSurface
    refine ⟨fun hopen => ?_, fun hoff hnone => by rw [if_pos ⟨hoff, hnone⟩]⟩
    have hposted : ¬ ((s.intake.get u).state = .off ∧ s.closings u .acquire = false) := by
      rintro ⟨hoff, hnone⟩
      obtain h | h := hopen
      · exact h hoff
      · rw [hnone] at h
        cases h
    rw [if_neg hposted]
    exact ⟨closingIn_posted, PerSurface.get_set_same _ _ _⟩
  · have henable : s.applySurface e u = s.enableSurface u := if_pos henabled
    rw [henable]
    unfold State.enableSurface
    refine ⟨fun hrun hturn => ?_, fun hrun hnone hoff => ?_, fun hrun hnone => ?_, fun hleft => ?_⟩
    · rw [if_pos hrun, if_pos hturn, State.offClosings, State.closings, Bool.or_eq_false_iff]
      refine ⟨Bool.eq_false_iff.mpr fun h => ?_, ?_⟩
      · obtain ⟨w', hw', hwaits⟩ := List.any_eq_true.mp h
        obtain ⟨w, -, rfl⟩ := List.mem_map.mp hw'
        simp only [Bool.and_eq_true, beq_iff_eq] at hwaits
        exact turned_not_off u w hwaits.1 hwaits.2
      · cases s.engine.op with
        | none => rfl
        | some o => exact turnInFlight_closes_off u o
    · rw [if_pos hrun, if_neg (by rw [hnone]; exact nofun), if_pos hoff, s.enterAcquire_frame u]
      exact PerSurface.get_set_same _ _ _
    · rw [if_pos hrun, if_neg (by rw [hnone]; exact nofun)]
      split
      · rw [s.enterAcquire_frame u]
        rfl
      · rfl
    · split
      next hrun =>
        split
        · rfl
        next hnone =>
          split
          next hoff =>
            obtain h | h | h := hleft
            · exact absurd hrun h
            · exact absurd h hnone
            · exact absurd hoff h
          · rfl
      · rfl

end

/-! ## The whole entry (R113) -/

theorem State.surfaceApplied.of_sameFor_left {s s' t : State} {e : PostureEntry} {u : Surface} (h : s'.surfaceApplied t e u)
    (hsame : s.sameFor s' u) (hpart : s'.link.part = s.link.part) (htimeout : s'.timeoutFromNow = s.timeoutFromNow) :
    s.surfaceApplied t e u := by
  have hclosings := hsame.closings
  obtain ⟨hintake, hitems, -⟩ := hsame
  simp only [State.surfaceApplied, State.offClosings, State.acquiring, hintake, hitems, hclosings, hpart, htimeout] at h ⊢
  exact h

theorem State.surfaceApplied.of_sameFor_right {s t t' : State} {e : PostureEntry} {u : Surface} (h : s.surfaceApplied t e u)
    (hsame : t.sameFor t' u) : s.surfaceApplied t' e u := by
  have hclosings := hsame.closings
  have hwaits := hsame.waitsFor (out := .off)
  obtain ⟨hintake, hitems, -⟩ := hsame
  simp only [State.surfaceApplied, State.offClosings, hintake, hitems, hclosings] at h ⊢
  obtain ⟨hdisabled, henabled⟩ := h
  exact ⟨fun he => ⟨fun hopen => ((hdisabled he).1 hopen).imp_left hwaits, (hdisabled he).2⟩, henabled⟩

section
variable (s : State)

theorem State.applySurface_part (e : PostureEntry) (u : Surface) : (s.applySurface e u).link.part = s.link.part :=
  (congrArg Link.part (s.applySurface_lasting e u) :)

theorem State.applyEntry_surfaceApplied (u : Surface) : s.surfaceApplied s.applyEntry s.entry u := by
  have hpen : ((s.applySurface s.entry .pad).applySurface s.entry .panel).sameFor s.applyEntry u := by
    unfold State.applyEntry
    dsimp only
    split
    · exact State.sameFor_of_same rfl rfl u
    · exact State.sameFor_of_same (State.penForcedExit_intake _) (State.penForcedExit_engine _) u
  refine State.surfaceApplied.of_sameFor_right ?_ hpen
  cases u with
  | pad => exact (s.applySurface_applied .pad s.entry).of_sameFor_right (State.applySurface_other _ (by decide) _)
  | panel =>
    refine (State.applySurface_applied (s.applySurface s.entry .pad) .panel s.entry).of_sameFor_left
      (s.applySurface_other (by decide) _) (s.applySurface_part _ _) ?_
    unfold State.timeoutFromNow State.tune
    rw [State.applySurface_tables, State.applySurface_now]

theorem State.penForcedExit_pen : s.penForcedExit.pen = { s.pen with mode := .out, coast := 0, guard := none } :=
  (congrArg State.pen s.penForcedExit_frame :)

theorem State.applyEntry_pen : s.applyEntry.pen =
    if s.entry.penEnable then s.pen else { s.pen with mode := .out, coast := 0, guard := none } := by
  unfold State.applyEntry
  dsimp only
  split
  · simp
  · rw [State.penForcedExit_pen]
    simp

end

/-- A posture's new entry finds the surfaces as they were: its NOTICE changes nothing of them (R113). -/
theorem State.changePosture_applied {s : State} {p : Posture} (before : State) (tag : Byte) (b : List Byte) (u : Surface) :
    let t := (State.noticeRises before (s.changePosture p)).done tag 0x08 b
    s.surfaceApplied t (s.tables.active.postureEntry p) u ∧ t.posture = p ∧ t.angle = s.angle ∧
      t.pen = if (s.tables.active.postureEntry p).penEnable then s.pen else { s.pen with mode := .out, coast := 0, guard := none } := by
  have hnotice : { s with posture := p }.offerNotice (.posture p s.angle) = { s with
      posture := p
      queue := ({ s with posture := p }.offerNotice (.posture p s.angle)).queue
      link := ({ s with posture := p }.offerNotice (.posture p s.angle)).link } := by
    obtain ⟨-, heq⟩ | ⟨-, heq⟩ := State.offerNotice_cases { s with posture := p } (.posture p s.angle) <;> rw [heq]
    rfl
  have hpart : ({ s with posture := p }.offerNotice (.posture p s.angle)).link.part = s.link.part :=
    (congrArg Link.part (State.offerNotice_lasting { s with posture := p } (.posture p s.angle)) :)
  have hchange : s.changePosture p = ({ s with posture := p }.offerNotice (.posture p s.angle)).applyEntry := rfl
  rw [hchange]
  generalize { s with posture := p }.offerNotice (.posture p s.angle) = x at *
  have hentry : x.entry = s.tables.active.postureEntry p := by rw [hnotice]; rfl
  have hx : s.sameFor x u := State.sameFor_of_same (congrArg State.intake hnotice :) (congrArg State.engine hnotice :) u
  have hend : x.applyEntry.sameFor ((State.noticeRises before x.applyEntry).done tag 0x08 b) u :=
    State.sameFor_of_same (by simp) (by simp) u
  have happlied := ((x.applyEntry_surfaceApplied u).of_sameFor_right hend).of_sameFor_left hx hpart (by rw [hnotice]; rfl)
  rw [hentry] at happlied
  refine ⟨happlied, ?_, ?_, ?_⟩
  · simpa using (congrArg State.posture hnotice :)
  · simpa using (congrArg State.angle hnotice :)
  · have hpen : x.pen = s.pen := (congrArg State.pen hnotice :)
    simp only [State.done_pen, State.noticeRises_pen]
    rw [x.applyEntry_pen, hentry, hpen]

/-! ## The obligation -/

/-- Settles O38: a posture that changes applies its entry; neither the posture's NOTICE nor the NOTICEs and the DONE
after it touch a surface. -/
theorem posturesTurnTheirSurfaces : Obligations.PosturesTurnTheirSurfaces := by
  intro s t tag v p u htakes hv hp hexec
  have htaken : exec (.postureCode tag v) s = .next ((State.noticeRises (s.setLinkOut .zeros)
      ((s.setLinkOut .zeros).changePosture p)).done tag 0x08 ([byteOf p.code] ++ natBytes2 s.angle ++ [1])) := by
    refine State.takeWrite_next htakes ?_
    rw [State.takePostureCode, hv, Posture.ofCode_code]
    exact State.setPosture_of_change (s := s.setLinkOut .zeros) (tag := tag) hp
  have hspec := State.changePosture_applied (s := s.setLinkOut .zeros) (p := p) (s.setLinkOut .zeros) tag
    ([byteOf p.code] ++ natBytes2 s.angle ++ [1]) u
  rw [htaken] at hexec
  obtain rfl := Host.Outcome.next.inj hexec
  dsimp only at hspec ⊢
  generalize (State.noticeRises (s.setLinkOut .zeros) ((s.setLinkOut .zeros).changePosture p)).done tag 0x08
    ([byteOf p.code] ++ natBytes2 s.angle ++ [1]) = t at *
  obtain ⟨⟨hdisabled, henabled⟩, hposture, hangle, hpen⟩ := hspec
  refine ⟨hposture, hangle, fun he hopen => ?_, fun he => (hdisabled he).2, fun he hrun hturn => ?_, fun he hrun hnone hoff => ?_,
    fun he hrun hnone hon => ?_, fun he hrun => ?_, fun he => ?_⟩
  · obtain ⟨hwaits, hintake⟩ := (hdisabled he).1 hopen
    rw [hintake]
    exact ⟨hwaits, t.shut_of_waitsFor hwaits, rfl, rfl, rfl⟩
  · obtain ⟨hturned, -, -, hleft⟩ := henabled he
    exact ⟨hturned hrun hturn, hleft (.inr (.inl hturn))⟩
  · obtain ⟨-, hacquired, -, -⟩ := henabled he
    rw [hacquired hrun hnone hoff]
    exact ⟨rfl, rfl⟩
  · obtain ⟨-, -, hitems, hleft⟩ := henabled he
    exact ⟨hleft (.inr (.inr hon)), hitems hrun hnone⟩
  · obtain ⟨-, -, -, hleft⟩ := henabled he
    exact hleft (.inl hrun)
  · rw [State.setLinkOut_tables, if_neg (by rw [he]; exact nofun)] at hpen
    rw [hpen]
    exact ⟨rfl, rfl⟩

end Sys2Proof.Machine

/-! What operations do apart from a pending commit (01.6, 10.4). -/

namespace Sys2Proof.Machine

/-! ## A commit record set aside

The effects of an operation are the same whatever commit is pending: each transition commutes with the
replacement of the commit record. -/

/-- The state with its commit record replaced. -/
def State.setCommit (s : State) (c : Option CommitRecord) : State := { s with tables := { s.tables with commit := c } }

section
variable (s : State) (c : Option CommitRecord)

theorem setCommit_ite (p : Prop) [Decidable p] (s t : State) :
    (if p then s.setCommit c else t.setCommit c) = (if p then s else t).setCommit c :=
  (apply_ite (State.setCommit · c) p s t).symm

theorem State.offerNotice_setCommit (n : Notice) : (s.setCommit c).offerNotice n = (s.offerNotice n).setCommit c :=
  setCommit_ite c _ (s.enqueue s.now (.notice n)) { s with link := { s.link with owed := s.link.owed.add n } }

theorem State.surfaceNotice_setCommit (u : Surface) : (s.setCommit c).surfaceNotice u = (s.surfaceNotice u).setCommit c :=
  s.offerNotice_setCommit c _

theorem State.onIntake_setCommit (u : Surface) (f : Intake → Intake) :
    (s.setCommit c).onIntake u f = (s.onIntake u f).setCommit c := rfl

theorem State.enterState_setCommit (u : Surface) (st : SurfaceState) :
    (s.setCommit c).enterState u st = (s.enterState u st).setCommit c := by
  by_cases h : (s.intake.get u).state = st
  · rw [State.enterState_of_same s h, State.enterState_of_same (s.setCommit c) h]
    rfl
  · rw [State.enterState_of_change s h, State.enterState_of_change (s.setCommit c) h]
    rw [State.onIntake_setCommit, State.surfaceNotice_setCommit]

theorem State.enterAcquire_setCommit (u : Surface) (k : Bool) :
    (s.setCommit c).enterAcquire u k = (s.enterAcquire u k).setCommit c := by
  unfold State.enterAcquire
  dsimp only
  rw [State.onIntake_setCommit, State.enterState_setCommit]
  rfl

theorem State.postClosing_setCommit (u : Surface) (o : ClosingOutcome) :
    (s.setCommit c).postClosing u o = (s.postClosing u o).setCommit c := rfl

theorem State.recapture_setCommit (u : Surface) : (s.setCommit c).recapture u = (s.recapture u).setCommit c := by
  unfold State.recapture
  rw [State.enterAcquire_setCommit, State.postClosing_setCommit]

theorem State.offerContact_setCommit (time : Time) (r : ContactReport) :
    (s.setCommit c).offerContact time r = (s.offerContact time r).setCommit c :=
  setCommit_ite c _ { s.enqueue time (.contact r) with tracks := r.entries.foldl TrackTable.announce s.tracks } s

theorem State.dropClaim_setCommit (k : Nat) (r : TrackRef) : (s.setCommit c).dropClaim k r = (s.dropClaim k r).setCommit c := by
  have hcontext : (s.setCommit c).context k = s.context k := rfl
  have hmotion : (s.setCommit c).motion = s.motion := rfl
  unfold State.dropClaim
  rw [hcontext, hmotion]
  cases s.context k with
  | none => rfl
  | some d =>
    cases s.motion.pointer with
    | none => rfl
    | some p =>
      exact setCommit_ite c _ (s.onContext k fun c => { c with claims := c.claims.filter fun e => e.track != r }).releasePointer
        (s.onContext k fun c => { c with claims := c.claims.filter fun e => e.track != r })

theorem State.forceRelease_setCommit (n : Nat) (b e : Option Track) :
    (s.setCommit c).forceRelease n b e = (s.forceRelease n b e).setCommit c := by
  have hreleased : (s.setCommit c).releasedFrom n b e = s.releasedFrom n b e := rfl
  unfold State.forceRelease
  rw [hreleased]
  split
  · exact s.dropClaim_setCommit c _ _
  · rfl

theorem State.completeLive_setCommit (u : Surface) (sn : Snapshot) (f : ReadyFrame) :
    (s.setCommit c).completeLive u sn f = (s.completeLive u sn f).setCommit c := by
  have hreleases (r : LiveResult) : (s.setCommit c).releases u r = (s.releases u r).setCommit c := by
    unfold State.releases
    generalize slotChanges u r.before r.after = l
    induction l generalizing s with
    | nil => rfl
    | cons a l ih => rw [List.foldl_cons, List.foldl_cons, State.forceRelease_setCommit, ih]
  have hsettled : (s.setCommit c).liveSettled u sn f = (s.liveSettled u sn f).setCommit c := by
    rw [State.liveSettled_eq_settleOver, State.liveSettled_eq_settleOver, hreleases]
    rfl
  have hreport (x : State) : (x.setCommit c).liveReport u sn f = (x.liveReport u sn f).setCommit c := by
    unfold State.liveReport
    dsimp only
    rw [show (x.setCommit c).tracks = x.tracks from rfl, State.offerContact_setCommit]
    exact setCommit_ite c _ _ _
  rw [State.completeLive_eq, State.completeLive_eq, hsettled, hreport]
  generalize (s.liveSettled u sn f).liveReport u sn f = x
  dsimp only
  rw [State.recapture_setCommit]
  exact setCommit_ite c _ _ _

theorem State.completeAcquire_setCommit (u : Surface) (sn : Snapshot) (f : ReadyFrame) :
    (s.setCommit c).completeAcquire u sn f = (s.completeAcquire u sn f).setCommit c := by
  unfold State.completeAcquire
  dsimp only
  rw [show ((s.setCommit c).setBase u (acquireBase sn.base f.samples)).setBase u { acquireBase sn.base f.samples with drift := 0 } =
    ((s.setBase u (acquireBase sn.base f.samples)).setBase u { acquireBase sn.base f.samples with drift := 0 }).setCommit c from rfl,
    State.enterState_setCommit]
  exact setCommit_ite c (acquireFrames sn.tables.tune ≤ (acquireBase sn.base f.samples).acquired ∧
    (s.intake.get u).state = .acquire ∧ s.closingWaits u = false) _ (s.setBase u (acquireBase sn.base f.samples))

theorem State.closeTracks_setCommit (u : Surface) (sn : Snapshot) (key : Time) :
    (s.setCommit c).closeTracks u sn key = (s.closeTracks u sn key).setCommit c := by
  have hclosed : (s.setCommit c).tracksClosed u sn key = (s.tracksClosed u sn key).setCommit c := rfl
  rw [State.closeTracks_eq, State.closeTracks_eq, hclosed]
  generalize s.tracksClosed u sn key = x
  dsimp only
  rw [State.offerContact_setCommit]
  exact setCommit_ite c _ _ _

theorem State.applyOutcome_setCommit (u : Surface) (out : ClosingOutcome) :
    (s.setCommit c).applyOutcome u out = (s.applyOutcome u out).setCommit c := by
  cases out with
  | off => exact s.enterState_setCommit c u .off
  | acquire => exact s.enterAcquire_setCommit c u false
  | none => rfl

theorem State.completeClosing_setCommit (u : Surface) (sn : Snapshot) (key : Time) (out : ClosingOutcome) :
    (s.setCommit c).completeClosing u sn key out = (s.completeClosing u sn key out).setCommit c := by
  unfold State.completeClosing
  dsimp only
  rw [State.closeTracks_setCommit, setCommit_ite]
  generalize (if hasOpenTracks sn u then s.closeTracks u sn key else s) = x
  exact State.applyOutcome_setCommit ((x.palmCleared u).clearAcquire u) c u out

theorem State.applyOperation_setCommit (o : Operation) :
    (s.setCommit c).applyOperation o = (s.applyOperation o).setCommit c := by
  unfold State.applyOperation
  split
  · exact s.completeClosing_setCommit c _ _ _ _
  · split
    · exact s.completeAcquire_setCommit c _ _ _
    · exact s.completeLive_setCommit c _ _ _
    · rfl
    · rfl

theorem State.reportPen_setCommit (lost recovered : Bool) :
    (s.setCommit c).reportPen .out lost recovered = (s.reportPen .out lost recovered).setCommit c :=
  setCommit_ite c (hasRoom s.queue = true) (s.enqueue s.now (.pen ⟨.out, s.pen.held, lost, recovered⟩)) s.lose

/-- The pen tracker put in OUT. -/
def State.penOut (s : State) : State := { s with pen := { s.pen with mode := .out, coast := 0, guard := none } }

theorem State.penForcedExit_eq : s.penForcedExit = if s.pen.mode = .out then s.penOut else s.penOut.reportPen .out true false := rfl

theorem State.penForcedExit_setCommit : (s.setCommit c).penForcedExit = s.penForcedExit.setCommit c := by
  have hout : (s.setCommit c).penOut = s.penOut.setCommit c := rfl
  rw [State.penForcedExit_eq, State.penForcedExit_eq, hout, State.reportPen_setCommit]
  exact setCommit_ite c (s.pen.mode = .out) s.penOut (s.penOut.reportPen .out true false)

theorem State.outcomePen_setCommit (o : Operation) : (s.setCommit c).outcomePen o = (s.outcomePen o).setCommit c := by
  unfold State.outcomePen
  split
  · exact s.penForcedExit_setCommit c
  · rfl

/-- The state with its table store replaced. -/
def State.setTables (s : State) (τ : TableStore) : State := { s with tables := τ }

/-- What rises does not depend on the tables. -/
theorem State.noticeRises_setTables (before : State) (τ : TableStore) :
    State.noticeRises before (s.setTables τ) = (State.noticeRises before s).setTables τ := by
  have hite (p : Prop) [Decidable p] (x y : State) : (if p then x.setTables τ else y.setTables τ) = (if p then x else y).setTables τ :=
    (apply_ite (State.setTables · τ) p x y).symm
  have hoffer (x : State) (n : Notice) : (x.setTables τ).offerNotice n = (x.offerNotice n).setTables τ :=
    hite _ (x.enqueue x.now (.notice n)) { x with link := { x.link with owed := x.link.owed.add n } }
  unfold State.noticeRises
  dsimp only
  rw [show (s.setTables τ).fault = s.fault from rfl, hoffer, hite, hoffer]
  exact hite _ _ _

theorem State.noticeRises_setCommit_before (before : State) :
    State.noticeRises (before.setCommit c) s = State.noticeRises before s := rfl

end

/-! ## What a transition tells the host

None makes the NOTICE of a posture change, none takes a loss back, and of the link only the owed causes change. -/

/-- The second state's records are the first's and none that gives a posture; the link's counters stay. -/
def State.tells (s t : State) : Prop :=
  t.link = { s.link with loss := t.link.loss, owed := t.link.owed } ∧ (s.link.loss = true → t.link.loss = true) ∧
    ∀ r ∈ t.queue, ∀ p n, r.payload = .notice (.posture p n) → r ∈ s.queue

theorem State.tells_of_same {s t : State} (hlink : t.link = s.link) (hqueue : t.queue = s.queue) : s.tells t := by
  rw [State.tells, hlink, hqueue]
  exact ⟨rfl, id, fun r hr _ _ _ => hr⟩

theorem State.tells.refl (s : State) : s.tells s := State.tells_of_same rfl rfl

theorem State.tells.trans {s t x : State} (h : s.tells t) (h' : t.tells x) : s.tells x := by
  obtain ⟨hlink, hloss, hqueue⟩ := h
  obtain ⟨hlink', hloss', hqueue'⟩ := h'
  exact ⟨hlink'.trans (by rw [hlink]), fun hs => hloss' (hloss hs), fun r hr p n hp => hqueue r (hqueue' r hr p n hp) p n hp⟩

theorem State.tells_ite {s t x : State} {p : Prop} [Decidable p] (h : s.tells t) (h' : s.tells x) : s.tells (if p then t else x) := by
  split
  · exact h
  · exact h'

section
variable (s : State)

theorem State.tells_enqueue (time : Time) {b : Payload} (hb : ∀ p n, b ≠ .notice (.posture p n)) : s.tells (s.enqueue time b) := by
  refine ⟨rfl, id, fun r hr p n hp => ?_⟩
  obtain hold | hnew := List.mem_append.mp hr
  · exact hold
  · rw [List.mem_singleton.mp hnew] at hp
    exact absurd hp (hb p n)

theorem State.tells_offerNotice {n : Notice} (hn : ∀ p m, n ≠ .posture p m) : s.tells (s.offerNotice n) := by
  obtain ⟨-, heq⟩ | ⟨-, heq⟩ := s.offerNotice_cases n <;> rw [heq]
  · exact s.tells_enqueue _ fun p m h => hn p m (Payload.notice.inj h)
  · exact ⟨rfl, id, fun r hr _ _ _ => hr⟩

theorem State.tells_noticeRises (before : State) : s.tells (State.noticeRises before s) := by
  have hoffer (b : Bool) (x : State) {n : Notice} (hn : ∀ p m, n ≠ .posture p m) : x.tells (if b then x.offerNotice n else x) :=
    State.tells_ite (x.tells_offerNotice hn) (.refl x)
  exact (hoffer _ _ (n := .faultRising) fun _ _ h => nomatch h).trans (hoffer _ _ (n := .lossRising) fun _ _ h => nomatch h)

theorem State.tells_enterState (u : Surface) (st : SurfaceState) : s.tells (s.enterState u st) := by
  by_cases h : (s.intake.get u).state = st
  · rw [State.enterState_of_same s h]
    exact State.tells_of_same rfl rfl
  · rw [State.enterState_of_change s h]
    exact State.tells_offerNotice (s.onIntake u _) fun _ _ h => nomatch h

theorem State.tells_enterAcquire (u : Surface) (k : Bool) : s.tells (s.enterAcquire u k) :=
  State.tells_enterState (s.onIntake u _) u .acquire

theorem State.tells_offerContact (time : Time) (r : ContactReport) : s.tells (s.offerContact time r) :=
  State.tells_ite (s.tells_enqueue time (b := .contact r) fun _ _ h => nomatch h) (.refl s)

theorem State.tells_reportPen_out (lost recovered : Bool) : s.tells (s.reportPen .out lost recovered) :=
  State.tells_ite (s.tells_enqueue s.now (b := .pen ⟨.out, s.pen.held, lost, recovered⟩) fun _ _ h => nomatch h)
    ⟨rfl, fun _ => rfl, fun _ hr _ _ _ => hr⟩

theorem State.tells_penForcedExit : s.tells s.penForcedExit := by
  rw [State.penForcedExit_eq]
  exact State.tells_ite (t := s.penOut) (State.tells_of_same rfl rfl) (s.penOut.tells_reportPen_out true false)

theorem State.tells_completeLive (u : Surface) (sn : Snapshot) (f : ReadyFrame) : s.tells (s.completeLive u sn f) := by
  have hsettled : s.tells (s.liveSettled u sn f) := by
    rw [State.liveSettled_eq_settleOver, s.releases_frame]
    exact State.tells_of_same rfl rfl
  rw [State.completeLive_eq]
  generalize s.liveSettled u sn f = x at *
  have hreport : x.tells (x.liveReport u sn f) := State.tells_ite (x.tells_offerContact _ _) (.refl x)
  generalize x.liveReport u sn f = y at *
  have hrecapture : y.tells (y.recapture u) := (y.tells_enterAcquire u true).trans (State.tells_of_same rfl rfl)
  exact (hsettled.trans hreport).trans (State.tells_ite hrecapture (.refl y))

theorem State.tells_completeAcquire (u : Surface) (sn : Snapshot) (f : ReadyFrame) : s.tells (s.completeAcquire u sn f) :=
  State.tells_ite (State.tells_enterState ((s.setBase u _).setBase u _) u .live) (State.tells_of_same rfl rfl)

theorem State.tells_applyOutcome (u : Surface) (out : ClosingOutcome) : s.tells (s.applyOutcome u out) := by
  cases out with
  | off => exact s.tells_enterState u .off
  | acquire => exact s.tells_enterAcquire u false
  | none => exact .refl s

theorem State.tells_completeClosing (u : Surface) (sn : Snapshot) (key : Time) (out : ClosingOutcome) :
    s.tells (s.completeClosing u sn key out) := by
  have hclosed : s.tells (s.closeTracks u sn key) := by
    have htracks : s.tells (s.tracksClosed u sn key) := State.tells_of_same rfl rfl
    rw [State.closeTracks_eq]
    exact State.tells_ite (htracks.trans (State.tells_offerContact _ _ _)) htracks
  have hboth : s.tells (if hasOpenTracks sn u then s.closeTracks u sn key else s) := State.tells_ite hclosed (.refl s)
  have heq : s.completeClosing u sn key out =
      (((if hasOpenTracks sn u then s.closeTracks u sn key else s).palmCleared u).clearAcquire u).applyOutcome u out := rfl
  rw [heq]
  generalize (if hasOpenTracks sn u then s.closeTracks u sn key else s) = x at *
  exact (hboth.trans (x := (x.palmCleared u).clearAcquire u) (State.tells_of_same rfl rfl)).trans (State.tells_applyOutcome _ _ _)

theorem State.tells_applyOperation (o : Operation) : s.tells (s.applyOperation o) := by
  unfold State.applyOperation
  split
  · exact s.tells_completeClosing _ _ _ _
  · split
    · exact s.tells_completeAcquire _ _ _
    · exact s.tells_completeLive _ _ _
    · exact .refl s
    · exact .refl s

theorem State.tells_outcomePen (o : Operation) : s.tells (s.outcomePen o) := by
  unfold State.outcomePen
  split
  · exact s.tells_penForcedExit
  · exact .refl s

theorem State.tells_applyEntry : s.tells s.applyEntry := by
  have hsurface (x : State) (e : PostureEntry) (u : Surface) : x.tells (x.applySurface e u) := by
    refine State.tells_ite (State.tells_ite (State.tells_ite ?_ (State.tells_ite (x.tells_enterAcquire u false) (.refl x))) (.refl x))
      (State.tells_ite (.refl x) ?_)
    · exact State.tells_of_same rfl rfl
    · exact State.tells_of_same rfl rfl
  have hsurfaces := (hsurface s s.entry .pad).trans (hsurface _ s.entry .panel)
  exact State.tells_ite hsurfaces (hsurfaces.trans (State.tells_penForcedExit _))

end

end Sys2Proof.Machine

/-! Commits (10.4, 07.6): O49. -/

namespace Sys2Proof.Machine

/-! ## Sets of kinds (R167) -/

theorem KindSet.eq_empty_iff {k : KindSet} : k = KindSet.empty ↔ ∀ i, k.has i = false := by
  refine ⟨fun h i => by rw [h]; cases i <;> rfl, fun h => ?_⟩
  have htune := h .tune
  have hzone := h .zone
  have hshape := h .shape
  have hposture := h .posture
  have hcurve := h .curve
  have hprogram := h .program
  cases k
  simp_all [KindSet.has, KindSet.empty]

theorem Tables.takeKinds_empty (a b : Tables) : a.takeKinds b KindSet.empty = a := rfl

/-- The frame-side kinds, and then PROGRAM, are the whole set. -/
theorem Tables.takeKinds_frameSide (a b : Tables) (k : KindSet) :
    (if k.program then (a.takeKinds b k.frameSide).takeKind b .program else a.takeKinds b k.frameSide) = a.takeKinds b k := rfl

/-! ## The frame-side switch (R118, R168) -/

section
variable (s : State)

/-- The table store with the frame-side kinds of a commit switched. -/
def TableStore.switched (t : TableStore) (c : CommitRecord) : TableStore :=
  { t with active := t.active.takeKinds t.staging c.frameSide, commit := some { c with frameSide := KindSet.empty } }

theorem State.switchFrameSide_eq {c : CommitRecord} (hcommit : s.tables.commit = some c) : s.switchFrameSide =
    if c.frameSide.posture then (s.setTables (s.tables.switched c)).applyEntry else s.setTables (s.tables.switched c) := by
  by_cases hside : c.frameSide = KindSet.empty
  · have hsame : s.tables.switched c = s.tables := by
      have hc : { c with frameSide := KindSet.empty } = c := by rw [← hside]
      rw [TableStore.switched, hc, hside, Tables.takeKinds_empty, ← hcommit]
    have hposture : ¬ c.frameSide.posture = true := by rw [hside]; exact nofun
    rw [if_neg hposture, hsame]
    simp only [State.switchFrameSide, hcommit, if_pos hside]
    rfl
  · simp only [State.switchFrameSide, hcommit, if_neg hside]
    rfl

/-- What the end of a commit makes of a state whose frame-side kinds have switched (R169). -/
theorem State.endCommit_of_switched {c : CommitRecord} (hcommit : s.tables.commit = some { c with frameSide := KindSet.empty }) :
    s.endCommit = if c.program = true then s
      else State.done { s with tables := { s.tables with dirty := KindSet.empty, commit := none } }
        c.tag 0x04 [byteOf c.clamped, byteOf s.tables.dirty.mask] := by
  cases hp : c.program <;> simp [State.endCommit, hcommit, hp]

/-! ## A posture's entry among other records -/

/-- The states differ in their records and the host's counters alone. -/
def State.besides (s t : State) : Prop := t = { s with queue := t.queue, link := t.link } ∧ t.link.part = s.link.part

theorem State.besides.enterAcquire {s t : State} (h : s.besides t) (u : Surface) :
    (s.enterAcquire u false).besides (t.enterAcquire u false) := by
  obtain ⟨ht, hpart⟩ := h
  have hs := s.enterAcquire_frame u
  have ht' := t.enterAcquire_frame u
  have hacquiring : t.acquiring u = s.acquiring u := by rw [ht]; rfl
  generalize s.enterAcquire u false = x at *
  generalize t.enterAcquire u false = y at *
  refine ⟨?_, ?_⟩
  · rw [ht', hs, hacquiring, ht]
  · rw [ht', hs]
    exact hpart

theorem State.besides.applySurface {s t : State} (h : s.besides t) (e : PostureEntry) (u : Surface) :
    (s.applySurface e u).besides (t.applySurface e u) := by
  have hentered := h.enterAcquire u
  obtain ⟨ht, hpart⟩ := id h
  have hoff : t.offClosings u = s.offClosings u := by rw [ht]; rfl
  have hacquire : t.closings u .acquire = s.closings u .acquire := by rw [ht]; rfl
  have hstate : t.intake = s.intake := (congrArg State.intake ht :)
  have hsame {x y : State} (hy : y = { x with queue := t.queue, link := t.link }) (hx : x.link = s.link) : x.besides y :=
    ⟨by rw [hy], by rw [hy, hx]; exact hpart⟩
  unfold State.applySurface State.enableSurface State.disableSurface
  rw [hoff, hacquire, hpart, hstate]
  split
  · split
    · split
      · exact hsame (by rw [ht]) rfl
      · split
        · exact hentered
        · exact h
    · exact h
  · split
    · exact h
    · exact hsame (by rw [ht]; rfl) rfl

theorem State.besides.penOut {s t : State} (h : s.besides t) : s.penOut.besides t.penOut := by
  obtain ⟨ht, hpart⟩ := h
  exact ⟨by rw [ht]; rfl, hpart⟩

theorem State.besides.applyEntry {s t : State} (h : s.besides t) : s.applyEntry.besides t.applyEntry := by
  have hentry : t.entry = s.entry := by
    obtain ⟨ht, -⟩ := h
    rw [ht]
    rfl
  have hsurfaces := (h.applySurface s.entry .pad).applySurface s.entry .panel
  unfold State.applyEntry
  dsimp only
  rw [hentry]
  generalize (s.applySurface s.entry .pad).applySurface s.entry .panel = x at *
  generalize (t.applySurface s.entry .pad).applySurface s.entry .panel = y at *
  split
  · exact hsurfaces
  · have hx := x.penForcedExit_frame
    have hy := y.penForcedExit_frame
    have hxpart : x.penForcedExit.link.part = x.link.part := (congrArg Link.part x.penForcedExit_lasting :)
    have hypart : y.penForcedExit.link.part = y.link.part := (congrArg Link.part y.penForcedExit_lasting :)
    obtain ⟨hxy, hpart⟩ := hsurfaces
    generalize x.penForcedExit = x' at *
    generalize y.penForcedExit = y' at *
    exact ⟨by rw [hy, hx, hxy], hypart.trans (hpart.trans hxpart.symm)⟩

end

/-! ## Completions with a commit pending (R168) -/

section
variable {s : State} {o : Operation} {c : CommitRecord}

/-- A completion's state as its operation's effects and the pen leave it, with what rises. -/
def State.completed (s : State) (o : Operation) : State :=
  State.noticeRises ((s.setOp none).applyOperation o) (((s.setOp none).applyOperation o).outcomePen o)

/-- Without a commit a completion is its effects alone. -/
theorem State.completeOperation_setCommit_none :
    (s.setCommit none).completeOperation o = (s.completed o).setCommit none := by
  have htables : (((s.setOp none).applyOperation o).outcomePen o).tables = s.tables := by simp
  have hop : (s.setCommit none).setOp none = (s.setOp none).setCommit none := rfl
  unfold State.completeOperation State.completed
  rw [hop, State.applyOperation_setCommit]
  generalize (s.setOp none).applyOperation o = x at *
  dsimp only
  rw [State.outcomePen_setCommit]
  generalize x.outcomePen o = y at *
  have hnone : (y.setCommit none).tables.commit = none := rfl
  have hset : y.setCommit none = y.setTables { s.tables with commit := none } := by rw [← htables]; rfl
  have hset' : (State.noticeRises x y).setCommit none = (State.noticeRises x y).setTables { s.tables with commit := none } := by
    rw [← htables, ← State.noticeRises_tables (s := y) x]
    rfl
  rw [State.switchFrameSide_of_no_commit hnone, State.noticeRises_setCommit_before, hset, State.noticeRises_setTables, ← hset',
    State.endCommit_of_no_commit rfl]

/-- With a commit pending the frame-side kinds switch after the effects, and the commit may end (R168, R169). -/
theorem State.completeOperation_pending (hcommit : s.tables.commit = some c) : s.completeOperation o =
    if c.frameSide.posture = true then
      (State.noticeRises ((s.setOp none).applyOperation o)
        ((((s.setOp none).applyOperation o).outcomePen o).setTables (s.tables.switched c)).applyEntry).endCommit
    else ((s.completed o).setTables (s.tables.switched c)).endCommit := by
  have htables : (((s.setOp none).applyOperation o).outcomePen o).tables = s.tables := by simp
  unfold State.completeOperation State.completed
  dsimp only
  generalize (s.setOp none).applyOperation o = x at *
  generalize x.outcomePen o = y at *
  rw [State.switchFrameSide_eq y (htables ▸ hcommit), htables]
  split
  · rfl
  · rw [State.noticeRises_setTables]

theorem State.noticeRises_of_loss_set {before t : State} (h : before.link.loss = true) : State.noticeRises before t = t := by
  have hfault : before.fault = true := before.fault_iff.mpr (.inr (.inl h))
  exact State.noticeRises_of_steady (.inl hfault) (.inl h)

theorem State.exec_completion {i : Instr} (hop : s.engine.op = some o)
    (hi : (i = .frameOperationComplete ∧ o.held = false ∧ (o.makesDigest = false ∨ s.gestures.digests.length < 4)) ∨
      (i = .heldOperationComplete ∧ o.held = true ∧ s.gestures.digests.length < 4)) :
    exec i s = .next (s.completeOperation o) := by
  obtain ⟨rfl, hworking, hroom⟩ | ⟨rfl, hheld, hroom⟩ := hi
  · exact exec_frameOperationComplete_working hop hworking (hroom.imp_right State.digestsFull_eq_false.mpr)
  · exact exec_heldOperationComplete_room hop hheld (State.digestsFull_eq_false.mpr hroom)

/-- An entry's application is what the rules say of it, whatever records stand behind it (R114 to R116, R118). -/
theorem State.entryApplied_applyEntry (s : State) {a : State} (ha : a = { s.applyEntry with queue := a.queue, link := a.link }) :
    s.entryApplied a := by
  have hsame (u : Surface) : s.applyEntry.sameFor a u :=
    State.sameFor_of_same (congrArg State.intake ha :) (congrArg State.engine ha :) u
  have hpen : a.pen = s.applyEntry.pen := (congrArg State.pen ha :)
  rw [s.applyEntry_pen] at hpen
  refine ⟨fun u => ?_, fun h => ?_, fun h => ?_, (congrArg State.posture ha :).trans s.applyEntry_posture,
    (congrArg State.angle ha :).trans s.applyEntry_angle⟩
  · obtain ⟨hdisabled, henabled⟩ := (s.applyEntry_surfaceApplied u).of_sameFor_right (hsame u)
    refine ⟨fun he => ⟨fun hopen => ?_, (hdisabled he).2⟩, fun he => ?_⟩
    · obtain ⟨hwaits, hintake⟩ := (hdisabled he).1 hopen
      rw [hintake]
      exact ⟨hwaits, a.shut_of_waitsFor hwaits, rfl, rfl, rfl⟩
    · obtain ⟨hturned, hacquired, -, hleft⟩ := henabled he
      exact ⟨hturned, hacquired, hleft⟩
  · rw [hpen, if_neg (by rw [h]; exact nofun)]
  · rw [hpen, if_pos h]

/-- The entry that a switched POSTURE table calls for, applied with the NOTICEs of what rises behind it (R118). -/
theorem State.entry_at_completion (s : State) (o : Operation) (τ : TableStore) :
    let t := s.completed o
    let a := State.noticeRises ((s.setOp none).applyOperation o)
      ((((s.setOp none).applyOperation o).outcomePen o).setTables τ).applyEntry
    a = { (t.setTables τ).applyEntry with queue := a.queue, link := a.link } ∧
      a.link = { t.link with loss := a.link.loss, owed := a.link.owed } ∧
      (s.link.loss = true → a = (t.setTables τ).applyEntry) ∧ (t.setTables τ).entryApplied a ∧
      ∀ r ∈ a.queue, ∀ p n, r.payload = .notice (.posture p n) → r ∈ s.queue := by
  have happlied : s.tells ((s.setOp none).applyOperation o) :=
    State.tells.trans (State.tells_of_same rfl rfl) ((s.setOp none).tells_applyOperation o)
  unfold State.completed
  generalize (s.setOp none).applyOperation o = x at *
  have hpen := x.tells_outcomePen o
  generalize x.outcomePen o = y at *
  dsimp only
  have hrises := y.tells_noticeRises x
  have hentry : y.tells (y.setTables τ).applyEntry := State.tells.trans (State.tells_of_same rfl rfl) (State.tells_applyEntry _)
  have hrises' := (y.setTables τ).applyEntry.tells_noticeRises x
  have hframe := (y.setTables τ).applyEntry.noticeRises_frame x
  have hbesides : (y.setTables τ).besides ((State.noticeRises x y).setTables τ) := by
    have hy := y.noticeRises_frame x
    have hpart := y.noticeRises_lasting x
    generalize State.noticeRises x y = z at *
    exact ⟨by rw [hy]; rfl, (congrArg Link.part hpart :)⟩
  obtain ⟨hb, -⟩ := hbesides.applyEntry
  have hkept : State.noticeRises x (y.setTables τ).applyEntry = { ((State.noticeRises x y).setTables τ).applyEntry with
      queue := (State.noticeRises x (y.setTables τ).applyEntry).queue
      link := (State.noticeRises x (y.setTables τ).applyEntry).link } := by
    generalize ((State.noticeRises x y).setTables τ).applyEntry = b at *
    rw [hb]
    exact hframe
  refine ⟨hkept, ?_, fun hloss => ?_, State.entryApplied_applyEntry _ hkept, ?_⟩
  · obtain ⟨hlink, -, -⟩ := hrises
    obtain ⟨hlink', -, -⟩ := hentry.trans hrises'
    rw [hlink']
    rw [hlink]
  · obtain ⟨-, hloss', -⟩ := happlied
    rw [State.noticeRises_of_loss_set (hloss' hloss), State.noticeRises_of_loss_set (hloss' hloss)]
  · obtain ⟨-, -, hqueue⟩ := ((happlied.trans hpen).trans hentry).trans hrises'
    exact hqueue

end

/-! ## COMMIT (R167) -/

section
variable (s : State) {c : CommitRecord}

theorem State.switchFrameSide_tables_of_commit (hcommit : s.tables.commit = some c) :
    s.switchFrameSide.tables = s.tables.switched c := by
  rw [s.switchFrameSide_eq hcommit]
  split
  · exact State.applyEntry_tables _
  · rfl

/-- At HOLD both sides switch (R170). -/
theorem State.switchAtHold_tables {ks : KindSet} (hcommit : s.tables.commit = some c) (hside : c.frameSide = ks.frameSide)
    (hprogram : c.program = ks.program) : s.switchAtHold.tables = { s.tables with
      active := s.tables.active.takeKinds s.tables.staging ks
      commit := some { c with frameSide := KindSet.empty, program := false } } := by
  have htables := s.switchFrameSide_tables_of_commit hcommit
  have hkinds := Tables.takeKinds_frameSide s.tables.active s.tables.staging ks
  unfold State.switchAtHold State.switchProgram
  generalize s.switchFrameSide = x at *
  rw [htables, TableStore.switched, hside]
  cases hp : ks.program with
  | false =>
    have hcp : c.program = false := hprogram.trans hp
    simp only [hp, Bool.false_eq_true, if_false] at hkinds
    simp only [Option.any_some, hcp, Bool.false_eq_true, if_false]
    rw [htables, TableStore.switched, hside, hkinds, hcp]
  | true =>
    have hcp : c.program = true := hprogram.trans hp
    simp only [hp, if_true] at hkinds
    simp only [Option.any_some, hcp, if_true, State.installProgram]
    rw [htables, TableStore.switched, hside, ← hkinds]
    rfl

/-- A commit whose last kind has switched ends with its DONE (R169). -/
theorem State.endCommit_over (hcommit : s.tables.commit = some c) (hside : c.frameSide = KindSet.empty) (hprogram : c.program = false) :
    s.endCommit = State.done { s with tables := { s.tables with dirty := KindSet.empty, commit := none } } c.tag 0x04
      [byteOf c.clamped, byteOf s.tables.dirty.mask] := by
  simp only [State.endCommit, hcommit, hside, hprogram, and_self, if_true]

theorem State.endCommit_answers (hcommit : s.tables.commit = some c) (hside : c.frameSide = KindSet.empty) (hprogram : c.program = false) :
    s.endCommit.tables = { s.tables with dirty := KindSet.empty, commit := none } ∧
      ((⟨s.now, .reply ⟨c.tag, 0x04, .done, [byteOf c.clamped, byteOf s.tables.dirty.mask]⟩, false⟩ : Record) ∈ s.endCommit.queue ∨
        (⟨s.now, .reply ⟨c.tag, 0x04, .done, [byteOf c.clamped, byteOf s.tables.dirty.mask]⟩, false⟩ : Record) ∈
          s.endCommit.link.waiting) := by
  rw [s.endCommit_over hcommit hside hprogram]
  exact ⟨State.done_tables _ _ _ _, List.mem_append.mp (State.done_answers _ _ _ _)⟩

theorem State.endCommit_of_more (hcommit : s.tables.commit = some c) (h : c.frameSide ≠ KindSet.empty ∨ c.program = true) :
    s.endCommit = s := by
  simp only [State.endCommit, hcommit]
  refine if_neg ?_
  rintro ⟨hside, hprogram⟩
  obtain h | h := h
  · exact h hside
  · rw [hprogram] at h
    cases h

/-! ## An accepted COMMIT -/

/-- The staged copy and the count of a COMMIT's clamps (R165, R167). -/
def State.staged (s : State) : Tables :=
  if s.tables.dirty.tune then { s.tables.staging with tune := clampedTune s.tables.staging.tune } else s.tables.staging

def State.clamps (s : State) : Nat := if s.tables.dirty.tune then clampCount s.tables.staging.tune else 0

def State.commitRecord (s : State) (tag : Byte) : CommitRecord :=
  ⟨tag, s.tables.dirty.frameSide, s.tables.dirty.program, s.clamps⟩

theorem State.acceptCommit_eq (tag : Byte) : s.acceptCommit tag =
    s.setTables { s.tables with staging := s.staged, commit := some (s.commitRecord tag) } := rfl

variable {s} (htakes : s.takes) {tag : Byte}
include htakes

/-- What a valid COMMIT with a dirty kind comes to (R167). -/
theorem State.takeCommit_accepted (hnone : s.tables.commit = none) (hdirty : ∃ k, s.tables.dirty.has k = true)
    (hvalid : ∀ k, s.tables.dirty.has k = true → validateKind s.tables.staging k = none) :
    exec (.commit tag) s = .next (State.noticeRises (s.setLinkOut .zeros)
      ((s.setLinkOut .zeros).acceptCommit tag).switchAtCommit).endCommit := by
  have hchecked : validateKinds s.tables.staging s.tables.dirty = none :=
    List.findSome?_eq_none_iff.mpr fun k _ => ite_eq_right_iff.mpr (hvalid k)
  have hkinds : s.tables.dirty ≠ KindSet.empty := by
    obtain ⟨k, hk⟩ := hdirty
    intro h
    rw [h, KindSet.eq_empty_iff.mp rfl k] at hk
    cases hk
  refine State.takeWrite_next htakes ?_
  simp only [State.takeCommit, State.setLinkOut_tables, hnone, hkinds, hchecked, Option.isSome_none, Bool.false_eq_true, if_false]

theorem State.commit_in_hold (hnone : s.tables.commit = none) (hdirty : ∃ k, s.tables.dirty.has k = true)
    (hvalid : ∀ k, s.tables.dirty.has k = true → validateKind s.tables.staging k = none) (hpart : s.link.part = .hold) :
    ∃ t : State, exec (.commit tag) s = .next t ∧
      t.tables = ⟨s.tables.active.takeKinds s.staged s.tables.dirty, s.staged, KindSet.empty, none⟩ ∧
      ((⟨s.now, .reply ⟨tag, 0x04, .done, [byteOf s.clamps, byteOf s.tables.dirty.mask]⟩, false⟩ : Record) ∈ t.queue ∨
        (⟨s.now, .reply ⟨tag, 0x04, .done, [byteOf s.clamps, byteOf s.tables.dirty.mask]⟩, false⟩ : Record) ∈ t.link.waiting) := by
  refine ⟨_, State.takeCommit_accepted htakes hnone hdirty hvalid, ?_⟩
  have hswitch : ((s.setLinkOut .zeros).acceptCommit tag).switchAtCommit = ((s.setLinkOut .zeros).acceptCommit tag).switchAtHold :=
    if_pos hpart
  have htables := ((s.setLinkOut .zeros).acceptCommit tag).switchAtHold_tables (c := s.commitRecord tag) (ks := s.tables.dirty) rfl rfl rfl
  have hnow : ((s.setLinkOut .zeros).acceptCommit tag).switchAtHold.now = s.now := by
    simp [State.switchAtHold, State.acceptCommit]
  rw [hswitch]
  generalize ((s.setLinkOut .zeros).acceptCommit tag).switchAtHold = x at *
  obtain ⟨hended, hanswer⟩ := State.endCommit_answers (State.noticeRises (s.setLinkOut .zeros) x)
    (c := { s.commitRecord tag with frameSide := KindSet.empty, program := false })
    (by rw [State.noticeRises_tables, htables]) rfl rfl
  rw [State.noticeRises_tables, htables] at hended hanswer
  rw [State.noticeRises_now, hnow] at hanswer
  exact ⟨hended, hanswer⟩

theorem State.commit_in_flight (hnone : s.tables.commit = none) (hdirty : ∃ k, s.tables.dirty.has k = true)
    (hvalid : ∀ k, s.tables.dirty.has k = true → validateKind s.tables.staging k = none) (hpart : s.link.part ≠ .hold)
    (hop : s.engine.op ≠ none) : exec (.commit tag) s = .next { s with
      linkOut := .zeros
      tables := { s.tables with staging := s.staged, commit := some (s.commitRecord tag) }
      gestures := { s.gestures with switchWaiting := s.tables.dirty.program } } := by
  have hsome : s.engine.op.isNone = false := by simpa [Option.isSome_iff_ne_none] using hop
  have hmore : (s.commitRecord tag).frameSide ≠ KindSet.empty ∨ (s.commitRecord tag).program = true := by
    by_contra hno
    obtain ⟨hside, hprogram⟩ := not_or.mp hno
    obtain ⟨k, hk⟩ := hdirty
    have hclean := KindSet.eq_empty_iff.mp (not_not.mp hside) k
    cases k with
    | program => exact hprogram hk
    | tune | zone | shape | posture | curve => exact absurd (hk.symm.trans hclean) nofun
  have hswitch : ((s.setLinkOut .zeros).acceptCommit tag).switchAtCommit = { s with
      linkOut := .zeros
      tables := { s.tables with staging := s.staged, commit := some (s.commitRecord tag) }
      gestures := { s.gestures with switchWaiting := s.tables.dirty.program } } := by
    refine (if_neg hpart).trans ?_
    have hkept : ((s.setLinkOut .zeros).acceptCommit tag).engine.op.isNone = false := hsome
    simp only [hkept, Bool.false_eq_true, if_false]
    rfl
  rw [State.takeCommit_accepted htakes hnone hdirty hvalid, hswitch]
  refine congrArg Host.Outcome.next ((congrArg State.endCommit (State.noticeRises_of_same ?_ ?_)).trans
    (State.endCommit_of_more _ rfl hmore)) <;> rfl

theorem State.commit_at_once (hnone : s.tables.commit = none) (hdirty : ∃ k, s.tables.dirty.has k = true)
    (hvalid : ∀ k, s.tables.dirty.has k = true → validateKind s.tables.staging k = none) (hpart : s.link.part ≠ .hold)
    (hop : s.engine.op = none) : ∃ t : State, exec (.commit tag) s = .next t ∧
      t.gestures.switchWaiting = s.tables.dirty.program ∧
      t.tables.active = s.tables.active.takeKinds s.staged s.tables.dirty.frameSide ∧ t.tables.staging = s.staged ∧
      (s.tables.dirty.program = true → t.tables.commit = some ⟨tag, KindSet.empty, true, s.clamps⟩ ∧
        t.tables.dirty = s.tables.dirty) ∧
      (s.tables.dirty.program = false → t.tables.commit = none ∧ t.tables.dirty = KindSet.empty ∧
        ((⟨s.now, .reply ⟨tag, 0x04, .done, [byteOf s.clamps, byteOf s.tables.dirty.mask]⟩, false⟩ : Record) ∈ t.queue ∨
          (⟨s.now, .reply ⟨tag, 0x04, .done, [byteOf s.clamps, byteOf s.tables.dirty.mask]⟩, false⟩ : Record) ∈ t.link.waiting)) := by
  refine ⟨_, State.takeCommit_accepted htakes hnone hdirty hvalid, ?_⟩
  have hidle : ((s.setLinkOut .zeros).acceptCommit tag).engine.op.isNone = true := by
    change s.engine.op.isNone = true
    rw [hop]
    rfl
  have htables := ((s.setLinkOut .zeros).acceptCommit tag).switchFrameSide_tables_of_commit (c := s.commitRecord tag) rfl
  have hnow : ((s.setLinkOut .zeros).acceptCommit tag).switchFrameSide.now = s.now := State.switchFrameSide_now _
  have hswitch : ((s.setLinkOut .zeros).acceptCommit tag).switchAtCommit =
      { ((s.setLinkOut .zeros).acceptCommit tag).switchFrameSide with
        gestures := { ((s.setLinkOut .zeros).acceptCommit tag).switchFrameSide.gestures with
          switchWaiting := s.tables.dirty.program } } := by
    refine (if_neg hpart).trans ?_
    simp only [hidle, if_true]
    rfl
  rw [hswitch]
  generalize ((s.setLinkOut .zeros).acceptCommit tag).switchFrameSide = x at *
  have htold : (State.noticeRises (s.setLinkOut .zeros) { x with
      gestures := { x.gestures with switchWaiting := s.tables.dirty.program } }).tables =
      { s.tables with active := s.tables.active.takeKinds s.staged s.tables.dirty.frameSide, staging := s.staged,
                      commit := some { s.commitRecord tag with frameSide := KindSet.empty } } :=
    (State.noticeRises_tables _ _).trans htables
  have hwaits : (State.noticeRises (s.setLinkOut .zeros) { x with
      gestures := { x.gestures with switchWaiting := s.tables.dirty.program } }).gestures.switchWaiting = s.tables.dirty.program :=
    congrArg Gestures.switchWaiting (State.noticeRises_gestures _ _)
  have htime : (State.noticeRises (s.setLinkOut .zeros) { x with
      gestures := { x.gestures with switchWaiting := s.tables.dirty.program } }).now = s.now := (State.noticeRises_now _ _).trans hnow
  generalize State.noticeRises (s.setLinkOut .zeros) { x with
      gestures := { x.gestures with switchWaiting := s.tables.dirty.program } } = y at *
  have hcommit : y.tables.commit = some { s.commitRecord tag with frameSide := KindSet.empty } := by rw [htold]
  cases hp : s.tables.dirty.program with
  | false =>
    obtain ⟨hended, hanswer⟩ := y.endCommit_answers hcommit rfl hp
    rw [htime, htold] at hanswer
    rw [htold] at hended
    refine ⟨(congrArg Gestures.switchWaiting y.endCommit_gestures).trans (hwaits.trans hp), by rw [hended], by rw [hended], nofun,
      fun _ => ⟨by rw [hended], by rw [hended], hanswer⟩⟩
  | true =>
    rw [y.endCommit_of_more hcommit (.inr hp), htold]
    exact ⟨hwaits.trans hp, rfl, rfl, fun _ => ⟨by rw [State.commitRecord, hp], rfl⟩, nofun⟩

end

theorem Kind.code_injective {j k : Kind} (h : j.code = k.code) : j = k := by
  cases j <;> cases k <;> simp_all [Kind.code]

/-- The first failure by the kinds' codes is the one found (R164). -/
theorem validateKinds_of_first {t : Tables} {ks : KindSet} {k : Kind} {f : Failure} (hk : ks.has k = true)
    (hf : validateKind t k = some f) (hfirst : ∀ j, j.code < k.code → ks.has j = true → validateKind t j = none) :
    validateKinds t ks = some f := by
  cases h : validateKinds t ks with
  | none => exact absurd ((validateKinds_eq_none h k hk).symm.trans hf) nofun
  | some g =>
    obtain ⟨j, hj, hg, hbefore⟩ := validateKinds_eq_some h
    obtain hlt | heq | hgt := Nat.lt_trichotomy j.code k.code
    · exact absurd ((hfirst j hlt hj).symm.trans hg) nofun
    · rw [Kind.code_injective heq] at hg
      exact hg.symm.trans hf
    · exact absurd ((hbefore k hgt hk).symm.trans hf) nofun

/-- What a copy took of a set of kinds is there (R163). -/
theorem Tables.takeKinds_takeKind (a b : Tables) (ks : KindSet) (k : Kind) :
    (a.takeKinds b ks).takeKind (if ks.has k = true then b else a) k = a.takeKinds b ks := by
  have hself := (a.takeKinds b ks).takeKind_self k
  rw [Tables.takeKind_takeKinds] at hself
  split at hself
  next hk => rwa [if_pos hk]
  next hk => rwa [if_neg hk]

/-- Settles O49: a COMMIT by what is staged and the part state, and a completion that finds one pending. -/
theorem commitsSwitchTheDirtyKinds : Obligations.CommitsSwitchTheDirtyKinds := by
  refine ⟨fun s o c i hop hcommit hi => ?_, Tables.takeKinds_takeKind, fun s tag htakes => ?_⟩
  · refine ⟨(s.completed o).setCommit none, ?_, fun hkept => ?_, fun hswitched => ?_⟩
    · rw [← State.completeOperation_setCommit_none]
      exact State.exec_completion (s := s.setCommit none) hop hi
    · rw [State.exec_completion hop hi, State.completeOperation_pending hcommit, if_neg (by rw [hkept]; exact nofun)]
      exact congrArg Host.Outcome.next (State.endCommit_of_switched _ rfl)
    · refine ⟨_, ?_, s.entry_at_completion o (s.tables.switched c)⟩
      have htables : (State.noticeRises ((s.setOp none).applyOperation o)
          ((((s.setOp none).applyOperation o).outcomePen o).setTables (s.tables.switched c)).applyEntry).tables = s.tables.switched c :=
        (State.noticeRises_tables _ _).trans (State.applyEntry_tables _)
      rw [State.exec_completion hop hi, State.completeOperation_pending hcommit, if_pos hswitched,
        State.endCommit_of_switched _ (congrArg TableStore.commit htables),
        show (State.noticeRises _ _).tables.dirty = s.tables.dirty from (congrArg TableStore.dirty htables :)]
  · refine ⟨fun hpending => State.takeWrite_next htakes ?_, fun hnone hclean => State.takeWrite_next htakes ?_,
      fun k f hnone hk hf hfirst => State.takeWrite_next htakes ?_, State.commit_in_hold htakes, State.commit_in_flight htakes,
      State.commit_at_once htakes⟩
    · have hsome : s.tables.commit.isSome = true := Option.isSome_iff_ne_none.mpr hpending
      simp only [State.takeCommit, State.setLinkOut_tables, hsome, if_true]
      exact State.busy_of_takes htakes _ _
    · simp only [State.takeCommit, State.setLinkOut_tables, hnone, KindSet.eq_empty_iff.mpr hclean, Option.isSome_none,
        Bool.false_eq_true, if_false, if_true]
      exact State.done_of_takes htakes _ _ _
    · have hkinds : s.tables.dirty ≠ KindSet.empty := fun h => by
        rw [h, KindSet.eq_empty_iff.mp rfl k] at hk
        cases hk
      simp only [State.takeCommit, State.setLinkOut_tables, hnone, hkinds, validateKinds_of_first hk hf hfirst, Option.isSome_none,
        Bool.false_eq_true, if_false]
      exact State.offerReply_of_room _ tag 0x04 _ _ htakes.2

end Sys2Proof.Machine

/-! Drift (02.4): O24. -/

namespace Sys2Proof.Machine

/-! ## Cells of grids -/

/-- A grid has this value at a cell. -/
def cellIs (g : List (List Nat)) (row col v : Nat) : Prop := ∃ vs, g[row]? = some vs ∧ vs[col]? = some v

theorem cellAt_of_cellIs {g : List (List Nat)} {row col v : Nat} (h : cellIs g row col v) : cellAt g row col = v := by
  obtain ⟨vs, hrow, hcol⟩ := h
  simp [cellAt, List.getD, hrow, hcol]

theorem cellIs_of_gridShaped {u : Surface} {g : List (List Nat)} {row col : Nat} (h : gridShaped u g) (hrow : row < u.rows)
    (hcol : col < u.columns) : cellIs g row col (cellAt g row col) := by
  obtain ⟨hrows, hcolumns⟩ := h
  have hvs : g[row]? = some g[row] := List.getElem?_eq_getElem (hrows ▸ hrow)
  have hlength : col < g[row].length := by rw [hcolumns _ (List.getElem_mem _)]; exact hcol
  have hv : g[row][col]? = some g[row][col] := List.getElem?_eq_getElem hlength
  have hcell : cellIs g row col g[row][col] := ⟨_, hvs, hv⟩
  rwa [cellAt_of_cellIs hcell]

/-! ## The drift step (R26, R27) -/

section
variable {u : Surface} {boxes : List Box} {base raw : List (List Nat)} {row col b r : Nat}

/-- A cell is covered by a box widened by one cell. -/
theorem widened_any_iff (hrow : row < u.rows) (hcol : col < u.columns) :
    ((boxes.map fun b => b.widen 1 u).any fun b => b.holdsCell col row) = true ↔
      ∃ b ∈ boxes, b.c0 ≤ col + 1 ∧ col ≤ b.c1 + 1 ∧ b.r0 ≤ row + 1 ∧ row ≤ b.r1 + 1 := by
  simp only [List.any_map, List.any_eq_true, Function.comp_apply, Box.holdsCell, Box.widen, decide_eq_true_eq]
  refine exists_congr fun b => and_congr_right fun _ => ?_
  omega

theorem driftValues_cell (window : Nat) (hbase : cellIs base row col b) (hraw : cellIs raw row col r) :
    cellAt (driftValues u window boxes base raw) row col =
      if (boxes.map fun b => b.widen 1 u).any (fun b => b.holdsCell col row) then b else driftCell window b r := by
  obtain ⟨bs, hbs, hb⟩ := hbase
  obtain ⟨rs, hrs, hr⟩ := hraw
  have hvalues : (driftValues u window boxes base raw)[row]? = some (List.zipWith (fun (b : Nat × Nat) r =>
      if (boxes.map fun b => b.widen 1 u).any (·.holdsCell b.2 row) then b.1 else driftCell window b.1 r) bs.zipIdx rs) := by
    simp [driftValues, List.getElem?_zipWith, List.getElem?_zipIdx, hbs, hrs]
  exact cellAt_of_cellIs ⟨_, hvalues, by simp [List.getElem?_zipWith, List.getElem?_zipIdx, hb, hr]⟩

theorem gap_eq (a b : Nat) : gap a b = max a b - min a b := by
  unfold gap
  split <;> omega

theorem driftCell_spec (window : Nat) :
    (gap b r ≤ window → (b < r → driftCell window b r = b + 1) ∧ (r < b → driftCell window b r + 1 = b) ∧ (r = b → driftCell window b r = b)) ∧
      (window < gap b r → driftCell window b r = b) := by
  unfold driftCell
  refine ⟨fun hnear => ?_, fun hfar => if_pos hfar⟩
  rw [if_neg (by omega)]
  refine ⟨fun h => if_pos h, fun h => ?_, fun h => ?_⟩
  · rw [if_neg (by omega), if_pos h]
    omega
  · rw [if_neg (by omega), if_neg (by omega)]

/-- Settles O24: a cell's drift by the frame's count, the window and the boxes. -/
theorem driftMovesOneCount : Obligations.DriftMovesOneCount := by
  intro sn u boxes raw row col hbase hraw hrow hcol
  have hvalues : (liveBase sn u boxes raw).values =
      if (sn.base.drift + 1) % 2 ^ driftShift sn.tables.tune = 0 ∧
        antiTouchCells (recapThreshold sn.tables.tune) sn.base.values raw < recapCells sn.tables.tune then
        driftValues u (driftWindow sn.tables.tune) boxes sn.base.values raw
      else sn.base.values := by
    refine if_congr ?_ rfl rfl
    rw [Bool.and_eq_true, Bool.not_eq_true', antiTouch, decide_eq_true_eq, decide_eq_false_iff_not, Nat.not_le]
    rfl
  have hcell := driftValues_cell (u := u) (boxes := boxes) (driftWindow sn.tables.tune) (cellIs_of_gridShaped hbase hrow hcol)
    (cellIs_of_gridShaped hraw hrow hcol)
  have hcovered := widened_any_iff (boxes := boxes) hrow hcol
  dsimp only
  rw [hvalues]
  generalize hold : cellAt sn.base.values row col = old at *
  generalize cellAt raw row col = r at *
  obtain ⟨hnear, hfar⟩ := driftCell_spec (b := old) (r := r) (driftWindow sn.tables.tune)
  rw [gap_eq] at hnear hfar
  by_cases hframe : (sn.base.drift + 1) % 2 ^ driftShift sn.tables.tune = 0 ∧
      antiTouchCells (recapThreshold sn.tables.tune) sn.base.values raw < recapCells sn.tables.tune
  · obtain ⟨hdrift, htouch⟩ := id hframe
    rw [if_pos hframe, hcell]
    by_cases hcover : ∃ b ∈ boxes, b.c0 ≤ col + 1 ∧ col ≤ b.c1 + 1 ∧ b.r0 ≤ row + 1 ∧ row ≤ b.r1 + 1
    · rw [if_pos (hcovered.mpr hcover)]
      have hstays : ¬ ((sn.base.drift + 1) % 2 ^ driftShift sn.tables.tune = 0 ∧
          antiTouchCells (recapThreshold sn.tables.tune) sn.base.values raw < recapCells sn.tables.tune ∧
          max old r - min old r ≤ driftWindow sn.tables.tune ∧ ¬ ∃ b ∈ boxes, b.c0 ≤ col + 1 ∧ col ≤ b.c1 + 1 ∧ b.r0 ≤ row + 1 ∧ row ≤ b.r1 + 1) :=
        fun ⟨_, _, _, hfree⟩ => hfree hcover
      exact ⟨fun h => absurd h hstays, fun h => absurd h hstays, fun h => absurd h hstays, fun _ => rfl⟩
    · rw [if_neg fun h => hcover (hcovered.mp h)]
      refine ⟨fun ⟨_, _, hle, _⟩ => (hnear hle).1, fun ⟨_, _, hle, _⟩ => (hnear hle).2.1, fun ⟨_, _, hle, _⟩ => (hnear hle).2.2,
        fun h => hfar ?_⟩
      exact Nat.lt_of_not_le fun hle => h ⟨hdrift, htouch, hle, hcover⟩
  · rw [if_neg hframe]
    have hstays {p q : Prop} : ¬ ((sn.base.drift + 1) % 2 ^ driftShift sn.tables.tune = 0 ∧
        antiTouchCells (recapThreshold sn.tables.tune) sn.base.values raw < recapCells sn.tables.tune ∧ p ∧ q) :=
      fun ⟨hdrift, htouch, _⟩ => hframe ⟨hdrift, htouch⟩
    exact ⟨fun h => absurd h hstays, fun h => absurd h hstays, fun h => absurd h hstays, fun _ => hold⟩

end

end Sys2Proof.Machine

/-! Blobs (03.1): O25. -/

namespace Sys2Proof.Machine

/-! ## Set cells (R34) -/

theorem zipIdx_pairwise {α : Type} (l : List α) : l.zipIdx.Pairwise fun a b => a.2 < b.2 :=
  List.pairwise_map.mp (List.zipIdx_map_snd 0 l ▸ List.pairwise_lt_range')

section
variable {threshold : Nat} {grid : List (List Nat)}

theorem mem_setCells {c : SetCell} : c ∈ setCells threshold grid ↔
    threshold ≤ c.delta ∧ ∃ row, grid[c.row]? = some row ∧ row[c.col]? = some c.delta := by
  simp only [setCells, List.mem_flatMap, List.mem_filterMap, Prod.exists, List.mk_mem_zipIdx_iff_getElem?,
    Option.ite_none_right_eq_some, Option.some.injEq]
  constructor
  · rintro ⟨ds, r, hrow, d, i, hcell, hset, rfl⟩
    exact ⟨hset, ds, hrow, hcell⟩
  · rintro ⟨hset, ds, hrow, hcell⟩
    exact ⟨ds, c.row, hrow, c.delta, c.col, hcell, hset, rfl⟩

theorem SetCell.before_iff {a b : SetCell} : a.before b = true ↔ a.row < b.row ∨ (a.row = b.row ∧ a.col < b.col) := by
  simp [SetCell.before]

/-- The set cells come in row-major order. -/
theorem setCells_ordered : (setCells threshold grid).Pairwise fun a b => a.before b = true := by
  rw [setCells, List.pairwise_flatMap]
  have hcell {ds : List Nat} {r : Nat} {x : SetCell}
      (hx : x ∈ ds.zipIdx.filterMap fun (d, c) => if threshold ≤ d then some (⟨c, r, d⟩ : SetCell) else none) : x.row = r := by
    obtain ⟨⟨d, i⟩, -, hd⟩ := List.mem_filterMap.mp hx
    obtain ⟨-, hd⟩ := Option.ite_none_right_eq_some.mp hd
    cases hd
    rfl
  constructor
  · rintro ⟨ds, r⟩ -
    refine List.pairwise_filterMap.mpr ((zipIdx_pairwise ds).imp fun {a a'} hlt x hx y hy => ?_)
    obtain ⟨-, hx⟩ := Option.ite_none_right_eq_some.mp hx
    obtain ⟨-, hy⟩ := Option.ite_none_right_eq_some.mp hy
    cases hx
    cases hy
    exact SetCell.before_iff.mpr (.inr ⟨rfl, hlt⟩)
  · refine (zipIdx_pairwise grid).imp fun {a a'} hlt x hx y hy => SetCell.before_iff.mpr (.inl ?_)
    rw [hcell hx, hcell hy]
    exact hlt

end

/-! ## A group grown (R35) -/

theorem touchesGroup_iff {group : List SetCell} {c : SetCell} :
    touchesGroup group c = true ↔ ∃ x ∈ group, x.adjoins c = true := List.any_eq_true

/-- A step between adjoining cells of a group. -/
def stepsIn (b : List SetCell) (p q : SetCell) : Prop := p ∈ b ∧ q ∈ b ∧ p.adjoins q = true

/-- Every cell of a group is reached from one of them. -/
def reachedFrom (first : SetCell) (b : List SetCell) : Prop := ∀ x ∈ b, Relation.ReflTransGen (stepsIn b) first x

theorem reachedFrom.grow {first : SetCell} {b near : List SetCell} (h : reachedFrom first b)
    (hnear : ∀ c ∈ near, touchesGroup b c = true) : reachedFrom first (b ++ near) := by
  have hmono {p q : SetCell} (hpq : stepsIn b p q) : stepsIn (b ++ near) p q :=
    ⟨List.mem_append_left _ hpq.1, List.mem_append_left _ hpq.2.1, hpq.2.2⟩
  have hold {x : SetCell} (hx : x ∈ b) : Relation.ReflTransGen (stepsIn (b ++ near)) first x := Relation.ReflTransGen.mono (fun _ _ => hmono) first x (h x hx)
  intro x hx
  obtain hx | hx := List.mem_append.mp hx
  · exact hold hx
  · obtain ⟨y, hy, hadjoins⟩ := touchesGroup_iff.mp (hnear x hx)
    exact (hold hy).tail ⟨List.mem_append_left _ hy, List.mem_append_right _ hx, hadjoins⟩

/-- A group and what growing makes of it and of the cells outside: cells of the rest joined it, all are reached,
and nothing that stays outside adjoins it. -/
def grows (first : SetCell) (group rest : List SetCell) (g : List SetCell × List SetCell) : Prop :=
  ∃ more, g.1 = group ++ more ∧ (more ++ g.2).Perm rest ∧ g.2.Sublist rest ∧ reachedFrom first g.1 ∧
    ∀ x ∈ g.1, ∀ y ∈ g.2, x.adjoins y = false

theorem growBlob_grows {first : SetCell} (fuel : Nat) (group rest : List SetCell) (hfuel : rest.length ≤ fuel)
    (hreached : reachedFrom first group) : grows first group rest (growBlob fuel group rest) := by
  induction fuel generalizing group rest with
  | zero =>
    obtain rfl : rest = [] := List.length_eq_zero_iff.mp (Nat.le_zero.mp hfuel)
    exact ⟨[], (List.append_nil _).symm, .refl _, .refl _, hreached, fun _ _ y hy => absurd hy List.not_mem_nil⟩
  | succ fuel ih =>
    unfold growBlob
    dsimp only
    split
    next hnone =>
      refine ⟨[], (List.append_nil _).symm, .refl _, .refl _, hreached, fun x hx y hy => Bool.eq_false_iff.mpr fun hadjoins => ?_⟩
      have hnear : y ∈ rest.filter (touchesGroup group) := List.mem_filter.mpr ⟨hy, touchesGroup_iff.mpr ⟨x, hx, hadjoins⟩⟩
      rw [List.isEmpty_iff.mp hnone] at hnear
      exact absurd hnear List.not_mem_nil
    next hsome =>
      have hsplit := List.filter_append_perm (touchesGroup group) rest
      have hlength : (rest.filter fun c => !touchesGroup group c).length ≤ fuel := by
        have hpos : 0 < (rest.filter (touchesGroup group)).length :=
          List.length_pos_iff.mpr fun h => hsome (List.isEmpty_iff.mpr h)
        have hsum := hsplit.length_eq
        rw [List.length_append] at hsum
        omega
      obtain ⟨more, hmore, hperm, hsub, hgrown, hapart⟩ :=
        ih (group ++ rest.filter (touchesGroup group)) (rest.filter fun c => !touchesGroup group c) hlength
          (hreached.grow fun c hc => (List.mem_filter.mp hc).2)
      refine ⟨rest.filter (touchesGroup group) ++ more, by rw [hmore, List.append_assoc], ?_, hsub.trans List.filter_sublist,
        hgrown, hapart⟩
      rw [List.append_assoc]
      exact (hperm.append_left _).trans hsplit

/-! ## The blobs in formation order (R36) -/

/-- A blob begins with its first cell and is connected. -/
def blobOf (b : List SetCell) : Prop :=
  ∃ first rest, b = first :: rest ∧ (∀ x ∈ rest, first.before x = true) ∧ reachedFrom first b

/-- Two blobs are apart, and their first cells in order. -/
def apartInOrder (a b : List SetCell) : Prop :=
  (∀ x ∈ a, ∀ y ∈ b, x.adjoins y = false) ∧ ∀ x ∈ a.head?, ∀ y ∈ b.head?, x.before y = true

theorem formBlobs_spec (fuel : Nat) (cells : List SetCell) (hfuel : cells.length ≤ fuel)
    (hordered : cells.Pairwise fun a b => a.before b = true) :
    (formBlobs fuel cells).flatten.Perm cells ∧ (∀ b ∈ formBlobs fuel cells, blobOf b) ∧
      (formBlobs fuel cells).Pairwise apartInOrder := by
  induction fuel generalizing cells with
  | zero =>
    obtain rfl : cells = [] := List.length_eq_zero_iff.mp (Nat.le_zero.mp hfuel)
    exact ⟨.refl _, fun b hb => absurd hb List.not_mem_nil, .nil⟩
  | succ fuel ih =>
    cases cells with
    | nil => exact ⟨.refl _, fun b hb => absurd hb List.not_mem_nil, .nil⟩
    | cons c rest =>
      obtain ⟨hbefore, hrest⟩ := List.pairwise_cons.mp hordered
      have hsingle : reachedFrom c [c] := fun x hx => by rw [List.mem_singleton.mp hx]
      obtain ⟨more, hmore, hperm, hsub, hreached, hapart⟩ := growBlob_grows rest.length [c] rest le_rfl hsingle
      have hblobs : formBlobs (fuel + 1) (c :: rest) =
          (growBlob rest.length [c] rest).1 :: formBlobs fuel (growBlob rest.length [c] rest).2 := rfl
      rw [hblobs]
      generalize growBlob rest.length [c] rest = g at *
      have hlength : g.2.length ≤ fuel := hsub.length_le.trans (Nat.le_of_succ_le_succ hfuel)
      obtain ⟨hflat, hall, hpairs⟩ := ih g.2 hlength (hrest.sublist hsub)
      have hinside {x : SetCell} {b : List SetCell} (hb : b ∈ formBlobs fuel g.2) (hx : x ∈ b) : x ∈ g.2 :=
        hflat.mem_iff.mp (List.mem_flatten.mpr ⟨b, hb, hx⟩)
      refine ⟨?_, fun b hb => ?_, List.pairwise_cons.mpr ⟨fun b hb => ⟨fun x hx y hy => hapart x hx y (hinside hb hy), ?_⟩, hpairs⟩⟩
      · rw [List.flatten_cons, hmore, List.singleton_append, List.cons_append]
        exact ((hflat.append_left more).trans hperm).cons c
      · obtain rfl | hb := List.mem_cons.mp hb
        · exact ⟨c, more, hmore, fun x hx => hbefore x (hperm.mem_iff.mp (List.mem_append_left _ hx)), hreached⟩
        · exact hall b hb
      · intro x hx y hy
        rw [hmore] at hx
        cases hx
        exact hbefore y (hsub.subset (hinside hb (List.mem_of_mem_head? hy)))

/-- Settles O25: blobs grow from the first of the cells left. -/
theorem blobsPartitionTheSetCells : Obligations.BlobsPartitionTheSetCells := by
  intro threshold grid
  obtain ⟨hflat, hblobs, hpairs⟩ := formBlobs_spec _ (setCells threshold grid) le_rfl setCells_ordered
  exact ⟨hflat, fun c => mem_setCells, hblobs, hpairs⟩

end Sys2Proof.Machine

/-! The ten-blob limit and extraction (03.2 to 03.5): O27. -/

namespace Sys2Proof.Machine

/-! ## Least and greatest -/

theorem foldl_max_spec (l : List Nat) (a : Nat) :
    a ≤ l.foldl max a ∧ (∀ x ∈ l, x ≤ l.foldl max a) ∧ (l.foldl max a = a ∨ l.foldl max a ∈ l) := by
  induction l generalizing a with
  | nil => simp
  | cons b l ih =>
    obtain ⟨hstart, hall, hmem⟩ := ih (max a b)
    rw [List.foldl_cons]
    refine ⟨by omega, fun x hx => ?_, ?_⟩
    · obtain rfl | hx := List.mem_cons.mp hx
      · omega
      · exact hall x hx
    · obtain heq | hin := hmem
      · rw [heq, List.mem_cons]
        omega
      · exact .inr (List.mem_cons_of_mem _ hin)

theorem foldl_min_spec (l : List Nat) (a : Nat) :
    l.foldl min a ≤ a ∧ (∀ x ∈ l, l.foldl min a ≤ x) ∧ (l.foldl min a = a ∨ l.foldl min a ∈ l) := by
  induction l generalizing a with
  | nil => simp
  | cons b l ih =>
    obtain ⟨hstart, hall, hmem⟩ := ih (min a b)
    rw [List.foldl_cons]
    refine ⟨by omega, fun x hx => ?_, ?_⟩
    · obtain rfl | hx := List.mem_cons.mp hx
      · omega
      · exact hall x hx
    · obtain heq | hin := hmem
      · rw [heq, List.mem_cons]
        omega
      · exact .inr (List.mem_cons_of_mem _ hin)

theorem le_natMax {l : List Nat} {x : Nat} (h : x ∈ l) : x ≤ natMax l := (foldl_max_spec l 0).2.1 x h

theorem natMax_mem {l : List Nat} (h : l ≠ []) : natMax l ∈ l := by
  obtain ⟨-, hall, heq | hmem⟩ := foldl_max_spec l 0
  · obtain ⟨a, l', rfl⟩ := List.exists_cons_of_ne_nil h
    have ha : a = 0 := Nat.le_zero.mp (heq ▸ hall a List.mem_cons_self)
    exact List.mem_cons.mpr (.inl (heq.trans ha.symm))
  · exact hmem

theorem natMin_le {l : List Nat} {x : Nat} (h : x ∈ l) : natMin l ≤ x := by
  cases l with
  | nil => exact absurd h List.not_mem_nil
  | cons a l =>
    obtain ⟨hstart, hall, -⟩ := foldl_min_spec l a
    obtain rfl | h := List.mem_cons.mp h
    · exact hstart
    · exact hall x h

theorem natMin_mem {l : List Nat} (h : l ≠ []) : natMin l ∈ l := by
  obtain ⟨a, l, rfl⟩ := List.exists_cons_of_ne_nil h
  obtain ⟨-, -, heq | hmem⟩ := foldl_min_spec l a
  · exact List.mem_cons.mpr (.inl heq)
  · exact List.mem_cons_of_mem _ hmem

/-! ## The box of a blob (R40) -/

section
variable {b : List SetCell}

theorem blobBox_holds {c : SetCell} (h : c ∈ b) :
    (blobBox b).c0 ≤ c.col ∧ c.col ≤ (blobBox b).c1 ∧ (blobBox b).r0 ≤ c.row ∧ c.row ≤ (blobBox b).r1 :=
  ⟨natMin_le (List.mem_map_of_mem h), le_natMax (List.mem_map_of_mem h), natMin_le (List.mem_map_of_mem h),
    le_natMax (List.mem_map_of_mem h)⟩

theorem blobBox_tight (h : b ≠ []) : (∃ c ∈ b, c.col = (blobBox b).c0) ∧ (∃ c ∈ b, c.col = (blobBox b).c1) ∧
    (∃ c ∈ b, c.row = (blobBox b).r0) ∧ ∃ c ∈ b, c.row = (blobBox b).r1 := by
  have hmap (f : SetCell → Nat) : b.map f ≠ [] := by simpa using h
  exact ⟨List.mem_map.mp (natMin_mem (hmap _)), List.mem_map.mp (natMax_mem (hmap _)), List.mem_map.mp (natMin_mem (hmap _)),
    List.mem_map.mp (natMax_mem (hmap _))⟩

theorem frameBlobs_ne_nil {threshold : Nat} {grid : List (List Nat)} (h : b ∈ frameBlobs threshold grid) : b ≠ [] := by
  obtain ⟨-, hblobs, -⟩ := formBlobs_spec _ (setCells threshold grid) le_rfl setCells_ordered
  obtain ⟨first, rest, rfl, -⟩ := hblobs b h
  exact List.cons_ne_nil _ _

end

/-! ## Ranks (R37) -/

section
variable {above : Nat → Nat → Prop} [DecidableRel above] {n : Nat}

/-- How many of the first `n` indices stand above one. -/
def rankIn (above : Nat → Nat → Prop) [DecidableRel above] (n i : Nat) : Nat := ((Finset.range n).filter (above · i)).card

theorem rankIn_lt_of_above (hirrefl : ∀ i, ¬ above i i) (htrans : ∀ i j k, above i j → above j k → above i k) {i j : Nat} (hi : i < n)
    (h : above i j) : rankIn above n i < rankIn above n j := by
  refine Finset.card_lt_card (Finset.ssubset_iff_of_subset (fun k hk => ?_) |>.mpr ⟨i, ?_, ?_⟩)
  · obtain ⟨hkn, hki⟩ := Finset.mem_filter.mp hk
    exact Finset.mem_filter.mpr ⟨hkn, htrans k i j hki h⟩
  · exact Finset.mem_filter.mpr ⟨Finset.mem_range.mpr hi, h⟩
  · exact fun hmem => hirrefl i (Finset.mem_filter.mp hmem).2

/-- In a strict order of all indices, as many have a rank below a limit as the limit allows. -/
theorem card_rankIn_lt (hirrefl : ∀ i, ¬ above i i) (htrans : ∀ i j k, above i j → above j k → above i k)
    (htotal : ∀ i j, i ≠ j → above i j ∨ above j i) (limit : Nat) :
    ((Finset.range n).filter (fun i => rankIn above n i < limit)).card = min n limit := by
  have hinj : Set.InjOn (rankIn above n) (Finset.range n) := by
    intro i hi j hj heq
    by_contra hne
    obtain h | h := htotal i j hne
    · exact absurd heq (rankIn_lt_of_above hirrefl htrans (Finset.mem_range.mp hi) h).ne
    · exact absurd heq (rankIn_lt_of_above hirrefl htrans (Finset.mem_range.mp hj) h).ne'
  have hinto : (Finset.range n).image (rankIn above n) ⊆ Finset.range n := by
    intro r hr
    obtain ⟨i, hi, rfl⟩ := Finset.mem_image.mp hr
    have hsub : (Finset.range n).filter (above · i) ⊂ Finset.range n :=
      Finset.filter_ssubset.mpr ⟨i, hi, hirrefl i⟩
    have hlt := Finset.card_lt_card hsub
    rw [Finset.card_range] at hlt
    exact Finset.mem_range.mpr hlt
  have honto : (Finset.range n).image (rankIn above n) = Finset.range n :=
    Finset.eq_of_subset_of_card_le hinto (Finset.card_image_of_injOn hinj).ge
  calc ((Finset.range n).filter (fun i => rankIn above n i < limit)).card
      = (((Finset.range n).filter (fun i => rankIn above n i < limit)).image (rankIn above n)).card :=
        (Finset.card_image_of_injOn (hinj.mono (Finset.coe_subset.mpr (Finset.filter_subset _ _)))).symm
    _ = (((Finset.range n).image (rankIn above n)).filter (· < limit)).card := by rw [Finset.filter_image]
    _ = ((Finset.range n).filter (· < limit)).card := by rw [honto]
    _ = min n limit := by
        have hrange : (Finset.range n).filter (· < limit) = Finset.range (min n limit) := by
          ext k
          simp
        rw [hrange, Finset.card_range]

end

/-! ## The blobs that are kept (R37) -/

/-- A blob ranks above another: a higher peak, or the same peak and an earlier place. -/
def ranksOver (bs : List (List SetCell)) (j i : Nat) : Prop :=
  blobPeak (bs.getD i []) < blobPeak (bs.getD j []) ∨ (blobPeak (bs.getD j []) = blobPeak (bs.getD i []) ∧ j < i)

theorem ranksOver_irrefl (bs : List (List SetCell)) (i : Nat) : ¬ ranksOver bs i i := by
  unfold ranksOver
  omega

theorem ranksOver_trans (bs : List (List SetCell)) (i j k : Nat) (h : ranksOver bs i j) (h' : ranksOver bs j k) : ranksOver bs i k := by
  unfold ranksOver at *
  omega

theorem ranksOver_total (bs : List (List SetCell)) (i j : Nat) (h : i ≠ j) : ranksOver bs i j ∨ ranksOver bs j i := by
  unfold ranksOver
  omega

section
variable (bs : List (List SetCell)) [DecidableRel (ranksOver bs)]

/-- The indices of the blobs that the limit keeps. -/
def keptIndices : List Nat := (List.range bs.length).filter fun i => decide (rankIn (ranksOver bs) bs.length i < 10)

theorem ranksAbove_eq (i : Nat) : ranksAbove (bs.map blobPeak).zipIdx (blobPeak (bs.getD i [])) i = rankIn (ranksOver bs) bs.length i := by
  have hpeaks : (bs.map blobPeak).zipIdx = (List.range bs.length).map fun j => (blobPeak (bs.getD j []), j) := by
    have hmap : bs.map blobPeak = (List.range bs.length).map fun j => blobPeak (bs.getD j []) :=
      List.ext_getElem (by simp) fun j h _ => by
        have hj : j < bs.length := by simpa using h
        simp [hj]
    rw [hmap, zipIdx_map_range]
  have hcount : rankIn (ranksOver bs) bs.length i = (List.range bs.length).countP fun j => decide (ranksOver bs j i) := by
    rw [rankIn, List.countP_eq_length_filter]
    rfl
  rw [ranksAbove, hpeaks, List.countP_map, hcount]
  refine List.countP_congr fun j _ => ?_
  simp [ranksOver]

theorem keptBlobs_eq : keptBlobs bs = (keptIndices bs).map fun i => bs.getD i [] := by
  have hkept : keptBlobs bs = (List.range bs.length).filterMap fun i =>
      if rankIn (ranksOver bs) bs.length i < 10 then some (bs.getD i []) else none := by
    rw [keptBlobs, zipIdx_filterMap]
    refine List.filterMap_congr fun i hi => ?_
    have hget : bs[i]? = some (bs.getD i []) := by simp [List.mem_range.mp hi]
    rw [hget, Option.bind_some]
    dsimp only
    rw [ranksAbove_eq]
  rw [hkept, keptIndices, ← List.filterMap_eq_map, List.filterMap_filter]
  exact List.filterMap_congr fun i _ => by simp

theorem keptIndices_spec : (keptIndices bs).Pairwise (· < ·) ∧ (∀ i ∈ keptIndices bs, i < bs.length) ∧
    (keptIndices bs).length = min bs.length 10 ∧
    ∀ i ∈ keptIndices bs, ∀ j, j < bs.length → j ∉ keptIndices bs → ranksOver bs i j := by
  have hmem {i : Nat} : i ∈ keptIndices bs ↔ i < bs.length ∧ rankIn (ranksOver bs) bs.length i < 10 := by
    simp [keptIndices]
  have hirrefl := ranksOver_irrefl bs
  have htrans := ranksOver_trans bs
  refine ⟨List.pairwise_lt_range.filter _, fun i hi => (hmem.mp hi).1, ?_, fun i hi j hj hdropped => ?_⟩
  · rw [← card_rankIn_lt hirrefl htrans (ranksOver_total bs) 10]
    rfl
  · obtain ⟨-, hrank⟩ := hmem.mp hi
    have hlow : 10 ≤ rankIn (ranksOver bs) bs.length j := Nat.le_of_not_lt fun h => hdropped (hmem.mpr ⟨hj, h⟩)
    have hne : i ≠ j := fun h => hdropped (h ▸ hi)
    refine (ranksOver_total bs i j hne).resolve_right fun h => ?_
    have hlt := rankIn_lt_of_above hirrefl htrans hj h
    omega

end

/-! ## Extraction (R38, R45, R46) -/

theorem sqDist_eq (p q : Pos) : (sqDist p q : Int) = ((p.x : Int) - q.x) ^ 2 + ((p.y : Int) - q.y) ^ 2 := by
  have hgap (a b : Nat) : ((gap a b : Nat) : Int) ^ 2 = ((a : Int) - b) ^ 2 := by
    unfold gap
    split
    next h => rw [Nat.cast_sub h]; ring
    next h => rw [Nat.cast_sub (Nat.le_of_not_le h)]
  rw [sqDist, Nat.cast_add, Nat.cast_pow, Nat.cast_pow, hgap, hgap]

theorem underNib_eq_false {t : List Nat} {pen : Pos} {b : Blob} : underNib t pen b = false ↔
    (nibRadius t : Int) ^ 2 < ((b.pos.x : Int) - pen.x) ^ 2 + ((b.pos.y : Int) - pen.y) ^ 2 := by
  rw [underNib, decide_eq_false_iff_not, Nat.not_le, ← sqDist_eq]
  norm_cast

/-- Settles O27: the ten blobs of the highest ranks, and what extraction hands on. -/
theorem tenBlobLimitKeepsTheHighest : Obligations.TenBlobLimitKeepsTheHighest := by
  classical
  refine ⟨fun bs => ?_, fun sn u f => ⟨rfl, fun hu hink => ?_, fun hother => ?_, rfl, decide_eq_true_iff, fun b hb =>
    ⟨fun c hc => blobBox_holds hc, blobBox_tight (frameBlobs_ne_nil hb)⟩⟩⟩
  · obtain ⟨hordered, hlt, hlength, hdropped⟩ := keptIndices_spec bs
    exact ⟨keptIndices bs, hordered, hlt, hlength, keptBlobs_eq bs, fun i hi j hj hgone =>
      (hdropped i hi j hj hgone).imp_right fun ⟨heq, hij⟩ => ⟨heq.symm, hij⟩⟩
  · refine List.filter_congr fun b _ => ?_
    have hexcludes : (u == .panel && sn.pen == .ink) = true := by simp [hu, hink]
    rw [hexcludes, Bool.true_and]
    rw [Bool.eq_iff_iff, decide_eq_true_eq, Bool.not_eq_true']
    exact underNib_eq_false
  · have hexcludes : (u == .panel && sn.pen == .ink) = false := by
      obtain h | h := hother <;> simp [h]
    refine List.filter_eq_self.mpr fun b _ => ?_
    rw [hexcludes]
    rfl

end Sys2Proof.Machine

/-! The features of blobs (03.3): O26. -/

namespace Sys2Proof.Machine

/-! ## Sums -/

theorem natSum_eq (l : List Nat) : natSum l = l.sum := List.sum_eq_foldl.symm

theorem natSum_map_le {α : Type} {f g : α → Nat} {l : List α} (h : ∀ x ∈ l, f x ≤ g x) : natSum (l.map f) ≤ natSum (l.map g) := by
  rw [natSum_eq, natSum_eq]
  exact List.sum_le_sum h

theorem length_mul_le_natSum {l : List Nat} {n : Nat} (h : ∀ x ∈ l, n ≤ x) : l.length * n ≤ natSum l := by
  rw [natSum_eq]
  exact List.card_nsmul_le_sum l n h

theorem natSum_le_length_mul {l : List Nat} {n : Nat} (h : ∀ x ∈ l, x ≤ n) : natSum l ≤ l.length * n := by
  rw [natSum_eq]
  exact List.sum_le_card_nsmul l n h

theorem natSum_map_mul {α : Type} (f : α → Nat) (n : Nat) (l : List α) : natSum (l.map fun x => f x * n) = natSum (l.map f) * n := by
  rw [natSum_eq, natSum_eq]
  exact List.sum_map_mul_right l f n

/-! ## The cells of a frame (R25, R34) -/

section
variable {u : Surface} {base raw : List (List Nat)} {threshold : Nat} {b : List SetCell}

theorem mem_of_frameBlobs {grid : List (List Nat)} (h : b ∈ frameBlobs threshold grid) {c : SetCell} (hc : c ∈ b) :
    c ∈ setCells threshold grid := by
  obtain ⟨hflat, -, -⟩ := formBlobs_spec _ (setCells threshold grid) le_rfl setCells_ordered
  exact hflat.mem_iff.mp (List.mem_flatten.mpr ⟨b, h, hc⟩)

theorem length_frameBlob_le {grid : List (List Nat)} (h : b ∈ frameBlobs threshold grid) : b.length ≤ (setCells threshold grid).length := by
  obtain ⟨hflat, -, -⟩ := formBlobs_spec _ (setCells threshold grid) le_rfl setCells_ordered
  exact (List.sublist_flatten_of_mem h).length_le.trans hflat.length_eq.le

theorem length_setCells_le {grid : List (List Nat)} (hgrid : gridShaped u grid) : (setCells threshold grid).length ≤ u.rows * u.columns := by
  obtain ⟨hrows, hcolumns⟩ := hgrid
  rw [setCells, List.length_flatMap]
  refine (List.sum_le_card_nsmul _ u.columns fun n hn => ?_).trans ?_
  · obtain ⟨⟨ds, r⟩, hmem, rfl⟩ := List.mem_map.mp hn
    have hds : ds ∈ grid := List.mem_of_getElem? (List.mk_mem_zipIdx_iff_getElem?.mp hmem)
    refine (List.length_filterMap_le _ _).trans ?_
    rw [List.length_zipIdx, hcolumns ds hds]
  · rw [List.length_map, List.length_zipIdx, hrows]
    rfl

theorem deltaGrid_shaped (hbase : gridShaped u base) (hraw : gridShaped u raw) : gridShaped u (deltaGrid base raw) := by
  obtain ⟨hrows, hcolumns⟩ := hbase
  obtain ⟨hrows', hcolumns'⟩ := hraw
  refine ⟨by simp [deltaGrid, zipGrid, hrows, hrows'], fun row hrow => ?_⟩
  obtain ⟨i, hi, rfl⟩ := List.mem_iff_getElem.mp hrow
  simp only [deltaGrid, zipGrid, List.length_zipWith, lt_min_iff, List.getElem_zipWith] at hi ⊢
  rw [hcolumns _ (List.getElem_mem _), hcolumns' _ (List.getElem_mem _), min_self]

/-- A set cell of a frame lies on the surface, its delta within the threshold to 2047. -/
theorem setCell_within (hbase : gridShaped u base) (hraw : gridShaped u raw) {c : SetCell}
    (hc : c ∈ setCells threshold (deltaGrid base raw)) :
    c.col < u.columns ∧ c.row < u.rows ∧ threshold ≤ c.delta ∧ c.delta ≤ 2047 := by
  obtain ⟨hset, row, hrow, hcell⟩ := mem_setCells.mp hc
  obtain ⟨hrows, hcolumns⟩ := deltaGrid_shaped hbase hraw
  obtain ⟨hr, rfl⟩ := List.getElem?_eq_some_iff.mp hrow
  obtain ⟨hcol, hdelta⟩ := List.getElem?_eq_some_iff.mp hcell
  rw [hcolumns _ (List.getElem_mem _)] at hcol
  refine ⟨hcol, hrows ▸ hr, hset, ?_⟩
  rw [← hdelta]
  simp only [deltaGrid, zipGrid, List.getElem_zipWith]
  exact Nat.min_le_right _ _

/-! ## The centroid (R42) -/

theorem weightedMean_within (f : SetCell → Nat) {lo hi : Nat} (hb : b ≠ []) (hf : ∀ c ∈ b, lo ≤ f c ∧ f c ≤ hi) :
    64 * lo ≤ weightedMean threshold f b ∧ weightedMean threshold f b ≤ 64 * hi := by
  have hpos : 0 < natSum (b.map (SetCell.weight threshold)) := by
    have hone : ∀ w ∈ b.map (SetCell.weight threshold), 1 ≤ w := by simp [SetCell.weight]
    have hsum := length_mul_le_natSum hone
    have hlength : 0 < b.length := List.length_pos_iff.mpr hb
    rw [List.length_map] at hsum
    omega
  have hlow : natSum (b.map (SetCell.weight threshold)) * lo ≤ natSum (b.map fun c => c.weight threshold * f c) := by
    rw [← natSum_map_mul]
    exact natSum_map_le fun c hc => Nat.mul_le_mul_left _ (hf c hc).1
  have hhigh : natSum (b.map fun c => c.weight threshold * f c) ≤ natSum (b.map (SetCell.weight threshold)) * hi := by
    rw [← natSum_map_mul]
    exact natSum_map_le fun c hc => Nat.mul_le_mul_left _ (hf c hc).2
  unfold weightedMean
  generalize natSum (b.map (SetCell.weight threshold)) = w at *
  generalize natSum (b.map fun c => c.weight threshold * f c) = x at *
  refine ⟨(Nat.le_div_iff_mul_le hpos).mpr ?_, Nat.le_of_lt_succ ((Nat.div_lt_iff_lt_mul hpos).mpr ?_)⟩
  · calc 64 * lo * w = 64 * (w * lo) := by ring
      _ ≤ 64 * x := Nat.mul_le_mul_left _ hlow
      _ ≤ 64 * x + w / 2 := Nat.le_add_right _ _
  · calc 64 * x + w / 2 < 64 * (w * hi) + w := by omega
      _ = (64 * hi + 1) * w := by ring

end

/-! ## Flatness and elongation (R43, R44) -/

theorem flatness_within {sum area peak : Nat} (h : sum ≤ area * peak) : 1 ≤ flatness sum area peak ∧ flatness sum area peak ≤ 256 := by
  have hdiv : 256 * sum / (area * peak) ≤ 256 := Nat.div_le_of_le_mul (by rw [Nat.mul_comm (area * peak)]; omega)
  unfold flatness
  omega

theorem elongation_within {box : Box} {u : Surface} (hc : box.c1 < u.columns) (hr : box.r1 < u.rows) :
    16 ≤ elongation box ∧ elongation box ≤ 16 * max u.columns u.rows := by
  have hwidth : 1 ≤ box.width ∧ box.width ≤ u.columns := by unfold Box.width; omega
  have hheight : 1 ≤ box.height ∧ box.height ≤ u.rows := by unfold Box.height; omega
  unfold elongation
  generalize box.width = w at *
  generalize box.height = h at *
  refine ⟨(Nat.le_div_iff_mul_le (by omega)).mpr (by omega), (Nat.div_le_self _ _).trans (by omega)⟩

/-- Settles O26: each feature from the cells of its blob. -/
theorem blobMeasuresStayInRange : Obligations.BlobMeasuresStayInRange := by
  intro t u base raw b hbase hraw hthreshold hzone hb
  have hne := frameBlobs_ne_nil hb
  have hcells {c : SetCell} (hc : c ∈ b) := setCell_within hbase hraw (mem_of_frameBlobs hb hc)
  have harea : 1 ≤ b.length := List.length_pos_iff.mpr hne
  have hbound : b.length ≤ u.rows * u.columns := (length_frameBlob_le hb).trans (length_setCells_le (deltaGrid_shaped hbase hraw))
  have hdeltas : b.map SetCell.delta ≠ [] := by simpa using hne
  obtain ⟨top, htop, hpeak⟩ := List.mem_map.mp (natMax_mem hdeltas)
  obtain ⟨-, -, htopLow, htopHigh⟩ := hcells htop
  obtain ⟨⟨first, hfirst, hc0⟩, ⟨last, hlast, hc1⟩, ⟨upper, hupper, hr0⟩, ⟨lower, hlower, hr1⟩⟩ := blobBox_tight hne
  have hsumLow : b.length * touchThreshold t.tune ≤ natSum (b.map SetCell.delta) := by
    have h := length_mul_le_natSum (l := b.map SetCell.delta) (n := touchThreshold t.tune) fun d hd => by
      obtain ⟨c, hc, rfl⟩ := List.mem_map.mp hd
      obtain ⟨-, -, hset, -⟩ := hcells hc
      exact hset
    rwa [List.length_map] at h
  have hsumHigh : natSum (b.map SetCell.delta) ≤ b.length * blobPeak b := by
    have h := natSum_le_length_mul (l := b.map SetCell.delta) (n := blobPeak b) fun d hd => le_natMax hd
    rwa [List.length_map] at h
  have hbox {c : SetCell} (hc : c ∈ b) := blobBox_holds hc
  obtain ⟨hleft, hright, hup, hdown⟩ := hbox hfirst
  obtain ⟨hlastCol, -, -, -⟩ := hcells hlast
  obtain ⟨-, hlowerRow, -, -⟩ := hcells hlower
  have hcol : (blobBox b).c0 ≤ (blobBox b).c1 ∧ (blobBox b).c1 < u.columns := ⟨hleft.trans hright, hc1 ▸ hlastCol⟩
  have hrow : (blobBox b).r0 ≤ (blobBox b).r1 ∧ (blobBox b).r1 < u.rows := ⟨hup.trans hdown, hr1 ▸ hlowerRow⟩
  obtain ⟨hx, hx'⟩ := weightedMean_within (threshold := touchThreshold t.tune) SetCell.col hne fun c hc => ⟨(hbox hc).1, (hbox hc).2.1⟩
  obtain ⟨hy, hy'⟩ := weightedMean_within (threshold := touchThreshold t.tune) SetCell.row hne fun c hc => (hbox hc).2.2
  obtain ⟨hflat, hflat'⟩ := flatness_within hsumHigh
  obtain ⟨helong, helong'⟩ := elongation_within hcol.2 hrow.2
  have hlow : touchThreshold t.tune ≤ blobPeak b := htopLow.trans hpeak.le
  have hhigh : blobPeak b ≤ 2047 := hpeak.ge.trans htopHigh
  have hzones : ((peakCell b).map fun c => t.zoneAt u c.col c.row).getD 0 ≤ 7 := by
    cases peakCell b with
    | none => exact Nat.zero_le 7
    | some c => exact hzone _ _
  exact ⟨harea, hbound, hlow, hhigh, hsumLow, hsumHigh, hcol.1, hcol.2, hrow.1, hrow.2, hx, hx', hy, hy', hflat,
    hflat', helong, helong', hzones⟩

end Sys2Proof.Machine

/-! Claims, and what leaves with them (chapter 08, sections 8.2, 8.4 and 8.7): the root of a distance, claims
that are gone from a context, and each action on the context of a slot. -/

namespace Sys2Proof.Machine

/-! ## The square root of R130 -/

/-- The bits of the root close in on it: what is still open is less than the bit last tried. -/
theorem rootBits_bounds (n k root : Nat) (hlow : root ^ 2 ≤ n) (hhigh : n < (root + 2 ^ k) ^ 2) :
    rootBits n k root ^ 2 ≤ n ∧ n < (rootBits n k root + 1) ^ 2 := by
  induction k generalizing root with
  | zero => exact ⟨hlow, hhigh⟩
  | succ k ih =>
    unfold rootBits
    split
    next hfits => exact ih _ hfits (by rwa [Nat.add_assoc, ← Nat.two_mul, ← Nat.pow_succ'])
    next hover => exact ih _ hlow (Nat.not_le.mp hover)

theorem floorRoot_eq (n : Nat) : floorRoot n = Nat.sqrt n := by
  have hhigh : n < (0 + 2 ^ (n.log2 / 2 + 1)) ^ 2 := by
    rw [Nat.zero_add, ← Nat.pow_mul]
    exact Nat.lt_of_lt_of_le Nat.lt_log2_self (Nat.pow_le_pow_right (by decide) (by omega))
  obtain ⟨hlow, hover⟩ := rootBits_bounds n (n.log2 / 2 + 1) 0 (by simp) hhigh
  rw [Nat.eq_sqrt, ← Nat.pow_two, ← Nat.pow_two]
  exact ⟨hlow, hover⟩

theorem spreadOf_eq (claims : List ClaimEntry) : spreadOf claims = match claims with
    | x :: y :: _ => Nat.sqrt (sqDist x.pos y.pos)
    | _ => 0 := by
  match claims with
  | [] => rfl
  | [_] => rfl
  | _ :: _ :: _ => exact floorRoot_eq _

/-! ## A record replaced by itself -/

theorem State.setContext_self {s : State} {k : Nat} {c : Context} (h : s.context k = some c) :
    s.setContext k (some c) = s := by
  have hlt := State.context_lt h
  rw [State.context_eq, List.getElem?_eq_getElem hlt, Option.getD_some] at h
  simp only [State.setContext, ← h, List.set_getElem_self]

theorem TrackTable.put_self {t : TrackTable} {n : Nat} {x : Track} (h : t.at n = some x) :
    t.put n (some x) = t := by
  obtain ⟨hlt, hx⟩ := List.getElem?_eq_some_iff.mp (TrackTable.at_eq_some.mp h)
  simp only [TrackTable.put]
  rw [← hx, List.set_getElem_self]
  cases slotSurface n <;> rfl

/-! ## Claims that are gone -/

/-- Nothing ties a track to the context of a slot any more (R123): the context does not claim it, does not point by
it and does not own it. -/
def State.goneFrom (s : State) (k : Nat) (r : TrackRef) : Prop :=
  (∀ c, s.context k = some c → c.claimsTrack r = false ∧ s.motion.pointer ≠ some ⟨⟨k, c.serial⟩, r⟩) ∧
    ∀ x, s.tracks.at r.slot = some x → x.id = r.id → x.owner ≠ some k

theorem State.dropClaim_pointer (s : State) (k : Nat) (r : TrackRef) :
    (s.dropClaim k r).motion.pointer = s.motion.pointer ∨ (s.dropClaim k r).motion.pointer = none := by
  obtain ⟨c, -, -, heq⟩ | ⟨-, heq⟩ := s.dropClaim_motion_cases k r <;> rw [heq]
  · exact .inr rfl
  · exact .inl rfl

theorem State.goneFrom_giveUp_self (s : State) (k : Nat) (r : TrackRef) : (s.giveUp k r).goneFrom k r := by
  constructor
  · intro c hc
    rw [State.context_giveUp, if_pos rfl, Option.map_eq_some_iff] at hc
    obtain ⟨d, hd, rfl⟩ := hc
    refine ⟨?_, ?_⟩
    · rw [Bool.eq_false_iff, ne_eq, Context.claimsTrack_letGo]
      exact fun h => h.2 rfl
    · simp only [State.giveUp, State.releaseTrack_motion]
      obtain ⟨c, -, -, heq⟩ | ⟨hno, heq⟩ := s.dropClaim_motion_cases k r <;> rw [heq]
      · exact nofun
      · exact hno d hd
  · intro x hx hid
    obtain ⟨y, hy, hyid, -, -, howner⟩ := State.at_releaseTrack hx
    rw [howner]
    split
    · exact nofun
    next hno => exact fun hk => hno ⟨rfl, hyid.trans hid, hk⟩

theorem State.goneFrom.giveUp {s : State} {k : Nat} {x : TrackRef} (h : s.goneFrom k x) (r : TrackRef) :
    (s.giveUp k r).goneFrom k x := by
  obtain ⟨hclaims, howns⟩ := h
  constructor
  · intro c hc
    rw [State.context_giveUp, if_pos rfl, Option.map_eq_some_iff] at hc
    obtain ⟨d, hd, rfl⟩ := hc
    obtain ⟨hclaim, hpointer⟩ := hclaims d hd
    refine ⟨?_, ?_⟩
    · rw [Bool.eq_false_iff, ne_eq, Context.claimsTrack_letGo]
      exact fun h => Bool.eq_false_iff.mp hclaim h.1
    · simp only [State.giveUp, State.releaseTrack_motion]
      obtain heq | heq := s.dropClaim_pointer k r <;> rw [heq]
      · exact hpointer
      · exact nofun
  · intro y hy hid
    obtain ⟨z, hz, hzid, -, -, howner⟩ := State.at_releaseTrack hy
    rw [State.dropClaim_tracks] at hz
    rw [howner]
    split
    · exact nofun
    · exact howns z hz (hzid.trans hid)

theorem Context.letGo_of_not_claims {c : Context} {r : TrackRef} (h : c.claimsTrack r = false) : c.letGo r = c := by
  have hkeep : c.claims.filter (fun e => e.track != r) = c.claims := by
    rw [List.filter_eq_self]
    intro e he
    rw [Context.claimsTrack, List.any_eq_false] at h
    simpa [bne] using h e he
  rw [Context.letGo, hkeep]

theorem State.releaseTrack_of_not_owned {s : State} {r : TrackRef} {k : Nat}
    (h : ∀ x, s.tracks.at r.slot = some x → x.id = r.id → x.owner ≠ some k) : s.releaseTrack r k = s := by
  simp only [State.releaseTrack]
  obtain ⟨x, hx, hid, heq⟩ | ⟨-, heq⟩ := s.tracks.onTrack_cases r
    (fun x => some (if x.owner = some k then { x with owner := none } else x)) <;> rw [heq]
  rw [if_neg (h x hx hid), TrackTable.put_self hx]

/-- A claim leaves the context: its record, and the pointer when the claim was its source (R123, R149). -/
theorem State.dropClaim_of_running {s : State} {k : Nat} {c : Context} (hc : s.context k = some c) (r : TrackRef) :
    s.dropClaim k r = State.setContext
      { s with motion := if s.motion.pointer = some ⟨⟨k, c.serial⟩, r⟩ then
          { s.motion with pointer := none, residueX := 0, residueY := 0 }
        else s.motion } k (some (c.letGo r)) := by
  simp only [State.dropClaim, hc, State.onContext_of_running hc]
  cases hp : s.motion.pointer with
  | none => rfl
  | some p =>
    obtain ⟨holder, source⟩ := p
    by_cases hmine : holder = ⟨k, c.serial⟩ ∧ source = r
    · obtain ⟨rfl, rfl⟩ := hmine
      simp only [and_self, if_true]
      rfl
    · have hother : ¬ (some (⟨holder, source⟩ : Pointer) = some ⟨⟨k, c.serial⟩, r⟩) :=
        fun heq => hmine (by cases heq; exact ⟨rfl, rfl⟩)
      simp only [if_neg hmine, if_neg hother]
      rfl

/-- A claim given up is a claim gone (R123). -/
theorem State.giveUp_eq_claimGone {s : State} {k : Nat} {c : Context} (hc : s.context k = some c) (r : TrackRef) :
    s.giveUp k r = s.claimGone k c r (c.letGo r).claims := by
  rw [State.giveUp, State.dropClaim_of_running hc]
  rfl

theorem State.giveUp_of_goneFrom {s : State} {k : Nat} {r : TrackRef} (h : s.goneFrom k r) : s.giveUp k r = s := by
  obtain ⟨hclaims, howns⟩ := h
  have hdrop : s.dropClaim k r = s := by
    cases hc : s.context k with
    | none => simp only [State.dropClaim, hc, State.onContext_of_free hc]
    | some c =>
      obtain ⟨hclaim, hpointer⟩ := hclaims c hc
      rw [State.dropClaim_of_running hc, if_neg hpointer, Context.letGo_of_not_claims hclaim,
        State.setContext_self hc]
  rw [State.giveUp, hdrop, State.releaseTrack_of_not_owned howns]

/-! ## Giving up every claim (R123) -/

theorem State.goneFrom.giveUps {k : Nat} {x : TrackRef} (claims : List ClaimEntry) {s : State} (h : s.goneFrom k x) :
    (claims.foldl (fun a e => a.giveUp k e.track) s).goneFrom k x := by
  induction claims generalizing s with
  | nil => exact h
  | cons e claims ih => exact ih (h.giveUp e.track)

theorem State.goneFrom_giveUps {k : Nat} (claims : List ClaimEntry) (s : State) {x : ClaimEntry} (hx : x ∈ claims) :
    (claims.foldl (fun a e => a.giveUp k e.track) s).goneFrom k x.track := by
  induction claims generalizing s with
  | nil => exact absurd hx List.not_mem_nil
  | cons e claims ih =>
    obtain rfl | hlater := List.mem_cons.mp hx
    · exact State.goneFrom.giveUps claims (s.goneFrom_giveUp_self k _)
    · exact ih _ hlater

/-- A claim of the context of a slot. -/
def State.claimsIn (s : State) (k : Nat) (r : TrackRef) : Prop := ∃ c, s.context k = some c ∧ c.claimsTrack r = true

/-- RELEASE gives the event's track up where the context claims it (R123). -/
theorem State.release_eq_giveUp {s : State} {k : Nat} {e : Event} {r : TrackRef} (htrack : e.track = some r)
    (h : s.claimsIn k r ∨ s.goneFrom k r) : s.release k e = s.giveUp k r := by
  unfold State.release
  obtain ⟨c, hc, hclaims⟩ | hgone := h
  · simp only [hc, htrack, hclaims, if_true]
  · rw [State.giveUp_of_goneFrom hgone]
    cases hc : s.context k with
    | none => rfl
    | some c => simp [htrack, (hgone.1 c hc).1]

/-- RELEASE for each claim, oldest first, gives each up, one that is listed twice as well. -/
theorem State.releases_eq_giveUps (k : Nat) (e : Event) (claims : List ClaimEntry) (s : State)
    (h : ∀ x ∈ claims, s.claimsIn k x.track ∨ s.goneFrom k x.track) :
    claims.foldl (fun a x => a.release k { e with track := some x.track }) s =
      claims.foldl (fun a x => a.giveUp k x.track) s := by
  induction claims generalizing s with
  | nil => rfl
  | cons x claims ih =>
    simp only [List.foldl_cons]
    rw [State.release_eq_giveUp rfl (h x (List.mem_cons_self ..))]
    refine ih _ fun y hy => ?_
    by_cases hsame : y.track = x.track
    · exact .inr (hsame ▸ s.goneFrom_giveUp_self k x.track)
    · refine (h y (List.mem_cons_of_mem _ hy)).imp ?_ fun hgone => hgone.giveUp x.track
      rintro ⟨c, hc, hclaims⟩
      exact ⟨c.letGo x.track, by simp [State.context_giveUp, hc], (c.claimsTrack_letGo _ _).mpr ⟨hclaims, hsame⟩⟩

theorem State.giveUpAll_of_running {s : State} {k : Nat} {c : Context} (hc : s.context k = some c) :
    s.giveUpAll k = c.claims.foldl (fun a x => a.giveUp k x.track) s := by
  simp only [State.giveUpAll, hc]

theorem State.giveUpAll_eq_releases {s : State} {k : Nat} {c : Context} (hc : s.context k = some c) (e : Event) :
    s.giveUpAll k = c.claims.foldl (fun a x => a.act k { e with track := some x.track } .release) s := by
  rw [State.giveUpAll_of_running hc]
  exact (State.releases_eq_giveUps k e c.claims s fun x hx =>
    .inl ⟨c, hc, (c.claimsTrack_iff _).mpr (List.mem_map_of_mem hx)⟩).symm

end Sys2Proof.Machine

/-! O43: claims are granted by the rules, actions do what their table says, and an ending context leaves nothing
behind (chapter 08, sections 8.2 to 8.7; chapter 09, sections 9.2 and 9.4). -/

namespace Sys2Proof.Machine

/-! ## CLAIM (R50, R122) -/

theorem Track.claimable_iff (x : Track) : x.claimable = true ↔
    (x.state = .active ∨ x.state = .missing) ∧ x.cls ≠ .palm ∧ x.owner = none := by
  simp [Track.claimable, Track.confirmed, and_assoc]

/-- The context has room for another claim, and does not claim the track already (R122). -/
def State.fits (s : State) (c : Context) (r : TrackRef) : Prop :=
  c.claimsTrack r = false ∧ c.claims.length < (s.tables.active.template c.template).maxTracks

theorem State.claim_of_unfit {s : State} {k : Nat} {c : Context} {e : Event} {r : TrackRef} (hc : s.context k = some c)
    (hr : e.track = some r) (h : ¬ s.fits c r) : s.claim k e = s := by
  have hstop : (c.claimsTrack r || decide ((s.tables.active.template c.template).maxTracks ≤ c.claims.length)) = true := by
    rw [Bool.or_eq_true, decide_eq_true_iff]
    by_contra hno
    exact h ⟨by simpa using fun hclaims => hno (.inl hclaims), Nat.not_le.mp fun hfull => hno (.inr hfull)⟩
  simp only [State.claim, hc, hr, hstop, if_true]

theorem State.claim_of_refused {s : State} {k : Nat} {c : Context} {e : Event} {r : TrackRef}
    (hc : s.context k = some c) (hr : e.track = some r) (h : s.claimTrack r k = none) : s.claim k e = s := by
  simp only [State.claim, hc, hr, h, ite_self]

theorem State.claim_of_granted {s t : State} {k : Nat} {c : Context} {e : Event} {r : TrackRef}
    (hc : s.context k = some c) (hr : e.track = some r) (hfits : s.fits c r) (h : s.claimTrack r k = some t)
    (ht : t.context k = some c) :
    s.claim k e = t.setContext k (some { c with claims := c.claims ++ [e.claimEntry r] }) := by
  have hgo : (c.claimsTrack r || decide ((s.tables.active.template c.template).maxTracks ≤ c.claims.length)) = false := by
    rw [hfits.1, Bool.false_or, decide_eq_false_iff_not]
    exact Nat.not_le.mpr hfits.2
  simp only [State.claim, hc, hr, hgo, Bool.false_eq_true, if_false, h]
  exact State.onContext_of_running ht _

theorem State.claimTrack_eq_none {s : State} {r : TrackRef} {k : Nat}
    (h : ∀ x, s.tracks.at r.slot = some x → x.id = r.id → x.claimable = false) : s.claimTrack r k = none := by
  unfold State.claimTrack
  split
  next x hx =>
    rw [if_neg]
    rw [Bool.and_eq_true, decide_eq_true_iff]
    exact fun hboth => Bool.eq_false_iff.mp (h x hx hboth.1) hboth.2
  · rfl

theorem State.claim_grants {s : State} {k : Nat} {c : Context} {e : Event} {r : TrackRef} {x : Track}
    (hc : s.context k = some c) (hr : e.track = some r) (hfits : s.fits c r) (hx : s.tracks.at r.slot = some x)
    (hid : x.id = r.id) (hclaimable : x.claimable = true) :
    s.claim k e = State.setContext
      { s with tracks := s.tracks.put r.slot (some { x with owner := some k }) } k
      (some { c with claims := c.claims ++ [⟨r, e.pos, e.pos, e.zone.getD 0, 0, 0⟩] }) := by
  refine State.claim_of_granted hc hr hfits (t := { s with tracks := _ }) ?_ hc
  simp only [State.claimTrack, hx, hid, decide_true, hclaimable, Bool.and_self, if_true]

theorem Track.not_claimable {x : Track} (h : x.cls = .palm ∨ x.owner ≠ none ∨ x.state = .tentative ∨
    ∃ cause, x.state = .ended cause) : x.claimable = false := by
  rw [Bool.eq_false_iff, ne_eq, Track.claimable_iff]
  rintro ⟨hstate, hcls, howner⟩
  obtain hpalm | howned | htentative | ⟨cause, hended⟩ := h
  · exact hcls hpalm
  · exact howned howner
  · simp [htentative] at hstate
  · simp [hended] at hstate

/-! ## RELEASE and RELEASE_ALL (R123) -/

theorem State.release_of_unclaimed {s : State} {k : Nat} {c : Context} {e : Event} {r : TrackRef}
    (hc : s.context k = some c) (hr : e.track = some r) (h : c.claimsTrack r = false) : s.release k e = s := by
  simp [State.release, hc, hr, h]

theorem filter_one_out {front back : List ClaimEntry} {x : ClaimEntry} {r : TrackRef} (hx : x.track = r)
    (h : ∀ y ∈ front ++ back, y.track ≠ r) :
    (front ++ x :: back).filter (fun e => e.track != r) = front ++ back := by
  have hkeep : ∀ l : List ClaimEntry, (∀ y ∈ l, y.track ≠ r) → l.filter (fun e => e.track != r) = l := fun l hl =>
    List.filter_eq_self.mpr fun y hy => bne_iff_ne.mpr (hl y hy)
  rw [List.filter_append, List.filter_cons_of_neg (by simpa using hx),
    hkeep front fun y hy => h y (List.mem_append_left _ hy), hkeep back fun y hy => h y (List.mem_append_right _ hy)]

theorem State.release_one {s : State} {k : Nat} {c : Context} {e : Event} {r : TrackRef} {front back : List ClaimEntry}
    {x : ClaimEntry} (hc : s.context k = some c) (hr : e.track = some r) (hclaims : c.claims = front ++ x :: back)
    (hx : x.track = r) (h : ∀ y ∈ front ++ back, y.track ≠ r) :
    s.release k e = s.claimGone k c r (front ++ back) := by
  have hclaimed : c.claimsTrack r = true :=
    (c.claimsTrack_iff r).mpr (List.mem_map.mpr ⟨x, by simp [hclaims], hx⟩)
  rw [State.release_eq_giveUp hr (.inl ⟨c, hc, hclaimed⟩), State.giveUp_eq_claimGone hc, Context.letGo, hclaims,
    filter_one_out hx h]

/-! ## TIMER_SET (R133) -/

/-- A deadline set by TIMER_SET, with the comparison of R1 written out (log 19). -/
theorem timerFrom_eq (now time : Time) (ms : Nat) :
    timerFrom now time ms = ⟨time + BitVec.ofNat 32 (ms * 100),
      if (now - (time + BitVec.ofNat 32 (ms * 100))).toNat < 2 ^ 31 then some now else none⟩ := by
  have hreached : reached now (time + BitVec.ofNat 32 (ms * 100)) = true ↔
      (now - (time + BitVec.ofNat 32 (ms * 100))).toNat < 2 ^ 31 := decide_eq_true_iff
  exact congrArg (ContextTimer.mk _) (if_congr hreached rfl rfl)

/-! ## EMIT (R132) -/

theorem State.offerGesture_context (s : State) (time : Time) (g : GestureReport) (k : Nat) :
    (s.offerGesture time g).context k = s.context k :=
  State.context_of_gestures (by simp) k

/-- EMIT offers its record, after the CANCEL that a BEGIN over an open gesture makes. -/
theorem State.emit_of_running {s : State} {k : Nat} {c : Context} (hc : s.context k = some c) (time : Time)
    (p : EmitPhase) (code : Nat) :
    s.emit time k p code =
      ((if p = .begin then s.autoCancel time k c else s).offerGesture time (c.gestureRecord k code p.phase)).setContext k
        (some { c with openCode := p.openAfter code c.openCode }) := by
  have hrunning : (if p = .begin then s.autoCancel time k c else s).context k = some c := by
    split
    · exact (State.context_of_gestures (by simp) k).trans hc
    · exact hc
  simp only [State.emit, hc]
  exact State.onContext_of_running ((State.offerGesture_context _ _ _ _).trans hrunning) _

/-! ## The pointer (R148, R149) -/

theorem State.pointerOn_of_claims {s : State} {k : Nat} {c : Context} {x : ClaimEntry} {rest : List ClaimEntry}
    (hc : s.context k = some c) (hclaims : c.claims = x :: rest) :
    s.pointerOn k = if s.mayHavePointer k c then s.setPointer ⟨k, c.serial⟩ x.track else s := by
  simp only [State.pointerOn, hc, hclaims]

theorem State.mayHavePointer_of_other {s : State} {k : Nat} {c h : Context} {p : Pointer}
    (hp : s.motion.pointer = some p) (hother : p.holder ≠ ⟨k, c.serial⟩) (hh : s.context p.holder.slot = some h) :
    s.mayHavePointer k c = decide (s.priorityOf h < s.priorityOf c) := by
  simp [State.mayHavePointer, hp, hh, hother]

theorem State.holds_iff (s : State) (k serial : Nat) :
    s.holds k serial = true ↔ ∃ p, s.motion.pointer = some p ∧ p.holder = ⟨k, serial⟩ := by
  simp [State.holds, Option.any_eq_true]

theorem State.pointerOff_of_running {s : State} {k : Nat} {c : Context} (hc : s.context k = some c) :
    s.pointerOff k = if s.holds k c.serial then s.releasePointer else s := by
  simp only [State.pointerOff, hc]

/-! ## Buttons (R152) -/

theorem State.button_of_running {s : State} {k : Nat} {c : Context} (hc : s.context k = some c) (time : Time) (i : Nat)
    (press : Bool) : s.button time k (i + 1) press = s.actButton time ⟨k, c.serial⟩ i press := by
  simp only [State.button, hc]

theorem State.actButton_idle {s : State} {me : ContextRef} {i : Nat} {press : Bool} {presser : Option ContextRef}
    (hi : s.motion.buttons[i]? = some presser) (hpress : press = true → presser ≠ none)
    (hrelease : press = false → presser ≠ some me) (time : Time) : s.actButton time me i press = s := by
  cases press with
  | true =>
    cases presser with
    | none => exact absurd rfl (hpress rfl)
    | some b => simp only [State.actButton, hi]
  | false =>
    cases presser with
    | none => simp only [State.actButton, hi]
    | some b =>
      simp only [State.actButton, hi]
      exact if_neg fun hb => hrelease rfl (congrArg some hb)

/-! ## The end of a context (R138) -/

theorem State.giveUpAll_running {s : State} {k : Nat} {c : Context} (hc : s.context k = some c) :
    (s.giveUpAll k).context k = some { c with claims := [] } := by
  rw [State.context_giveUpAll, if_pos rfl, hc, Option.map_some]

/-- An ending context lets its claims and then its pointer go. -/
def State.letGoAll (s : State) (k : Nat) : State := (s.giveUpAll k).pointerOff k

theorem State.endContext_of_running {s : State} {k : Nat} {c : Context} (hc : s.context k = some c) (time : Time) :
    s.endContext time k =
      (((s.letGoAll k).releaseButtons time ⟨k, c.serial⟩).autoCancel time k c).setContext k none := by
  simp only [State.endContext, hc, State.letGoAll, State.pointerOff_of_running (State.giveUpAll_running hc)]

theorem State.letGoAll_tracks (s : State) (k : Nat) : (s.letGoAll k).tracks = (s.giveUpAll k).tracks := by
  unfold State.letGoAll State.pointerOff
  split
  · rfl
  · split <;> rfl

theorem State.letGoAll_pointer {s : State} {k : Nat} {c : Context} (hc : s.context k = some c) (p : Pointer)
    (hp : (s.letGoAll k).motion.pointer = some p) : p.holder ≠ ⟨k, c.serial⟩ := by
  rw [State.letGoAll, State.pointerOff_of_running (State.giveUpAll_running hc)] at hp
  split at hp
  · cases hp
  next hno => exact fun hmine => hno ((State.holds_iff _ _ _).mpr ⟨p, hp, hmine⟩)

theorem State.endContext_motion {s : State} {k : Nat} {c : Context} (hc : s.context k = some c) (time : Time) :
    (s.endContext time k).motion = ((s.letGoAll k).releaseButtons time ⟨k, c.serial⟩).motion := by
  rw [State.endContext_of_running hc]
  exact State.autoCancel_motion _ _ _ _

theorem State.endContext_tracks {s : State} {k : Nat} {c : Context} (hc : s.context k = some c) (time : Time) :
    (s.endContext time k).tracks = (s.giveUpAll k).tracks := by
  rw [State.endContext_of_running hc, ← State.letGoAll_tracks]
  exact (State.autoCancel_tracks _ _ _ _).trans (State.releaseButtons_tracks _ _ _)

/-- What an ending leaves behind: no context, no button, no pointer and no owner (R138). -/
theorem State.endContext_leaves {s : State} {k : Nat} {c : Context} (hc : s.context k = some c) (time : Time) :
    (s.endContext time k).context k = none ∧
      (∀ b ∈ (s.endContext time k).motion.buttons, b ≠ some (⟨k, c.serial⟩ : ContextRef)) ∧
      (∀ p, (s.endContext time k).motion.pointer = some p → p.holder ≠ (⟨k, c.serial⟩ : ContextRef)) ∧
      (∀ e ∈ c.claims, ∀ x, (s.endContext time k).tracks.at e.track.slot = some x → x.id = e.track.id →
        x.owner ≠ some k) ∧
      ∀ j, j ≠ k → (s.endContext time k).context j = s.context j := by
  refine ⟨?_, ?_, ?_, ?_, ?_⟩
  · rw [State.context_endContext, if_pos rfl]
  · rw [State.endContext_motion hc, State.releaseButtons_buttons]
    intro b hb
    obtain ⟨d, -, rfl⟩ := List.mem_map.mp hb
    split
    · exact nofun
    next hne => exact hne
  · intro p hp
    rw [State.endContext_motion hc, State.releaseButtons_pointer] at hp
    exact State.letGoAll_pointer hc p hp
  · intro e he
    rw [State.endContext_tracks hc, State.giveUpAll_of_running hc]
    exact (State.goneFrom_giveUps c.claims s he).2
  · intro j hj
    rw [State.context_endContext, if_neg hj]

theorem State.releaseButtons_eq (s : State) (time : Time) (me : ContextRef) :
    s.releaseButtons time me =
      let buttons := s.motion.buttons.map fun b => if b = some me then none else b
      if some me ∈ s.motion.buttons then
        State.offerPointer { s with motion := { s.motion with buttons := buttons } } time
          ⟨0, 0, buttons.map Option.isSome, true⟩
      else s := by
  simp only [State.releaseButtons, List.contains_iff_mem]
  rfl

/-! ## O43 -/

/-- Settles O43: each action by the rule of the operation it stands for; an ending by what its parts leave. -/
theorem claimsFollowTheirContexts : Obligations.ClaimsFollowTheirContexts := by
  refine ⟨?_, ?_, ?_, ?_⟩
  · intro s k c e r hc hr
    refine ⟨fun x hfits hx hid hstate hcls howner => State.claim_grants hc hr hfits hx hid
      (x.claimable_iff.mpr ⟨hstate, hcls, howner⟩), State.claim_of_unfit hc hr, fun x hx hno => ?_, fun hnone => ?_⟩
    · refine State.claim_of_refused hc hr (State.claimTrack_eq_none fun y hy hid => ?_)
      obtain rfl : x = y := Option.some.inj (hx.symm.trans hy)
      exact Track.not_claimable (hno.resolve_left (not_not.mpr hid))
    · exact State.claim_of_refused hc hr (State.claimTrack_eq_none fun y hy => absurd (hnone.symm.trans hy) nofun)
  · intro s time k c _ _ hc
    exact State.endContext_leaves hc time
  · intro s k c e hc
    refine ⟨⟨?_, ?_, ?_⟩, ⟨?_, ?_, ?_, ?_, ?_, ?_, ?_⟩, ?_, ⟨?_, ?_, ?_, ?_⟩, ?_⟩
    · exact fun r hr hno => State.release_of_unclaimed hc hr hno
    · exact fun r front x back hr hclaims hx hothers => State.release_one hc hr hclaims hx hothers
    · exact State.giveUpAll_eq_releases hc e
    · refine (State.onContext_of_running hc _).trans ?_
      rw [Context.setAnchor, spreadOf_eq] <;> rfl
    · intro ms
      refine (State.onContext_of_running hc _).trans ?_
      rw [timerFrom_eq]
    · exact State.onContext_of_running hc _
    · exact State.onContext_of_running hc _
    · exact State.onContext_of_running hc _
    · exact fun axis => State.onContext_of_running hc _
    · exact State.onContext_of_running hc _
    · intro code
      refine ⟨fun hopen => ?_, fun old hopen => ?_, ?_, ?_⟩
      · refine (State.emit_of_running hc e.time .begin code).trans ?_
        simp only [if_true, State.autoCancel, hopen]
        rfl
      · refine (State.emit_of_running hc e.time .begin code).trans ?_
        simp only [if_true, State.autoCancel, hopen]
        rfl
      · refine (State.emit_of_running hc e.time .update code).trans ?_
        exact State.setContext_self ((State.offerGesture_context _ _ _ _).trans hc)
      · exact State.emit_of_running hc e.time .end_ code
    · intro hnone
      simp only [State.act, State.pointerOn, hc, hnone]
    · intro x rest hclaims
      have hon := State.pointerOn_of_claims hc hclaims
      refine ⟨fun hfree => ?_, fun p hp hmine => ?_, fun p h hp hother hh _ => ?_⟩
      · exact hon.trans (if_pos (by simp [State.mayHavePointer, hfree]))
      · exact hon.trans (if_pos (by simp [State.mayHavePointer, hp, hmine]))
      · rw [State.mayHavePointer_of_other hp hother hh] at hon
        exact ⟨fun hlower => hon.trans (if_pos (decide_eq_true hlower)),
          fun hhigher => hon.trans (if_neg (by
            rw [decide_eq_true_iff]
            exact Nat.not_lt.mpr hhigher))⟩
    · intro p hp hmine
      exact (State.pointerOff_of_running hc).trans (if_pos ((s.holds_iff _ _).mpr ⟨p, hp, hmine⟩))
    · intro hothers
      refine (State.pointerOff_of_running hc).trans (if_neg fun hholds => ?_)
      obtain ⟨p, hp, hmine⟩ := (s.holds_iff _ _).mp hholds
      exact hothers p hp hmine
    · intro i press _
      have hbutton := State.button_of_running hc e.time i press
      refine ⟨?_, ?_, fun presser hi hpress hrelease =>
        hbutton.trans (State.actButton_idle hi hpress hrelease e.time)⟩
      · rintro rfl hi
        refine hbutton.trans ?_
        simp only [State.actButton, hi]
        rfl
      · rintro rfl hi
        refine hbutton.trans ?_
        simp only [State.actButton, hi, if_true]
        rfl
  · intro s k c e hc
    refine ⟨fun hopen => ?_, fun code hopen => ?_⟩
    · refine (State.endContext_of_running hc e.time).trans ?_
      simp only [State.autoCancel, hopen, State.releaseButtons_eq]
      rfl
    · refine (State.endContext_of_running hc e.time).trans ?_
      simp only [State.autoCancel, hopen, State.releaseButtons_eq]
      rfl

end Sys2Proof.Machine

/-! Events and rows (chapter 08, sections 8.3, 8.4 and 8.10; R125, R129, R144): what an action leaves of its context and
of the engine, and what an event's delivery does. -/

namespace Sys2Proof.Machine

/-! ## What an action leaves of the engine but for its contexts -/

section
variable (s : State)

theorem State.onContext_apart (k : Nat) (f : Context → Context) : (s.onContext k f).gestures.apart = s.gestures.apart := rfl

theorem State.giveUp_apart (k : Nat) (r : TrackRef) : (s.giveUp k r).gestures.apart = s.gestures.apart :=
  s.dropClaim_apart k r

theorem State.claimTrack_gestures {t : State} {r : TrackRef} {k : Nat} (h : s.claimTrack r k = some t) :
    t.gestures = s.gestures := by
  unfold State.claimTrack at h
  split at h
  · split at h
    · rw [← Option.some.inj h]
    · cases h
  · cases h

theorem State.claim_apart (k : Nat) (e : Event) : (s.claim k e).gestures.apart = s.gestures.apart := by
  unfold State.claim
  split
  · split
    · rfl
    · split
      next t ht => rw [State.onContext_apart, s.claimTrack_gestures ht]
      · rfl
  · rfl

theorem State.release_apart (k : Nat) (e : Event) : (s.release k e).gestures.apart = s.gestures.apart := by
  unfold State.release
  split
  · split
    · exact s.giveUp_apart k _
    · rfl
  · rfl

theorem State.emit_apart (time : Time) (k : Nat) (p : EmitPhase) (code : Nat) :
    (s.emit time k p code).gestures.apart = s.gestures.apart := by
  unfold State.emit
  split
  · rfl
  · rw [State.onContext_apart, State.offerGesture_gestures]
    split
    · rw [State.autoCancel_gestures]
    · rfl

theorem State.pointerOn_gestures (k : Nat) : (s.pointerOn k).gestures = s.gestures := by
  unfold State.pointerOn
  split
  · rfl
  · split
    · rfl
    · split <;> rfl

theorem State.pointerOff_gestures (k : Nat) : (s.pointerOff k).gestures = s.gestures := by
  unfold State.pointerOff
  split
  · rfl
  · split <;> rfl

theorem State.actButton_gestures (time : Time) (me : ContextRef) (i : Nat) (press : Bool) :
    (s.actButton time me i press).gestures = s.gestures := by
  unfold State.actButton
  split
  · exact State.offerPointer_gestures _ _ _
  · split
    · exact State.offerPointer_gestures _ _ _
    · rfl
  · rfl

theorem State.button_gestures (time : Time) (k n : Nat) (press : Bool) :
    (s.button time k n press).gestures = s.gestures := by
  unfold State.button
  split
  · exact s.actButton_gestures _ _ _ _
  · rfl

/-- An action changes nothing of the engine but contexts (R131). -/
theorem State.act_apart (k : Nat) (e : Event) (a : Action) : (s.act k e a).gestures.apart = s.gestures.apart := by
  cases a with
  | claim => exact s.claim_apart k e
  | release => exact s.release_apart k e
  | releaseAll => exact s.giveUpAll_apart k
  | anchor | timerSet | timerStop | tap | tapClear | accStart | accStop => rfl
  | emit p code => exact s.emit_apart _ k p code
  | pointerOn => exact congrArg Gestures.apart (s.pointerOn_gestures k)
  | pointerOff => exact congrArg Gestures.apart (s.pointerOff_gestures k)
  | button n press => exact congrArg Gestures.apart (s.button_gestures _ k n press)

theorem State.acts_apart (k : Nat) (e : Event) (l : List Action) :
    (l.foldl (fun a x => a.act k e x) s).gestures.apart = s.gestures.apart :=
  foldl_keeps _ (fun x : State => x.gestures.apart) (fun x a => x.act_apart k e a) l s

theorem State.watchEntry_gestures (k : Nat) (e : Event) : (s.watchEntry k e).gestures = s.gestures := by
  unfold State.watchEntry
  split
  · rfl
  · split
    · exact State.offerSnapshot_gestures _ _ _
    · rfl

/-! ## What an action leaves of a context -/

/-- A context is still the one that started: its template, its serial and its start time. -/
def Context.follows (c d : Context) : Prop := d.template = c.template ∧ d.serial = c.serial ∧ d.startTime = c.startTime

/-- A context follows another in the same state (R121). -/
def Context.staysIn (c d : Context) : Prop := c.follows d ∧ d.state = c.state

theorem Context.staysIn.trans {c d x : Context} (h : c.staysIn d) (h' : d.staysIn x) : c.staysIn x := by
  obtain ⟨⟨ht, hs, hstart⟩, hstate⟩ := h
  obtain ⟨⟨ht', hs', hstart'⟩, hstate'⟩ := h'
  exact ⟨⟨ht'.trans ht, hs'.trans hs, hstart'.trans hstart⟩, hstate'.trans hstate⟩

theorem Context.staysIn_self (c : Context) : c.staysIn c := ⟨⟨rfl, rfl, rfl⟩, rfl⟩

/-- The context of a slot runs on in its state. -/
def State.keepsRunning (t : State) (k : Nat) (c : Context) : Prop := ∃ d, t.context k = some d ∧ c.staysIn d

variable {s} {k : Nat} {c : Context}

theorem State.keepsRunning_of_same {t : State} (hc : s.context k = some c) (h : t.gestures = s.gestures) : t.keepsRunning k c :=
  ⟨c, (State.context_of_gestures (congrArg _ h) k).trans hc, c.staysIn_self⟩

theorem State.keepsRunning_onContext {t : State} (hc : t.context k = some c) {f : Context → Context} (h : c.staysIn (f c)) :
    (t.onContext k f).keepsRunning k c :=
  ⟨f c, by rw [State.onContext_of_running hc, State.context_setContext_of_running hc, if_pos rfl], h⟩

theorem State.keepsRunning_claim (hc : s.context k = some c) (e : Event) : (s.claim k e).keepsRunning k c := by
  have hsame : s.keepsRunning k c := State.keepsRunning_of_same hc rfl
  simp only [State.claim, hc]
  split
  · split
    · exact hsame
    · split
      next t ht =>
        exact State.keepsRunning_onContext
          ((State.context_of_gestures (congrArg _ (s.claimTrack_gestures ht)) k).trans hc) ⟨⟨rfl, rfl, rfl⟩, rfl⟩
      · exact hsame
  · exact hsame

theorem State.keepsRunning_release (hc : s.context k = some c) (e : Event) : (s.release k e).keepsRunning k c := by
  have hsame : s.keepsRunning k c := State.keepsRunning_of_same hc rfl
  simp only [State.release, hc]
  split
  · split
    · exact ⟨c.letGo _, by rw [State.context_giveUp, if_pos rfl, hc]; rfl, ⟨rfl, rfl, rfl⟩, rfl⟩
    · exact hsame
  · exact hsame

/-- After an action its context runs on, in its state (R131). -/
theorem State.keepsRunning_act (hc : s.context k = some c) (e : Event) (a : Action) : (s.act k e a).keepsRunning k c := by
  have hedit {f : Context → Context} (h : c.staysIn (f c)) : (s.onContext k f).keepsRunning k c := State.keepsRunning_onContext hc h
  cases a with
  | claim => exact State.keepsRunning_claim hc e
  | release => exact State.keepsRunning_release hc e
  | releaseAll => exact ⟨{ c with claims := [] }, State.giveUpAll_running hc, ⟨rfl, rfl, rfl⟩, rfl⟩
  | anchor | timerSet | timerStop | tap | tapClear | accStart | accStop => exact hedit ⟨⟨rfl, rfl, rfl⟩, rfl⟩
  | emit p code =>
    refine ⟨{ c with openCode := p.openAfter code c.openCode }, ?_, ⟨rfl, rfl, rfl⟩, rfl⟩
    rw [State.act, State.emit_of_running hc, State.context_setContext_of_running (c := c), if_pos rfl]
    refine (State.offerGesture_context _ _ _ _).trans ?_
    split
    · exact (State.context_of_gestures (by simp) k).trans hc
    · exact hc
  | pointerOn => exact State.keepsRunning_of_same hc (s.pointerOn_gestures k)
  | pointerOff => exact State.keepsRunning_of_same hc (s.pointerOff_gestures k)
  | button n press => exact State.keepsRunning_of_same hc (s.button_gestures _ k n press)

theorem State.keepsRunning_acts (e : Event) (l : List Action) (h : s.keepsRunning k c) :
    (l.foldl (fun a x => a.act k e x) s).keepsRunning k c :=
  foldl_invariant (fun x : State => x.keepsRunning k c) _
    (fun _ a ⟨_, hd, hstays⟩ => have ⟨y, hy, hon⟩ := State.keepsRunning_act hd e a; ⟨y, hy, hstays.trans hon⟩) l s h

end

/-! ## Delivery (R129) -/

theorem State.firesFirst_iff (s : State) (c : Context) (e : Event) (row : Row) :
    s.firesFirst c e row ↔ s.firingRow c e = some row := by
  simp only [State.firesFirst, State.firingRow, List.find?_eq_some_iff_append, Bool.not_eq_true']
  constructor
  · rintro ⟨above, below, hrows, hrow, habove⟩
    exact ⟨hrow, above, below, hrows, habove⟩
  · rintro ⟨hrow, above, below, hrows, habove⟩
    exact ⟨above, below, hrows, hrow, habove⟩

theorem State.firesNone_iff (s : State) (c : Context) (e : Event) : s.firesNone c e ↔ s.firingRow c e = none := by
  simp only [State.firesNone, State.firingRow, List.find?_eq_none, Bool.not_eq_true]

theorem Handling.handle_of_free {trial : Bool} {k : Nat} {e : Event} {h : Handling} (hfree : h.state.context k = none) :
    h.handle trial k e = none := by
  simp only [Handling.handle, hfree, Option.bind_none]

theorem Handling.handle_of_none {trial : Bool} {k : Nat} {e : Event} {h : Handling} {c : Context}
    (hc : h.state.context k = some c) (hnone : h.state.firesNone c e) : h.handle trial k e = none := by
  simp only [Handling.handle, hc, Option.bind_some, (State.firesNone_iff _ _ _).mp hnone, Option.map_none]

theorem Handling.handle_of_first {trial : Bool} {k : Nat} {e : Event} {h : Handling} {c : Context} {row : Row}
    (hc : h.state.context k = some c) (hfirst : h.state.firesFirst c e row) :
    h.handle trial k e = some (h.fire trial k e row) := by
  simp only [Handling.handle, hc, Option.bind_some, (State.firesFirst_iff _ _ _ _).mp hfirst, Option.map_some]

theorem State.handle_of_none {s : State} {k : Nat} {e : Event} {c : Context} (hc : s.context k = some c)
    (hnone : s.firesNone c e) : s.handle k e = none := by
  rw [State.handle, Handling.handle_of_none hc hnone, Option.map_none]

theorem State.handle_of_first {s : State} {k : Nat} {e : Event} {c : Context} {row : Row} (hc : s.context k = some c)
    (hfirst : s.firesFirst c e row) : s.handle k e = some ((Handling.mk s [] false).fire false k e row).state := by
  rw [State.handle, Handling.handle_of_first hc hfirst, Option.map_some]

theorem State.deliver_of_free {s : State} {k : Nat} (e : Event) (hfree : s.context k = none) : s.deliver k e = s := by
  rw [State.deliver, State.handle, Handling.handle_of_free hfree]
  rfl

theorem State.deliver_of_none {s : State} {k : Nat} {e : Event} {c : Context} (hc : s.context k = some c)
    (hnone : s.firesNone c e) : s.deliver k e = s := by
  rw [State.deliver, State.handle_of_none hc hnone]
  rfl

theorem Handling.acts_state (k : Nat) (e : Event) (l : List Action) (h : Handling) :
    (l.foldl (Handling.act false k e) h).state = l.foldl (fun a x => a.act k e x) h.state := by
  induction l generalizing h with
  | nil => rfl
  | cons a l ih => exact ih _

/-- A row's end: its context goes, or takes its next state. -/
theorem Handling.fire_state (k : Nat) (e : Event) (row : Row) (h : Handling) :
    (h.fire false k e row).state =
      let acted := row.actions.foldl (fun a x => a.act k e x) h.state
      if row.next = 0 then acted.endContext e.time k
      else if row.next = row.fromState then acted.onContext k fun c => { c with state := row.next }
      else (acted.onContext k fun c => { c with state := row.next }).watchEntry k e := by
  rw [← Handling.acts_state]
  simp only [Handling.fire]
  split
  · rfl
  · simp only [Handling.enter, Bool.false_eq_true, if_false]
    split <;> rfl

theorem State.deliver_of_first {s : State} {k : Nat} {e : Event} {c : Context} {row : Row} (hc : s.context k = some c)
    (hfirst : s.firesFirst c e row) :
    s.deliver k e =
      let acted := row.actions.foldl (fun a x => a.act k e x) s
      if row.next = 0 then acted.endContext e.time k
      else if row.next = row.fromState then acted.onContext k fun c => { c with state := row.next }
      else (acted.onContext k fun c => { c with state := row.next }).watchEntry k e := by
  rw [State.deliver, State.handle_of_first hc hfirst, Option.getD_some, Handling.fire_state]

theorem Row.answers_iff (row : Row) (c : Context) (e : Event) : row.answers c e = true ↔ row.fromState = c.state ∧
    row.event = e.kind.code ∧ ∃ g, guardOf row.guard row.operand = some g ∧ g.holds c e = true := by
  simp [Row.answers, Option.any_eq_true, and_assoc]

theorem State.firesFirst.answers {s : State} {c : Context} {e : Event} {row : Row} (h : s.firesFirst c e row) :
    row.answers c e = true := by
  obtain ⟨-, -, -, hrow, -⟩ := h
  exact hrow

theorem Context.with_own_state {c : Context} {n : Nat} (h : n = c.state) : { c with state := n } = c := by
  subst h
  rfl

/-- An entry into a new state makes a SNAPSHOT where its pair is watched (R144, R145). -/
theorem State.watchEntry_of_running {s : State} {k : Nat} {c : Context} (hc : s.context k = some c) (e : Event) :
    s.watchEntry k e = if (⟨c.template, c.state⟩ : Watch) ∈ s.gestures.watch then
        s.offerSnapshot e.time ⟨k, e.kind, e.track, c, s.holds k c.serial⟩
      else s := by
  simp only [State.watchEntry, hc, State.watched, List.contains_iff_mem]
  rfl

/-- What a firing row does (R129, R144). -/
theorem State.deliver_fires {s : State} {k : Nat} {e : Event} {c : Context} {row : Row} (hc : s.context k = some c)
    (hfirst : s.firesFirst c e row) :
    let acted := row.actions.foldl (fun a x => a.act k e x) s
    ∃ c', acted.context k = some c' ∧ c'.template = c.template ∧ c'.serial = c.serial ∧
      (row.next = 0 → s.deliver k e = acted.endContext e.time k) ∧
      (row.next ≠ 0 → row.next = row.fromState → s.deliver k e = acted) ∧
      (row.next ≠ 0 → row.next ≠ row.fromState →
        let now := { c' with state := row.next }
        let entered := acted.setContext k (some now)
        s.deliver k e = if (⟨c.template, row.next⟩ : Watch) ∈ s.gestures.watch then
            entered.offerSnapshot e.time ⟨k, e.kind, e.track, now, acted.holds k c.serial⟩
          else entered) := by
  intro acted
  have hdeliver := State.deliver_of_first hc hfirst
  obtain ⟨c', hc', ⟨htemplate, hserial, -⟩, hstate⟩ : acted.keepsRunning k c :=
    State.keepsRunning_acts e row.actions ⟨c, hc, c.staysIn_self⟩
  have hwatch : acted.gestures.watch = s.gestures.watch := (congrArg Gestures.watch (s.acts_apart k e row.actions) :)
  change s.deliver k e = (if row.next = 0 then acted.endContext e.time k
      else if row.next = row.fromState then acted.onContext k _ else (acted.onContext k _).watchEntry k e) at hdeliver
  rw [State.onContext_of_running hc'] at hdeliver
  generalize acted = acted at hc' hwatch hdeliver
  refine ⟨c', hc', htemplate, hserial, fun hend => ?_, fun hgo hsame => ?_, fun hgo hnew => ?_⟩
  · rw [hdeliver, if_pos hend]
  · have hfrom : row.next = c'.state := hsame.trans (((row.answers_iff c e).mp hfirst.answers).1.trans hstate.symm)
    rw [hdeliver, if_neg hgo, if_pos hsame, Context.with_own_state hfrom, State.setContext_self hc']
  · rw [hdeliver, if_neg hgo, if_neg hnew]
    refine (State.watchEntry_of_running (c := { c' with state := row.next })
      (by rw [State.context_setContext_of_running hc', if_pos rfl]) e).trans ?_
    dsimp only
    rw [htemplate, hserial, show (acted.setContext k _).gestures.watch = s.gestures.watch from hwatch]
    rfl

end Sys2Proof.Machine

/-! Guards, the events of claimed tracks, and the items the engine may take (chapter 08, sections 8.2, 8.3 and 8.5;
R124, R127, R128, R130). -/

namespace Sys2Proof.Machine

/-! ## Guards (R130) -/

theorem natMax_lt_iff (l : List Nat) (n : Nat) : natMax l < n ↔ 0 < n ∧ ∀ x ∈ l, x < n := by
  constructor
  · exact fun h => ⟨by omega, fun x hx => Nat.lt_of_le_of_lt (le_natMax hx) h⟩
  · rintro ⟨hn, hall⟩
    by_cases hl : l = []
    · rwa [hl]
    · exact hall _ (natMax_mem hl)

theorem largestMove_lt_iff (claims : List ClaimEntry) (n : Nat) :
    largestMove claims < n ^ 2 ↔ 0 < n ∧ ∀ x ∈ claims, sqDist x.pos x.anchor < n ^ 2 := by
  have hpos : 0 < n ^ 2 ↔ 0 < n := Nat.pow_pos_iff.trans (by simp)
  simp only [largestMove, natMax_lt_iff, List.forall_mem_map, hpos]

theorem le_largestMove_iff (claims : List ClaimEntry) (n : Nat) :
    n ^ 2 ≤ largestMove claims ↔ n = 0 ∨ ∃ x ∈ claims, n ^ 2 ≤ sqDist x.pos x.anchor := by
  rw [← Nat.not_lt, largestMove_lt_iff]
  by_cases hn : n = 0
  · simp [hn]
  · simp only [not_and, not_forall, Nat.not_lt, exists_prop, hn, false_or]
    exact ⟨fun h => h (Nat.pos_of_ne_zero hn), fun h _ => h⟩

theorem gap_eq_natAbs (a b : Nat) : gap a b = ((a : Int) - b).natAbs := by
  rw [gap_eq]
  omega

theorem spreadGe_iff (c : Context) (n : Nat) :
    (2 ≤ c.claims.length ∧ n ≤ gap (spreadOf c.claims) c.anchorSpread) ↔
      ∃ x y rest, c.claims = x :: y :: rest ∧ n ≤ ((Nat.sqrt (sqDist x.pos y.pos) : Int) - c.anchorSpread).natAbs := by
  rw [gap_eq_natAbs, spreadOf_eq]
  constructor
  · rintro ⟨hlen, hn⟩
    match hclaims : c.claims with
    | [] => simp [hclaims] at hlen
    | [_] => simp [hclaims] at hlen
    | x :: y :: rest => exact ⟨x, y, rest, rfl, by simpa [hclaims] using hn⟩
  · rintro ⟨x, y, rest, hclaims, hn⟩
    simp only [hclaims]
    exact ⟨by simp, hn⟩

/-- When each guard holds (R130). -/
theorem Guard.holds_iff (c : Context) (e : Event) :
    let since := if (e.time - c.anchorTime).toNat < 2 ^ 31 then (e.time - c.anchorTime).toNat else 0
    Guard.holds .none c e = true ∧
    (∀ n, (Guard.holds (.countEq n) c e = true ↔ c.claims.length = n) ∧
      (Guard.holds (.countGe n) c e = true ↔ n ≤ c.claims.length) ∧
      (Guard.holds (.elapsedLt n) c e = true ↔ since < n * 100) ∧
      (Guard.holds (.elapsedGe n) c e = true ↔ n * 100 ≤ since) ∧
      (Guard.holds (.movedLt n) c e = true ↔ 0 < n ∧ ∀ x ∈ c.claims, sqDist x.pos x.anchor < n ^ 2) ∧
      (Guard.holds (.movedGe n) c e = true ↔ n = 0 ∨ ∃ x ∈ c.claims, n ^ 2 ≤ sqDist x.pos x.anchor) ∧
      (Guard.holds (.tapsEq n) c e = true ↔ c.taps = n) ∧
      (Guard.holds (.spreadGe n) c e = true ↔ ∃ x y rest, c.claims = x :: y :: rest ∧
        n ≤ ((Nat.sqrt (sqDist x.pos y.pos) : Int) - c.anchorSpread).natAbs)) ∧
    ∀ mask, Guard.holds (.zoneIn mask) c e = true ↔ ∃ z, e.zone = some z ∧ mask.getLsbD z = true := by
  refine ⟨rfl, fun n => ⟨beq_iff_eq, decide_eq_true_iff, decide_eq_true_iff, decide_eq_true_iff, ?_, ?_, beq_iff_eq, ?_⟩,
    fun mask => Option.any_eq_true _ _⟩
  · exact decide_eq_true_iff.trans (largestMove_lt_iff c.claims n)
  · exact decide_eq_true_iff.trans (le_largestMove_iff c.claims n)
  · exact decide_eq_true_iff.trans (spreadGe_iff c n)

/-! ## The context that claims a track (R122) -/

theorem findSome?_zipIdx {α β : Type} (l : List α) (n k : Nat) (f : α × Nat → Option β) {a : α} {b : β}
    (ha : l[k]? = some a) (hb : f (a, n + k) = some b) (hbefore : ∀ j x, j < k → l[j]? = some x → f (x, n + j) = none) :
    (l.zipIdx n).findSome? f = some b := by
  induction l generalizing n k with
  | nil => simp at ha
  | cons x l ih =>
    rw [List.zipIdx_cons, List.findSome?_cons]
    cases k with
    | zero =>
      obtain rfl : x = a := by simpa using ha
      rw [show f (x, n) = some b from hb]
    | succ k =>
      rw [show f (x, n) = none from hbefore 0 x (by omega) rfl]
      refine ih (n + 1) k ha (by rwa [Nat.add_assoc, Nat.add_comm 1]) fun j y hj hy => ?_
      rw [Nat.add_assoc, Nat.add_comm 1]
      exact hbefore (j + 1) y (by omega) hy

section
variable {s : State} {r : TrackRef}

theorem claimIn_eq_none {c : Option Context} (h : ∀ d, c = some d → d.claimsTrack r = false) : claimIn r c = none := by
  cases c with
  | none => rfl
  | some d =>
    have hd := h d rfl
    rw [Context.claimsTrack, List.any_eq_false] at hd
    simpa [claimIn, List.find?_eq_none] using hd

theorem State.claimant_eq_none (h : ∀ k c, s.context k = some c → c.claimsTrack r = false) : s.claimant r = none := by
  rw [State.claimant, List.findSome?_eq_none_iff]
  rintro ⟨c, k⟩ hmem
  rw [List.mem_zipIdx_iff_getElem?] at hmem
  have hnone : claimIn r c = none := claimIn_eq_none fun d hd => h k d (by
    rw [State.context_eq]
    simp only [hmem, hd, Option.getD_some])
  simp only [hnone, Option.map_none]

theorem State.claimant_eq_some {k : Nat} {c : Context} {front back : List ClaimEntry} {x : ClaimEntry}
    (hc : s.context k = some c) (hclaims : c.claims = front ++ x :: back) (hx : x.track = r)
    (hothers : ∀ y ∈ front ++ back, y.track ≠ r)
    (hlower : ∀ j d, j < k → s.context j = some d → d.claimsTrack r = false) : s.claimant r = some (k, x) := by
  have hlt := State.context_lt hc
  have hslot : s.gestures.contexts[k]? = some (some c) := by
    rw [State.context_eq, List.getElem?_eq_getElem hlt, Option.getD_some] at hc
    rw [List.getElem?_eq_getElem hlt, hc]
  refine findSome?_zipIdx _ 0 k _ hslot ?_ fun j d hj hd => ?_
  · have hfind : c.claims.find? (fun e => e.track == r) = some x := by
      rw [List.find?_eq_some_iff_append]
      exact ⟨beq_iff_eq.mpr hx, front, back, hclaims, fun y hy =>
        by simpa using hothers y (List.mem_append_left _ hy)⟩
    simp only [claimIn, Option.bind_some, hfind, Option.map_some, Nat.zero_add]
  · have hnone : claimIn r d = none := claimIn_eq_none fun x hx => hlower j x hj (by
      rw [State.context_eq]
      simp only [hd, hx, Option.getD_some])
    simp only [hnone, Option.map_none]

/-! ## The events of claimed tracks (R127, R128) -/

theorem State.trackEvent_of_unclaimed (h : ∀ k c, s.context k = some c → c.claimsTrack r = false) (u : Surface)
    (time : Time) :
    s.trackEvent u time (.lift r) = s ∧ s.trackEvent u time (.cancel r) = s ∧
      s.trackEvent u time (.reclass r none) = s ∧ ∀ p, s.trackEvent u time (.move r p) = s := by
  have hnone := State.claimant_eq_none h
  refine ⟨?_, ?_, ?_, fun p => ?_⟩
  · simp only [State.trackEvent, State.deliverLift, hnone]
  · simp only [State.trackEvent, State.deliverCancel, hnone]
  · simp only [State.trackEvent, State.deliverClaimed, hnone]
  · simp only [State.trackEvent, State.deliverClaimed, hnone]

theorem State.claimGone_context {k : Nat} {c : Context} (hc : s.context k = some c) (r : TrackRef)
    (left : List ClaimEntry) : (s.claimGone k c r left).context k = some { c with claims := left } := by
  rw [State.claimGone, State.context_setContext, if_pos rfl]
  exact if_pos (State.context_lt hc)

theorem State.trackEvent_of_claimed {k : Nat} {c : Context} {front back : List ClaimEntry} {x : ClaimEntry}
    (hc : s.context k = some c) (hclaims : c.claims = front ++ x :: back) (hx : x.track = r)
    (hothers : ∀ y ∈ front ++ back, y.track ≠ r)
    (hlower : ∀ j d, j < k → s.context j = some d → d.claimsTrack r = false) (u : Surface) (time : Time) :
    let meets (kind : EventKind) : Event := ⟨kind, time, some r, x.pos, some x.zone⟩
    let gone := s.claimGone k c r (front ++ back)
    let left := { c with claims := front ++ back }
    s.trackEvent u time (.lift r) = gone.deliver k (meets .lift) ∧
    (s.firesNone left (meets .cancel) → s.trackEvent u time (.cancel r) = gone.endContext time k) ∧
    (∀ row, s.firesFirst left (meets .cancel) row →
      s.trackEvent u time (.cancel r) = gone.deliver k (meets .cancel)) ∧
    s.trackEvent u time (.reclass r none) = s.deliver k (meets .reclass) ∧
    ∀ p, s.trackEvent u time (.move r p) = s.deliver k (meets .move) := by
  have hclaimant := State.claimant_eq_some hc hclaims hx hothers hlower
  have hgone : s.giveUp k r = s.claimGone k c r (front ++ back) := by
    rw [State.giveUp_eq_claimGone hc, Context.letGo, hclaims, filter_one_out hx hothers]
  have hleft := State.claimGone_context hc r (front ++ back)
  have hevent (kind : EventKind) : claimEvent kind time x = ⟨kind, time, some r, x.pos, some x.zone⟩ := by
    rw [claimEvent, hx]
  have hcancel : s.trackEvent u time (.cancel r) =
      ((s.claimGone k c r (front ++ back)).handle k ⟨.cancel, time, some r, x.pos, some x.zone⟩).getD
        ((s.claimGone k c r (front ++ back)).endContext time k) := by
    simp only [State.trackEvent, State.deliverCancel, hclaimant, hgone, hevent]
  refine ⟨?_, fun hnone => ?_, fun row hfirst => ?_, ?_, fun p => ?_⟩
  · simp only [State.trackEvent, State.deliverLift, hclaimant, hgone, hevent]
  · rw [hcancel, State.handle_of_none hleft hnone, Option.getD_none]
  · rw [hcancel, State.deliver, State.handle_of_first hleft hfirst, Option.getD_some, Option.getD_some]
  · simp only [State.trackEvent, State.deliverClaimed, hclaimant, hevent]
  · simp only [State.trackEvent, State.deliverClaimed, hclaimant, hevent]

/-- A RECLASS with a forced release goes to the context it was released from, while that runs (R128). -/
theorem State.trackEvent_of_released (u : Surface) (time : Time) (from_ : ContextRef) :
    (s.runs from_ → s.trackEvent u time (.reclass r (some from_)) =
      s.deliver from_.slot ⟨.reclass, time, some r, ⟨0, 0⟩, none⟩) ∧
    (¬ s.runs from_ → s.trackEvent u time (.reclass r (some from_)) = s) := by
  simp only [State.trackEvent, State.deliverReleased]
  constructor
  · rintro ⟨c, hc, hserial⟩
    simp only [hc, hserial, if_true]
  · intro hno
    cases hc : s.context from_.slot with
    | none => rfl
    | some c => exact if_neg fun hserial => hno ⟨c, hc, hserial⟩

end

/-! ## What the engine may take (R124, R143) -/

theorem State.mayTakeItem_iff (s : State) (m : Time) : s.mayTakeItem m = true ↔
    s.gestures.inHand = false ∧ s.switchDue = false ∧
      ∀ w ∈ s.waitingMoments, ¬ (w ≠ m ∧ (m - w).toNat < 2 ^ 31) := by
  simp only [State.mayTakeItem, Bool.and_eq_true, Bool.not_eq_true', List.all_eq_true, Bool.eq_false_iff, ne_eq,
    earlier_iff, and_assoc]

theorem exec_digestTaken_idle {s : State} (h : ∀ d ∈ s.gestures.digests.head?, s.mayTakeItem d.joined = false) :
    exec .digestTaken s = .next s := by
  refine congrArg Host.Outcome.next ?_
  split
  · rfl
  next d _ hd => exact if_neg (Bool.eq_false_iff.mp (h d (by simp [hd])))

theorem exec_penInkTaken_idle {s : State} (h : ∀ p ∈ s.gestures.penInk, s.mayTakeItem p.handed = false) :
    exec .penInkTaken s = .next s := by
  refine congrArg Host.Outcome.next ?_
  split
  · rfl
  next p hp => exact if_neg (Bool.eq_false_iff.mp (h p hp))

theorem exec_timerExpiryTaken_idle {s : State} {k : Nat} (h : ∀ c timer w, s.context k = some c →
    c.timer = some timer → timer.waiting = some w → s.mayTakeItem w = false) :
    exec (.timerExpiryTaken k) s = .next s := by
  refine congrArg Host.Outcome.next ?_
  split
  · rfl
  next t ht =>
    obtain ⟨c, hc, htimer⟩ := Option.bind_eq_some_iff.mp ht
    refine if_neg fun hany => ?_
    obtain ⟨w, hw, hmay⟩ := (Option.any_eq_true _ _).mp hany
    exact Bool.eq_false_iff.mp (h c t w hc htimer hw) hmay

theorem exec_digestHandlingEnd_idle {s : State} (h : s.gestures.inHand = false) :
    exec .digestHandlingEnd s = .next s :=
  congrArg Host.Outcome.next (if_neg (Bool.eq_false_iff.mp h))

end Sys2Proof.Machine

/-! The items of the engine taken and handled (chapter 08, sections 8.2, 8.5 and 8.9; R124, R126, R134, R140). -/

namespace Sys2Proof.Machine

/-! ## What the handling of an event leaves of the engine but for its contexts -/

section
variable (s : State)

theorem State.watchEntry_apart (k : Nat) (e : Event) : (s.watchEntry k e).gestures.apart = s.gestures.apart :=
  congrArg Gestures.apart (s.watchEntry_gestures k e)

theorem Handling.act_apart (trial : Bool) (k : Nat) (e : Event) (h : Handling) (a : Action) :
    (h.act trial k e a).state.gestures.apart = h.state.gestures.apart := by
  unfold Handling.act
  split
  · rfl
  · exact h.state.act_apart k e a

theorem Handling.enter_apart (trial : Bool) (k : Nat) (e : Event) (from_ next : Nat) (h : Handling) :
    (h.enter trial k e from_ next).state.gestures.apart = h.state.gestures.apart := by
  simp only [Handling.enter]
  split
  · rfl
  · split
    · rfl
    · exact State.watchEntry_apart _ k e

theorem Handling.fire_apart (trial : Bool) (k : Nat) (e : Event) (row : Row) (h : Handling) :
    (h.fire trial k e row).state.gestures.apart = h.state.gestures.apart := by
  have hacts : (row.actions.foldl (Handling.act trial k e) h).state.gestures.apart = h.state.gestures.apart :=
    foldl_keeps _ (fun x : Handling => x.state.gestures.apart) (fun x a => x.act_apart trial k e a) _ h
  simp only [Handling.fire]
  split
  · exact (State.endContext_apart _ e.time k).trans hacts
  · exact (Handling.enter_apart trial k e _ _ _).trans hacts

theorem Handling.handle_apart {trial : Bool} {k : Nat} {e : Event} {h h' : Handling} (hh : h.handle trial k e = some h') :
    h'.state.gestures.apart = h.state.gestures.apart := by
  obtain ⟨-, row, -, -, rfl⟩ := Handling.handle_eq_some hh
  exact h.fire_apart trial k e row

theorem State.handle_apart {t : State} {k : Nat} {e : Event} (h : s.handle k e = some t) :
    t.gestures.apart = s.gestures.apart := by
  obtain ⟨h', hh, rfl⟩ := Option.map_eq_some_iff.mp h
  exact (Handling.handle_apart hh :)

theorem State.deliver_apart (k : Nat) (e : Event) : (s.deliver k e).gestures.apart = s.gestures.apart := by
  unfold State.deliver
  cases h : s.handle k e with
  | none => rfl
  | some t => exact s.handle_apart h

theorem State.deliverLift_apart (time : Time) (r : TrackRef) :
    (s.deliverLift time r).gestures.apart = s.gestures.apart := by
  unfold State.deliverLift
  split
  · rfl
  · exact (State.deliver_apart _ _ _).trans (s.giveUp_apart _ r)

theorem State.deliverCancel_apart (time : Time) (r : TrackRef) :
    (s.deliverCancel time r).gestures.apart = s.gestures.apart := by
  unfold State.deliverCancel
  split
  · rfl
  next k x _ =>
    cases h : (s.giveUp k r).handle k (claimEvent .cancel time x) with
    | none => simp only [h, Option.getD_none, State.endContext_apart, State.giveUp_apart]
    | some t =>
      simp only [h, Option.getD_some]
      exact (State.handle_apart _ h).trans (s.giveUp_apart k r)

theorem State.deliverClaimed_apart (kind : EventKind) (time : Time) (r : TrackRef) :
    (s.deliverClaimed kind time r).gestures.apart = s.gestures.apart := by
  unfold State.deliverClaimed
  split
  · rfl
  · exact s.deliver_apart _ _

theorem State.deliverReleased_apart (time : Time) (r : TrackRef) (from_ : ContextRef) :
    (s.deliverReleased time r from_).gestures.apart = s.gestures.apart := by
  unfold State.deliverReleased
  split
  · rfl
  · split
    · exact s.deliver_apart _ _
    · rfl

theorem State.moveBy_gestures (time : Time) (dx dy : Int) : (s.moveBy time dx dy).gestures = s.gestures := by
  simp only [State.moveBy]
  split
  · rfl
  · exact State.offerPointer_gestures _ _ _

theorem State.pointerFrame_gestures (time : Time) (k : Nat) : (s.pointerFrame time k).gestures = s.gestures := by
  unfold State.pointerFrame
  split
  · split
    · exact s.moveBy_gestures _ _ _
    · rfl
  · rfl

theorem State.accumulateFrame_apart (time : Time) (k : Nat) :
    (s.accumulateFrame time k).gestures.apart = s.gestures.apart := by
  unfold State.accumulateFrame State.autoUpdate
  split
  · rfl
  · split
    · rfl
    · dsimp only
      split
      · rfl
      · split
        · rw [State.offerGesture_gestures]
          rfl
        · rfl

theorem State.frameEvent_apart (time : Time) (k : Nat) :
    (State.frameEvent time s k).gestures.apart = s.gestures.apart := by
  rw [State.frameEvent, State.accumulateFrame_apart, State.pointerFrame_gestures, State.deliver_apart]

/-! ## What the offer chain leaves of the engine -/

/-- The engine's values that no event changes: what waits and what is in hand. A started context takes a serial. -/
def Gestures.tray (g : Gestures) : Gestures := { g with contexts := [], serial := 0 }

theorem Gestures.tray_of_apart {g g' : Gestures} (h : g'.apart = g.apart) : g'.tray = g.tray :=
  (congrArg Gestures.tray h :)

theorem State.offerTo_tray (k : Nat) (e : Event) : (s.offerTo k e).1.gestures.tray = s.gestures.tray := by
  unfold State.offerTo
  split
  next h hh => exact Gestures.tray_of_apart (Handling.handle_apart hh :)
  · rfl

theorem State.offerRunning_tray (time : Time) (d : Touch) (ks : List Nat) :
    (s.offerRunning time d ks).1.gestures.tray = s.gestures.tray := by
  refine foldl_keeps _ (fun x : State × Bool => x.1.gestures.tray) (fun x k => ?_) ks _
  split
  · rfl
  · exact x.1.offerTo_tray k _

theorem State.doHeld_apart (k : Nat) (e : Event) (h : Held) : (State.doHeld k e s h).gestures.apart = s.gestures.apart := by
  cases h with
  | started r => exact congrArg Gestures.apart (State.offerSnapshot_gestures _ _ _)
  | action a => exact s.act_apart k e a
  | entered => exact s.watchEntry_apart k e

theorem State.discardTrial_apart (k : Nat) : (s.discardTrial k).gestures.apart = s.gestures.apart :=
  s.giveUpAll_apart k

theorem State.runTrial_tray (k template : Nat) (d : Touch) (e : Event) :
    (s.runTrial k template d e).1.gestures.tray = s.gestures.tray := by
  have hran : (((s.startTrial k template e).handle true k e).getD (s.startTrial k template e)).state.gestures.tray =
      s.gestures.tray := by
    cases hh : (s.startTrial k template e).handle true k e with
    | none => rfl
    | some h => exact (Gestures.tray_of_apart (Handling.handle_apart hh) :)
  simp only [State.runTrial]
  generalize ((s.startTrial k template e).handle true k e).getD (s.startTrial k template e) = h at hran
  split
  · exact (foldl_keeps _ (fun x : State => x.gestures.tray)
      (fun x a => Gestures.tray_of_apart (x.doHeld_apart k e a)) _ _).trans hran
  · exact (Gestures.tray_of_apart (h.state.discardTrial_apart k)).trans hran

theorem State.tryTemplates_tray (d : Touch) (e : Event) (ts : List Nat) :
    (State.tryTemplates d e s ts).gestures.tray = s.gestures.tray := by
  induction ts generalizing s with
  | nil => rfl
  | cons t ts ih =>
    simp only [State.tryTemplates]
    split
    · rfl
    · split
      · exact s.runTrial_tray _ t d e
      · exact (ih _).trans (s.runTrial_tray _ t d e)

theorem State.offerTouch_tray (time : Time) (d : Touch) : (s.offerTouch time d).gestures.tray = s.gestures.tray := by
  simp only [State.offerTouch]
  split
  · split
    · exact s.offerRunning_tray time d _
    · exact (State.tryTemplates_tray _ d _ _).trans (s.offerRunning_tray time d _)
  · rfl

theorem State.trackEvent_tray (u : Surface) (time : Time) (e : TrackEvent) :
    (State.trackEvent u time s e).gestures.tray = s.gestures.tray := by
  cases e with
  | touchdown r cls pos zone => exact s.offerTouch_tray time _
  | lift r => exact Gestures.tray_of_apart (s.deliverLift_apart time r)
  | reclass r c =>
    cases c with
    | none => exact Gestures.tray_of_apart (s.deliverClaimed_apart .reclass time r)
    | some c => exact Gestures.tray_of_apart (s.deliverReleased_apart time r c)
  | move r p => exact Gestures.tray_of_apart (s.deliverClaimed_apart .move time r)
  | cancel r => exact Gestures.tray_of_apart (s.deliverCancel_apart time r)

/-- A digest's handling leaves what waits and what is in hand (R124, R126). -/
theorem State.handleDigest_tray (d : Digest) : (s.handleDigest d).gestures.tray = s.gestures.tray := by
  have htold : (d.events.foldl (State.trackEvent d.surface d.time) (s.placeClaims d)).gestures.tray = s.gestures.tray :=
    foldl_keeps _ (fun x : State => x.gestures.tray) (fun x e => x.trackEvent_tray _ _ e) _ _
  simp only [State.handleDigest]
  split
  · exact (foldl_keeps _ (fun x : State => x.gestures.tray)
      (fun x k => Gestures.tray_of_apart (x.frameEvent_apart _ k)) _ _).trans htold
  · exact htold

theorem State.handlePenInk_apart (p : PenInk) :
    (s.handlePenInk p).gestures.apart = { s.gestures.apart with penInk := none } :=
  foldl_keeps _ (fun x : State => x.gestures.apart) (fun x k => x.deliver_apart k _) _ _

/-! ## The items (R124) -/

theorem State.engineKeeps_offerNotice (n : Notice) : s.engineKeeps (s.offerNotice n) := by
  obtain ⟨-, heq⟩ | ⟨-, heq⟩ := s.offerNotice_cases n <;> rw [heq]
  · exact State.engineKeeps_of_same rfl rfl rfl rfl
  · simp [State.engineKeeps]

theorem State.engineKeeps.noticed {s t : State} (h : s.engineKeeps t) (before : State) :
    s.engineKeeps (State.noticeRises before t) := by
  have offered (c : Bool) (x : State) (n : Notice) : x.engineKeeps (if c then x.offerNotice n else x) := by
    cases c
    · exact State.engineKeeps.refl x
    · exact x.engineKeeps_offerNotice n
  exact (h.trans (offered _ _ _)).trans (offered _ _ _)

/-- The engine handles a digest within its reach (R126). -/
theorem State.handleDigest_keeps (d : Digest) : s.engineKeeps (s.handleDigest d) :=
  (s.handleDigest_moves (held := False) d False.elim).keeps

theorem State.handlePenInk_keeps (p : PenInk) : s.engineKeeps (s.handlePenInk p) :=
  (s.handlePenInk_moves (held := False) p False.elim).keeps

theorem State.deliver_keeps (k : Nat) (e : Event) : s.engineKeeps (s.deliver k e) :=
  (s.deliver_moves (held := False) k e False.elim).keeps

/-- The claims of a surface's contexts placed, with R120's surface as a proposition (R126, step 1). -/
theorem State.placeClaims_eq (d : Digest) : s.placeClaims d = { s with gestures := { s.gestures with
    contexts := s.gestures.contexts.map fun r => r.map fun c =>
      if (s.tables.active.template c.template).surface = d.surface.code then
        { c with claims := c.claims.map (ClaimEntry.place d.positions) } else c } } := by
  have hplace (c : Context) : (if s.ofSurface d.surface c then
      { c with claims := c.claims.map (ClaimEntry.place d.positions) } else c) =
      if (s.tables.active.template c.template).surface = d.surface.code then
        { c with claims := c.claims.map (ClaimEntry.place d.positions) } else c :=
    if_congr beq_iff_eq rfl rfl
  simp only [State.placeClaims, hplace]

theorem exec_digestTaken {d : Digest} {rest : List Digest} (hd : s.gestures.digests = d :: rest)
    (hmay : s.mayTakeItem d.joined = true) :
    exec .digestTaken s = .next (State.noticeRises s ((s.setInHand true).handleDigest d)) := by
  refine congrArg Host.Outcome.next ?_
  simp only [hd, hmay, if_true]

theorem exec_penInkTaken {p : PenInk} (hp : s.gestures.penInk = some p) (hmay : s.mayTakeItem p.handed = true) :
    exec .penInkTaken s = .next (State.noticeRises s (s.handlePenInk p)) := by
  refine congrArg Host.Outcome.next ?_
  simp only [hp, hmay, if_true]

theorem exec_timerExpiryTaken {k : Nat} {c : Context} {timer : ContextTimer} {w : Time} (hc : s.context k = some c)
    (htimer : c.timer = some timer) (hw : timer.waiting = some w) (hmay : s.mayTakeItem w = true) :
    exec (.timerExpiryTaken k) s = .next (State.noticeRises s
      ((s.setContext k (some { c with timer := none })).deliver k (plainEvent .timer timer.deadline))) := by
  refine congrArg Host.Outcome.next ?_
  simp only [hc, Option.bind_some, htimer, hw, Option.any_some, hmay, if_true, State.onContext_of_running hc]

/-- What a digest taken leaves (R124): in hand until its handling ends. -/
theorem State.digestTaken_leaves (d : Digest) :
    (State.noticeRises s ((s.setInHand true).handleDigest d)).gestures.inHand = true ∧
      (State.noticeRises s ((s.setInHand true).handleDigest d)).gestures.digests = s.gestures.digests ∧
      s.engineKeeps (State.noticeRises s ((s.setInHand true).handleDigest d)) := by
  have htray := (s.setInHand true).handleDigest_tray d
  refine ⟨?_, ?_, ?_⟩
  · rw [State.noticeRises_gestures]
    exact (congrArg Gestures.inHand htray :)
  · rw [State.noticeRises_gestures]
    exact (congrArg Gestures.digests htray :)
  · have hset : s.engineKeeps (s.setInHand true) := State.engineKeeps_of_same rfl rfl rfl rfl
    exact (hset.trans ((s.setInHand true).handleDigest_keeps d)).noticed s

end

end Sys2Proof.Machine

/-! The offer chain: the order of the offers, what makes a claim, and the offers to running contexts (chapter 08,
section 8.6; R135, R136). -/

namespace Sys2Proof.Machine

/-! ## Orders by priority (R135, R136) -/

section
variable (priority : Nat → Nat)

theorem mem_byPriority {l : List Nat} {i : Nat} : i ∈ byPriority priority l ↔ i ∈ l :=
  (arrange_perm _ l).mem_iff

/-- Highest priority first, and of the same priority the lower index first. -/
theorem byPriority_pairwise {l : List Nat} (hl : l.Nodup) : (byPriority priority l).Pairwise fun i j =>
    priority j < priority i ∨ (priority i = priority j ∧ i < j) := by
  have hsorted := arrange_pairwise
    (before := fun a b => decide (priority b < priority a) || (priority a == priority b && decide (a < b)))
    (fun a => by simp) (fun {a b c} hab hbc => by
      simp only [Bool.or_eq_true, decide_eq_true_eq, Bool.and_eq_true, beq_iff_eq] at hab hbc ⊢
      omega) l
  refine (hsorted.and ((arrange_perm _ l).nodup_iff.mpr hl)).imp fun {i j} h => ?_
  obtain ⟨hnot, hne⟩ := h
  rw [Bool.eq_false_iff] at hnot
  simp only [ne_eq, Bool.or_eq_true, decide_eq_true_eq, Bool.and_eq_true, beq_iff_eq] at hnot
  omega

end

theorem Template.accepts_iff (t : Template) (d : Touch) : t.accepts d = true ↔
    t.surface = d.surface.code ∧ t.zones.getLsbD d.zone = true ∧ inClasses t.classes d.cls = true := by
  simp only [Template.accepts, inZones, Bool.and_eq_true, beq_iff_eq, and_assoc]

theorem State.isCandidate_iff (s : State) (d : Touch) (k : Nat) : s.isCandidate d k = true ↔ ∃ c, s.context k = some c ∧
    (s.tables.active.template c.template).accepts d = true ∧
    c.claims.length < (s.tables.active.template c.template).maxTracks := by
  simp only [State.isCandidate, Option.any_eq_true, Bool.and_eq_true, decide_eq_true_eq]

theorem State.mem_offerOrder {s : State} (hlen : s.gestures.contexts.length = 6) (d : Touch) (k : Nat) :
    k ∈ s.offerOrder d ↔ s.isCandidate d k = true := by
  rw [State.offerOrder, mem_byPriority, List.mem_filter, List.mem_range]
  refine and_iff_right_of_imp fun h => ?_
  obtain ⟨c, hc, -⟩ := (s.isCandidate_iff d k).mp h
  exact (State.context_lt hc).trans_eq hlen

theorem State.offerOrder_pairwise (s : State) (d : Touch) : (s.offerOrder d).Pairwise fun j k =>
    ∀ a b, s.context j = some a → s.context k = some b →
      s.priorityOf b < s.priorityOf a ∨ (s.priorityOf a = s.priorityOf b ∧ j < k) := by
  refine (byPriority_pairwise _ (List.nodup_range.filter _)).imp fun {j k} h a b ha hb => ?_
  simpa only [ha, hb, Option.map_some, Option.getD_some] using h

theorem State.mem_qualifying (s : State) (d : Touch) (i : Nat) : i ∈ s.qualifying d ↔
    i < s.tables.active.templates.length ∧ s.entry.templates.getLsbD i = true ∧
      (s.tables.active.template i).accepts d = true := by
  rw [State.qualifying, mem_byPriority, List.mem_filter, List.mem_range, Bool.and_eq_true]

theorem State.qualifying_pairwise (s : State) (d : Touch) : (s.qualifying d).Pairwise fun i j =>
    (s.tables.active.template j).priority < (s.tables.active.template i).priority ∨
      ((s.tables.active.template i).priority = (s.tables.active.template j).priority ∧ i < j) :=
  byPriority_pairwise _ (List.nodup_range.filter _)

/-! ## What makes a claim (R122, R123) -/

section
variable {s : State} {r : TrackRef}

theorem State.claimed_iff : s.claimed r = true ↔ ∃ k, r ∈ s.claimsOf k := by
  constructor
  · intro h
    by_contra hno
    rw [State.claimed, State.claimant_eq_none] at h
    · cases h
    · intro k c hc
      rw [Bool.eq_false_iff]
      exact fun hclaims => hno ⟨k, State.mem_claimsOf.mpr ⟨c, hc, hclaims⟩⟩
  · rintro ⟨k, hk⟩
    obtain ⟨c, hc, hclaims⟩ := State.mem_claimsOf.mp hk
    obtain ⟨e, he, hr⟩ := List.any_eq_true.mp hclaims
    have hslot : (some c, k) ∈ s.gestures.contexts.zipIdx := by
      rw [List.mem_zipIdx_iff_getElem?]
      have hlt := State.context_lt hc
      rw [State.context_eq, List.getElem?_eq_getElem hlt, Option.getD_some] at hc
      rw [List.getElem?_eq_getElem hlt, hc]
    rw [State.claimed, State.claimant, List.findSome?_isSome_iff]
    refine ⟨(some c, k), hslot, ?_⟩
    simp only [claimIn, Option.bind_some, Option.isSome_map, List.find?_isSome]
    exact ⟨e, he, hr⟩

theorem State.not_claimed_iff : s.claimed r = false ↔ ∀ k, r ∉ s.claimsOf k := by
  rw [Bool.eq_false_iff, ne_eq, State.claimed_iff, not_exists]

theorem State.claimsOf_onContext (s : State) (k j : Nat) {f : Context → Context}
    (hf : ∀ c, (f c).claims.map ClaimEntry.track = c.claims.map ClaimEntry.track) :
    (s.onContext k f).claimsOf j = s.claimsOf j := by
  cases hc : s.context k with
  | none => rw [State.onContext_of_free hc]
  | some c =>
    rw [State.onContext_of_running hc, State.claimsOf_setContext hc]
    split
    next hjk => rw [hf, hjk, State.claimsOf_of_running hc]
    · rfl

theorem Context.setAnchor_claims (c : Context) (time : Time) :
    (c.setAnchor time).claims.map ClaimEntry.track = c.claims.map ClaimEntry.track := by
  rw [Context.setAnchor, List.map_map]
  rfl

theorem State.claimsOf_emit (s : State) (time : Time) (k j : Nat) (p : EmitPhase) (code : Nat) :
    (s.emit time k p code).claimsOf j = s.claimsOf j := by
  unfold State.emit
  split
  · rfl
  · rw [State.claimsOf_onContext _ _ _ (f := fun c => { c with openCode := p.openAfter code c.openCode }) fun _ => rfl]
    refine State.claimsOf_of_contexts ?_ j
    rw [State.offerGesture_gestures]
    split
    · rw [State.autoCancel_gestures]
    · rfl

/-- No action but CLAIM makes a claim. -/
theorem State.claimsOf_act {a : Action} (ha : a ≠ .claim) (k j : Nat) (e : Event) (h : r ∈ (s.act k e a).claimsOf j) :
    r ∈ s.claimsOf j := by
  have hedit {f : Context → Context} (h : r ∈ (s.onContext k f).claimsOf j)
      (hf : ∀ c, (f c).claims.map ClaimEntry.track = c.claims.map ClaimEntry.track) : r ∈ s.claimsOf j :=
    s.claimsOf_onContext k j hf ▸ h
  have hsame {t : State} (heq : t.gestures = s.gestures) (h : r ∈ t.claimsOf j) : r ∈ s.claimsOf j :=
    State.claimsOf_of_contexts (congrArg _ heq) j ▸ h
  have hgone (x : TrackRef) (h : r ∈ (s.giveUp k x).claimsOf j) : r ∈ s.claimsOf j := by
    rw [State.claimsOf_giveUp] at h
    split at h
    next hjk => exact hjk ▸ List.mem_of_mem_filter h
    · exact h
  cases a with
  | claim => exact absurd rfl ha
  | release =>
    simp only [State.act, State.release] at h
    split at h
    · split at h
      · exact hgone _ h
      · exact h
    · exact h
  | releaseAll =>
    simp only [State.act, State.claimsOf, State.context_giveUpAll] at h
    split at h
    · cases hc : s.context k <;> simp [hc] at h
    · exact h
  | anchor => exact hedit h fun c => c.setAnchor_claims _
  | timerSet | timerStop | tap | tapClear | accStart | accStop => exact hedit h fun _ => rfl
  | emit p code => exact s.claimsOf_emit _ k j p code ▸ h
  | pointerOn => exact hsame (s.pointerOn_gestures k) h
  | pointerOff => exact hsame (s.pointerOff_gestures k) h
  | button n press => exact hsame (s.button_gestures _ k n press) h

theorem State.claimed_act {a : Action} (ha : a ≠ .claim) (k : Nat) (e : Event) (h : (s.act k e a).claimed r = true) :
    s.claimed r = true := by
  obtain ⟨j, hj⟩ := State.claimed_iff.mp h
  exact State.claimed_iff.mpr ⟨j, State.claimsOf_act ha k j e hj⟩

theorem State.claimed_endContext {time : Time} {k : Nat} (h : (s.endContext time k).claimed r = true) :
    s.claimed r = true := by
  obtain ⟨j, hj⟩ := State.claimed_iff.mp h
  refine State.claimed_iff.mpr ⟨j, ?_⟩
  rw [State.claimsOf, State.context_endContext] at hj
  split at hj
  · cases hj
  · exact hj

theorem Handling.claimed_enter {trial : Bool} {k : Nat} {e : Event} {from_ next : Nat} {h : Handling}
    (hc : (h.enter trial k e from_ next).state.claimed r = true) : h.state.claimed r = true := by
  obtain ⟨j, hj⟩ := State.claimed_iff.mp hc
  have hentered : r ∈ (h.state.onContext k fun c => { c with state := next }).claimsOf j := by
    simp only [Handling.enter] at hj
    split at hj
    · exact hj
    · split at hj
      · exact hj
      · exact State.claimsOf_of_contexts (congrArg _ (State.watchEntry_gestures _ k e)) j ▸ hj
  refine State.claimed_iff.mpr ⟨j, ?_⟩
  rwa [State.claimsOf_onContext _ _ _ (f := fun c => { c with state := next }) fun _ => rfl] at hentered

/-- A track that comes to be claimed while an event that names it is handled was claimed by CLAIM (R135). -/
theorem Handling.granted_of_claimed {k : Nat} {e : Event} {row : Row} (hr : e.track = some r) (hfree : s.claimed r = false)
    (h : ((Handling.mk s [] false).fire false k e row).state.claimed r = true) :
    ((Handling.mk s [] false).fire false k e row).granted = true := by
  have hacts : (row.actions.foldl (Handling.act false k e) (Handling.mk s [] false)).state.claimed r = true →
      (row.actions.foldl (Handling.act false k e) (Handling.mk s [] false)).granted = true := by
    refine foldl_invariant (fun x : Handling => x.state.claimed r = true → x.granted = true) _ (fun x a hx hclaimed => ?_) _ _
      fun hclaimed => absurd (hfree.symm.trans hclaimed) nofun
    simp only [Handling.act, Bool.false_and, Bool.false_eq_true, if_false] at hclaimed ⊢
    by_cases ha : a = .claim
    · subst ha
      simp only [hr, Option.any_some, hclaimed, beq_self_eq_true, Bool.and_self, Bool.or_true]
    · rw [hx (State.claimed_act ha k e hclaimed), Bool.true_or]
  simp only [Handling.fire] at h ⊢
  split at h
  next hend =>
    rw [if_pos hend]
    exact hacts (State.claimed_endContext h)
  next hgo =>
    rw [if_neg hgo]
    have hgranted := hacts (Handling.claimed_enter h)
    simp only [Handling.enter, Bool.false_eq_true, if_false]
    split <;> exact hgranted

end

/-! ## Offers to running contexts (R135) -/

section
variable {s : State} {time : Time} {d : Touch}

theorem State.offerTo_declined {k : Nat} {e : Event} (h : ∀ c, s.context k = some c → s.firesNone c e) :
    s.offerTo k e = (s, false) := by
  have hnone : (Handling.mk s [] false).handle false k e = none := by
    cases hc : s.context k with
    | none => exact Handling.handle_of_free hc
    | some c => exact Handling.handle_of_none hc (h c hc)
  simp only [State.offerTo, hnone]

/-- One offer of step 1, to a candidate while the track is not claimed (R135). -/
def State.offerNext (time : Time) (d : Touch) (acc : State × Bool) (k : Nat) : State × Bool :=
  if acc.2 || !acc.1.isCandidate d k then acc else acc.1.offerTo k (d.event time)

theorem State.offerRunning_eq (ks : List Nat) :
    s.offerRunning time d ks = ks.foldl (State.offerNext time d) (s, s.claimed d.track) := rfl

theorem State.offers_declined {ks : List Nat}
    (h : ∀ k ∈ ks, ∀ c, s.context k = some c → s.firesNone c (d.event time)) :
    ks.foldl (State.offerNext time d) (s, false) = (s, false) := by
  induction ks with
  | nil => rfl
  | cons k ks ih =>
    have hfirst : State.offerNext time d (s, false) k = (s, false) := by
      unfold State.offerNext
      split
      · rfl
      · exact State.offerTo_declined (h k (List.mem_cons_self ..))
    rw [List.foldl_cons, hfirst]
    exact ih fun j hj => h j (List.mem_cons_of_mem _ hj)

theorem State.offers_over (ks : List Nat) : ks.foldl (State.offerNext time d) (s, true) = (s, true) :=
  foldl_invariant (· = (s, true)) _ (fun x k hx => by rw [hx]; rfl) ks _ rfl

/-- The offer stops at the candidate that claims the track (R135). -/
theorem State.offerTo_claimed {k : Nat} (hfree : s.claimed d.track = false)
    (h : (s.deliver k (d.event time)).claimed d.track = true) :
    s.offerTo k (d.event time) = (s.deliver k (d.event time), true) := by
  cases hh : (Handling.mk s [] false).handle false k (d.event time) with
  | none =>
    have hdeliver : s.deliver k (d.event time) = s := by rw [State.deliver, State.handle, hh]; rfl
    rw [hdeliver, hfree] at h
    cases h
  | some h' =>
    have hdeliver : s.deliver k (d.event time) = h'.state := by rw [State.deliver, State.handle, hh]; rfl
    obtain ⟨c, row, -, -, rfl⟩ := Handling.handle_eq_some hh
    rw [hdeliver] at h ⊢
    simp only [State.offerTo, hh, Handling.granted_of_claimed rfl hfree h]

theorem State.offerTouch_of_candidate {front back : List Nat} {k : Nat} (hrun : s.link.part = .run)
    (horder : s.offerOrder d = front ++ k :: back)
    (hfront : ∀ j ∈ front, ∀ c, s.context j = some c → s.firesNone c (d.event time))
    (hcandidate : s.isCandidate d k = true) (hfree : s.claimed d.track = false)
    (h : (s.deliver k (d.event time)).claimed d.track = true) :
    s.offerTouch time d = s.deliver k (d.event time) := by
  have hoffers : s.offerRunning time d (s.offerOrder d) = (s.deliver k (d.event time), true) := by
    have hstop : State.offerNext time d (s, false) k = (s.deliver k (d.event time), true) := by
      simp only [State.offerNext, hcandidate, Bool.not_true, Bool.or_self, Bool.false_eq_true, if_false]
      exact State.offerTo_claimed hfree h
    rw [State.offerRunning_eq, horder, hfree, List.foldl_append, State.offers_declined hfront, List.foldl_cons, hstop,
      State.offers_over]
  simp only [State.offerTouch, hrun, if_true, hoffers]

/-- Where no candidate answers, the templates are tried (R136). -/
theorem State.offerTouch_of_declined (hrun : s.link.part = .run)
    (h : ∀ k ∈ s.offerOrder d, ∀ c, s.context k = some c → s.firesNone c (d.event time))
    (hfree : s.claimed d.track = false) :
    s.offerTouch time d = State.tryTemplates d (d.event time) s (s.qualifying d) := by
  have hoffers : s.offerRunning time d (s.offerOrder d) = (s, false) := by
    rw [State.offerRunning_eq, hfree, State.offers_declined h]
  simp only [State.offerTouch, hrun, if_true, hoffers, Bool.false_eq_true, if_false]

/-- Out of RUN a TOUCHDOWN is dropped (R135). -/
theorem State.offerTouch_of_not_run (h : s.link.part ≠ .run) : s.offerTouch time d = s := if_neg h

end

end Sys2Proof.Machine

/-! Trials of step 2 (chapter 08, section 8.6; R136, R137): the declined ones, the one that claims, and why a track
that may not be claimed stays unclaimed. -/

namespace Sys2Proof.Machine

/-! ## The free slot (R136) -/

section
variable {s : State} {k : Nat}

theorem State.setContext_free (h : s.context k = none) : s.setContext k none = s := by
  have hlist : s.gestures.contexts.set k none = s.gestures.contexts := by
    apply List.ext_getElem?
    intro j
    rw [List.getElem?_set]
    split
    next hkj =>
      subst hkj
      split
      next hlt =>
        rw [State.context_eq, List.getElem?_eq_getElem hlt, Option.getD_some] at h
        rw [List.getElem?_eq_getElem hlt, h]
      next hout => rw [List.getElem?_eq_none (Nat.not_lt.mp hout)]
    · rfl
  simp only [State.setContext, hlist]

theorem State.freeContext_eq_none (h : ∀ r ∈ s.gestures.contexts, r ≠ none) : s.freeContext = none := by
  rw [State.freeContext, List.findIdx?_eq_none_iff]
  exact fun r hr => Option.isNone_eq_false_iff.mpr (Option.isSome_iff_ne_none.mpr (h r hr))

theorem State.freeContext_isSome (h : ∃ r ∈ s.gestures.contexts, r = none) : ∃ k, s.freeContext = some k := by
  rw [← Option.isSome_iff_exists, State.freeContext, List.findIdx?_isSome, List.any_eq_true]
  obtain ⟨r, hr, rfl⟩ := h
  exact ⟨none, hr, rfl⟩

theorem State.freeContext_eq (hlt : k < s.gestures.contexts.length) (hfree : s.context k = none)
    (hlower : ∀ j, j < k → s.context j ≠ none) : s.freeContext = some k := by
  rw [State.freeContext, List.findIdx?_eq_some_iff_getElem]
  refine ⟨hlt, ?_, fun j hj => ?_⟩
  · rw [State.context_eq, List.getElem?_eq_getElem hlt, Option.getD_some] at hfree
    rw [hfree, Option.isNone_none]
  · have hnot := hlower j hj
    rw [State.context_eq, List.getElem?_eq_getElem (hj.trans hlt), Option.getD_some] at hnot
    simpa [Option.isNone_iff_eq_none] using hnot

theorem State.freeContext_lt (h : s.freeContext = some k) : k < s.gestures.contexts.length := by
  rw [State.freeContext, List.findIdx?_eq_some_iff_getElem] at h
  exact h.1

end

/-! ## A trial context as it starts (R121, R136) -/

/-- The serial counter replaced. -/
def State.setSerial (s : State) (n : Nat) : State := { s with gestures := { s.gestures with serial := n } }

theorem Row.answers_start (row : Row) (i m n : Nat) (time : Time) (e : Event) :
    row.answers (Context.start i m time) e = row.answers (Context.start i n time) e := by
  have hguard (g : Guard) : g.holds (Context.start i m time) e = g.holds (Context.start i n time) e := by cases g <;> rfl
  simp only [Row.answers, hguard]
  rfl

theorem State.firesNone_start {s : State} {i m : Nat} {time : Time} {e : Event} (n : Nat)
    (h : s.firesNone (Context.start i m time) e) : s.firesNone (Context.start i n time) e := fun row hrow =>
  (row.answers_start i n m time e).trans (h row hrow)

theorem State.firesFirst_start {s : State} {i m : Nat} {time : Time} {e : Event} {row : Row} (n : Nat)
    (h : s.firesFirst (Context.start i m time) e row) : s.firesFirst (Context.start i n time) e row := by
  obtain ⟨above, below, hrows, hrow, habove⟩ := h
  exact ⟨above, below, hrows, (row.answers_start i n m time e).trans hrow,
    fun x hx => (x.answers_start i n m time e).trans (habove x hx)⟩

section
variable {s : State} {k : Nat} {e : Event}

theorem State.startTrial_context (h : s.freeContext = some k) (i : Nat) :
    (s.startTrial k i e).state.context k = some (Context.start i s.gestures.serial e.time) := by
  refine (State.context_setContext s k k _).trans ?_
  rw [if_pos rfl, if_pos (State.freeContext_lt h)]

/-- A template with no row for the TOUCHDOWN leaves nothing but its serial taken (R136). -/
theorem State.runTrial_declined (h : s.freeContext = some k) {i : Nat} (d : Touch)
    (hnone : s.firesNone (Context.start i s.gestures.serial e.time) e) :
    s.runTrial k i d e = (s.setSerial (serialAfter s.gestures.serial), false) := by
  have hcontext := State.startTrial_context (e := e) h i
  have hdiscard : (s.startTrial k i e).state.discardTrial k = s.setSerial (serialAfter s.gestures.serial) := by
    rw [State.discardTrial, State.giveUpAll_of_running hcontext]
    change ((s.setSerial (serialAfter s.gestures.serial)).setContext k (some _)).setContext k none = _
    refine Eq.trans ?_ (State.setContext_free (s := s.setSerial (serialAfter s.gestures.serial)) (State.freeContext_spec h))
    simp only [State.setContext, List.set_set]
  simp only [State.runTrial, Handling.handle_of_none hcontext hnone, Option.getD_none, Handling.succeeded, hcontext,
    hdiscard]
  rfl

theorem State.freeContext_setSerial (n : Nat) : (s.setSerial n).freeContext = s.freeContext := rfl

/-- Templates that decline take one serial each (R121, R136). -/
theorem State.tryTemplates_declined (h : s.freeContext = some k) (d : Touch) (front back : List Nat)
    (hnone : ∀ i ∈ front, s.firesNone (Context.start i 0 e.time) e) :
    State.tryTemplates d e s (front ++ back) =
      State.tryTemplates d e (s.setSerial (serialAfter^[front.length] s.gestures.serial)) back := by
  induction front generalizing s with
  | nil => rfl
  | cons i front ih =>
    have htrial := State.runTrial_declined h d (State.firesNone_start s.gestures.serial (hnone i (List.mem_cons_self ..)))
    rw [List.cons_append, State.tryTemplates]
    simp only [h, htrial, Bool.false_eq_true, if_false]
    exact ih (s := s.setSerial (serialAfter s.gestures.serial)) h fun j hj => hnone j (List.mem_cons_of_mem _ hj)

end

/-! ## A trial that claims the track (R136) -/

/-- An action that leaves the claims of its context. -/
def Action.keepsClaims (a : Action) : Prop := a ≠ .claim ∧ a ≠ .release ∧ a ≠ .releaseAll

/-- What follows a claim granted in a trial leaves the tracks, the other contexts and the rest of the engine; its
context runs on with its claims. -/
def State.followsTrial (base : State) (k : Nat) (c : Context) (t : State) : Prop :=
  t.tracks = base.tracks ∧ t.gestures.apart = base.gestures.apart ∧ (∀ j, j ≠ k → t.context j = base.context j) ∧
    ∃ x, t.context k = some x ∧ c.staysIn x ∧ x.claims = c.claims

section
variable {base t : State} {k : Nat} {c : Context}

theorem State.followsTrial.same {t' : State} (h : base.followsTrial k c t) (htracks : t'.tracks = t.tracks)
    (hgestures : t'.gestures = t.gestures) : base.followsTrial k c t' := by
  obtain ⟨ht, hapart, hothers, x, hx, hon⟩ := h
  have hcontext (j : Nat) : t'.context j = t.context j := State.context_of_gestures (congrArg _ hgestures) j
  exact ⟨htracks.trans ht, (congrArg _ hgestures).trans hapart, fun j hj => (hcontext j).trans (hothers j hj), x,
    (hcontext k).trans hx, hon⟩

theorem State.followsTrial.edit (h : base.followsTrial k c t) {f : Context → Context}
    (hf : ∀ x : Context, x.claims = c.claims → x.staysIn (f x) ∧ (f x).claims = c.claims) :
    base.followsTrial k c (t.onContext k f) := by
  obtain ⟨ht, hapart, hothers, x, hx, hon, hclaims⟩ := h
  obtain ⟨hstays, hkept⟩ := hf x hclaims
  rw [State.onContext_of_running hx]
  refine ⟨ht, hapart, fun j hj => ?_, f x, ?_, hon.trans hstays, hkept⟩
  · rw [State.context_setContext_of_running hx, if_neg hj, hothers j hj]
  · rw [State.context_setContext_of_running hx, if_pos rfl]

theorem State.followsTrial.emit (h : base.followsTrial k c t) (time : Time) (p : EmitPhase) (code : Nat) :
    base.followsTrial k c (t.emit time k p code) := by
  have hcancelled (x : Context) : base.followsTrial k c (if p = .begin then t.autoCancel time k x else t) := by
    split
    · exact h.same (by simp) (by simp)
    · exact h
  unfold State.emit
  split
  · exact h
  next x _ =>
    refine State.followsTrial.edit (((hcancelled x).same (by simp) (by simp))) fun y hy => ?_
    exact ⟨⟨⟨rfl, rfl, rfl⟩, rfl⟩, hy⟩

theorem State.pointerOn_tracks (s : State) (k : Nat) : (s.pointerOn k).tracks = s.tracks := by
  unfold State.pointerOn
  split
  · rfl
  · split
    · rfl
    · split <;> rfl

theorem State.pointerOff_tracks (s : State) (k : Nat) : (s.pointerOff k).tracks = s.tracks := by
  unfold State.pointerOff
  split
  · rfl
  · split <;> rfl

theorem State.button_tracks (s : State) (time : Time) (k n : Nat) (press : Bool) :
    (s.button time k n press).tracks = s.tracks := by
  unfold State.button State.actButton
  split
  · split
    · exact State.offerPointer_tracks _ _ _
    · split
      · exact State.offerPointer_tracks _ _ _
      · rfl
    · rfl
  · rfl

theorem ClaimEntry.settled_map {claims : List ClaimEntry} (h : ∀ x ∈ claims, x.anchor = x.pos) :
    claims.map (fun x => { x with anchor := x.pos }) = claims := by
  refine (List.map_congr_left fun x hx => ?_).trans (List.map_id claims)
  obtain ⟨track, pos, anchor, zone, dx, dy⟩ := x
  obtain rfl : anchor = pos := h _ hx
  rfl

/-- An action that keeps claims, on a context whose claims stand at their anchors. -/
theorem State.followsTrial.act (h : base.followsTrial k c t) (hsettled : ∀ x ∈ c.claims, x.anchor = x.pos) (e : Event)
    {a : Action} (ha : a.keepsClaims) : base.followsTrial k c (t.act k e a) := by
  obtain ⟨hclaim, hrelease, hall⟩ := ha
  cases a with
  | claim => exact absurd rfl hclaim
  | release => exact absurd rfl hrelease
  | releaseAll => exact absurd rfl hall
  | anchor =>
    refine h.edit fun x hx => ⟨⟨⟨rfl, rfl, rfl⟩, rfl⟩, ?_⟩
    exact (congrArg _ hx).trans (ClaimEntry.settled_map hsettled)
  | timerSet | timerStop | tap | tapClear | accStart | accStop =>
    exact h.edit fun x hx => ⟨⟨⟨rfl, rfl, rfl⟩, rfl⟩, hx⟩
  | emit p code => exact h.emit _ p code
  | pointerOn => exact h.same (t.pointerOn_tracks k) (t.pointerOn_gestures k)
  | pointerOff => exact h.same (t.pointerOff_tracks k) (t.pointerOff_gestures k)
  | button n press => exact h.same (t.button_tracks _ k n press) (t.button_gestures _ k n press)

theorem State.followsTrial.watchEntry (h : base.followsTrial k c t) (e : Event) :
    base.followsTrial k c (t.watchEntry k e) := by
  refine h.same ?_ (t.watchEntry_gestures k e)
  unfold State.watchEntry
  split
  · rfl
  · split
    · exact State.offerSnapshot_tracks _ _ _
    · rfl

/-- What a trial holds leaves claims alone. -/
def Held.keepsClaims : Held → Prop
  | .started _ => True
  | .action a => a.keepsClaims
  | .entered => True

theorem State.followsTrial.doHeld (h : base.followsTrial k c t) (hsettled : ∀ x ∈ c.claims, x.anchor = x.pos) (e : Event)
    {x : Held} (hx : x.keepsClaims) : base.followsTrial k c (State.doHeld k e t x) := by
  cases x with
  | started r => exact h.same (by simp [State.doHeld]) (by simp [State.doHeld])
  | action a => exact h.act hsettled e hx
  | entered => exact h.watchEntry e

/-- A trial after its claim, and what it holds. -/
def Handling.followsTrial (base : State) (k : Nat) (c : Context) (h : Handling) : Prop :=
  base.followsTrial k c h.state ∧ ∀ x ∈ h.held, x.keepsClaims

theorem Handling.followsTrial.act {h : Handling} (hh : h.followsTrial base k c)
    (hsettled : ∀ x ∈ c.claims, x.anchor = x.pos) (e : Event) {a : Action} (ha : a.keepsClaims) :
    (h.act true k e a).followsTrial base k c := by
  obtain ⟨hstate, hheld⟩ := hh
  unfold Handling.act
  split
  · refine ⟨hstate, fun x hx => ?_⟩
    obtain hx | hx := List.mem_append.mp hx
    · exact hheld x hx
    · rw [List.mem_singleton.mp hx]
      exact ha
  · exact ⟨hstate.act hsettled e ha, hheld⟩

theorem Handling.followsTrial.acts {h : Handling} (hh : h.followsTrial base k c)
    (hsettled : ∀ x ∈ c.claims, x.anchor = x.pos) (e : Event) {l : List Action} (hl : ∀ a ∈ l, a.keepsClaims) :
    (l.foldl (Handling.act true k e) h).followsTrial base k c := by
  induction l generalizing h with
  | nil => exact hh
  | cons a l ih =>
    exact ih (hh.act hsettled e (hl a (List.mem_cons_self ..))) fun b hb => hl b (List.mem_cons_of_mem _ hb)

theorem State.followsTrial.enter (h : base.followsTrial k c t) (next : Nat) :
    base.followsTrial k { c with state := next } (t.onContext k fun x => { x with state := next }) := by
  obtain ⟨ht, hapart, hothers, x, hx, ⟨hfollows, -⟩, hclaims⟩ := h
  rw [State.onContext_of_running hx]
  refine ⟨ht, hapart, fun j hj => ?_, { x with state := next }, ?_, ⟨hfollows, rfl⟩, hclaims⟩
  · rw [State.context_setContext_of_running hx, if_neg hj, hothers j hj]
  · rw [State.context_setContext_of_running hx, if_pos rfl]

theorem Handling.followsTrial.enter {h : Handling} (hh : h.followsTrial base k c) (e : Event) (from_ next : Nat) :
    (h.enter true k e from_ next).followsTrial base k { c with state := next } := by
  obtain ⟨hstate, hheld⟩ := hh
  have hentered := hstate.enter next
  simp only [Handling.enter]
  split
  · exact ⟨hentered, hheld⟩
  · refine ⟨hentered, fun x hx => ?_⟩
    obtain hx | hx := List.mem_append.mp hx
    · exact hheld x hx
    · rw [List.mem_singleton.mp hx]
      trivial

/-- What a trial held, done at its success. -/
theorem Handling.followsTrial.succeed {h : Handling} (hh : h.followsTrial base k c)
    (hsettled : ∀ x ∈ c.claims, x.anchor = x.pos) (e : Event) :
    base.followsTrial k c (h.held.foldl (State.doHeld k e) h.state) := by
  obtain ⟨hstate, hheld⟩ := hh
  generalize h.state = t at hstate
  generalize h.held = l at hheld
  induction l generalizing t with
  | nil => exact hstate
  | cons x l ih =>
    exact ih _ (hstate.doHeld hsettled e (hheld x (List.mem_cons_self ..))) fun y hy => hheld y (List.mem_cons_of_mem _ hy)

theorem Handling.followsTrial.succeeded {h : Handling} (hh : h.followsTrial base k c) {r : TrackRef}
    (hr : c.claimsTrack r = true) : h.succeeded k r = true := by
  obtain ⟨⟨-, -, -, x, hx, -, hclaims⟩, -⟩ := hh
  simp only [Handling.succeeded, hx, Option.any_some, Context.claimsTrack, hclaims]
  exact hr

end

/-- The claim entry of a TOUCHDOWN. -/
def Touch.claimEntry (d : Touch) : ClaimEntry := ⟨d.track, d.pos, d.pos, d.zone, 0, 0⟩

section
variable {s : State} {k i : Nat} {d : Touch} {time : Time} {row : Row} {rest : List Action} {x : Track}

/-- The context of a trial whose first action claimed the track. -/
def Touch.trialContext (d : Touch) (i n : Nat) (time : Time) : Context :=
  { Context.start i n time with claims := [d.claimEntry] }

/-- The state of a trial whose first action claimed the track. -/
def State.claimedTrial (s : State) (k i : Nat) (d : Touch) (time : Time) (x : Track) : State :=
  State.setContext { (s.startTrial k i (d.event time)).state with
    tracks := s.tracks.put d.track.slot (some { x with owner := some k }) } k
    (some (d.trialContext i s.gestures.serial time))

theorem State.startTrial_claim (hfree : s.freeContext = some k) (hroom : 1 ≤ (s.tables.active.template i).maxTracks)
    (hx : s.tracks.at d.track.slot = some x) (hid : x.id = d.track.id) (hclaimable : x.claimable = true) :
    (s.startTrial k i (d.event time)).state.claim k (d.event time) = s.claimedTrial k i d time x := by
  have hfits : (s.startTrial k i (d.event time)).state.fits (Context.start i s.gestures.serial time) d.track :=
    ⟨rfl, hroom⟩
  exact State.claim_grants (State.startTrial_context hfree i) rfl hfits hx hid hclaimable

/-- A trial whose row claims the track first and keeps its claims succeeds (R136). -/
theorem State.runTrial_claimed (hfree : s.freeContext = some k)
    (hfirst : s.firesFirst (Context.start i s.gestures.serial time) (d.event time) row)
    (hactions : row.actions = .claim :: rest) (hrest : ∀ a ∈ rest, a.keepsClaims) (hnext : row.next ≠ 0)
    (hroom : 1 ≤ (s.tables.active.template i).maxTracks) (hx : s.tracks.at d.track.slot = some x)
    (hid : x.id = d.track.id) (hclaimable : x.claimable = true) :
    ∃ t, s.runTrial k i d (d.event time) = (t, true) ∧ (s.claimedTrial k i d time x).followsTrial k
      { d.trialContext i s.gestures.serial time with state := row.next } t := by
  have hclaim := State.startTrial_claim (time := time) hfree hroom hx hid hclaimable
  have hcontext := State.startTrial_context (e := d.event time) hfree i
  have hsettled : ∀ y ∈ [d.claimEntry], y.anchor = y.pos := fun y hy => by
    rw [List.mem_singleton.mp hy]
    rfl
  have hgranted : ((s.startTrial k i (d.event time)).act true k (d.event time) .claim).followsTrial
      (s.claimedTrial k i d time x) k (d.trialContext i s.gestures.serial time) := by
    refine ⟨?_, fun y hy => ?_⟩
    · change State.followsTrial _ _ _ ((s.startTrial k i (d.event time)).state.claim k (d.event time))
      rw [hclaim]
      refine ⟨rfl, rfl, fun j _ => rfl, d.trialContext i s.gestures.serial time, ?_, Context.staysIn_self _, rfl⟩
      rw [State.claimedTrial, State.context_setContext_of_running (c := Context.start i s.gestures.serial time), if_pos rfl]
      exact hcontext
    · change y ∈ (s.startTrial k i (d.event time)).held at hy
      simp only [State.startTrial] at hy
      split at hy
      · rw [List.mem_singleton.mp hy]
        trivial
      · exact absurd hy List.not_mem_nil
  have hfired : ((s.startTrial k i (d.event time)).fire true k (d.event time) row).followsTrial
      (s.claimedTrial k i d time x) k { d.trialContext i s.gestures.serial time with state := row.next } := by
    simp only [Handling.fire, if_neg hnext, hactions, List.foldl_cons]
    exact (hgranted.acts hsettled _ hrest).enter _ _ _
  have hhandled : (s.startTrial k i (d.event time)).handle true k (d.event time) =
      some ((s.startTrial k i (d.event time)).fire true k (d.event time) row) :=
    Handling.handle_of_first hcontext hfirst
  refine ⟨_, ?_, hfired.succeed hsettled (d.event time)⟩
  have hsucceeded := hfired.succeeded (r := d.track) (by simp [Context.claimsTrack, Touch.trialContext, Touch.claimEntry])
  simp only [State.runTrial, hhandled, Option.getD_some, hsucceeded, if_true]

end

/-! ## A track that may not be claimed (R50, R122) -/

/-- The slot's track is not the named one, or may not be claimed, whoever owns it. -/
def State.unclaimable (s : State) (r : TrackRef) : Prop :=
  ∀ x, s.tracks.at r.slot = some x → x.id ≠ r.id ∨ x.cls = .palm ∨ x.state = .tentative ∨ ∃ cause, x.state = .ended cause

theorem State.engineKeeps.at {s t : State} (h : s.engineKeeps t) {n : Nat} {y : Track} (hy : t.tracks.at n = some y) :
    ∃ x, s.tracks.at n = some x ∧ x.id = y.id ∧ x.cls = y.cls ∧ x.state = y.state := by
  obtain ⟨-, -, -, -, -, -, -, -, -, -, hslots, -⟩ := h
  rw [TrackTable.at_eq_some] at hy
  have hslot := congrArg (fun l : List (Option Track) => l[n - (slotSurface n).firstSlot]?) (hslots (slotSurface n))
  simp only [List.getElem?_map, hy, Option.map_some] at hslot
  obtain ⟨z, hz, hzy⟩ := Option.map_eq_some_iff.mp hslot.symm
  obtain ⟨x, rfl, hxy⟩ := Option.map_eq_some_iff.mp hzy
  exact ⟨x, TrackTable.at_eq_some.mpr hz, (congrArg Track.id hxy :), (congrArg Track.cls hxy :),
    (congrArg Track.state hxy :)⟩

theorem State.engineKeeps.unclaimable {s t : State} (h : s.engineKeeps t) {r : TrackRef} (hr : s.unclaimable r) :
    t.unclaimable r := by
  intro y hy
  obtain ⟨x, hx, hid, hcls, hstate⟩ := h.at hy
  exact hid ▸ hcls ▸ hstate ▸ hr x hx

section
variable {held : Prop} {s t : State} {r : TrackRef}

/-- No move of the engine claims a track that may not be claimed. -/
theorem EngineMove.unclaimed (hmove : EngineMove held s t) (hr : s.unclaimable r) (h : ∀ j, r ∉ s.claimsOf j) (j : Nat) :
    r ∉ t.claimsOf j := by
  have hsame {a : State} (heq : a.gestures.contexts = s.gestures.contexts) : r ∉ a.claimsOf j :=
    State.claimsOf_of_contexts heq j ▸ h j
  cases hmove with
  | gesture | snapshot | pointer => exact hsame (by simp)
  | aside | releasePointer | setPointer | press | unpress | residues => exact hsame rfl
  | edit k c d hc htemplate hserial hclaims =>
    rw [State.claimsOf_setContext hc]
    split
    · rw [hclaims, ← State.claimsOf_of_running hc]
      exact h k
    · exact h j
  | place d => exact s.claimsOf_placeClaims d j ▸ h j
  | claim k c x e hc _ _ hx hid hclaimable =>
    have hother : r ≠ e.track := by
      rintro rfl
      obtain ⟨hstate, hcls, -⟩ := x.claimable_iff.mp hclaimable
      obtain hno | hpalm | htentative | ⟨cause, hended⟩ := hr x hx
      · exact hno hid
      · exact hcls hpalm
      · simp [htentative] at hstate
      · simp [hended] at hstate
    have hputs : (s.putTrack e.track.slot (some { x with owner := some k })).context k = some c := hc
    rw [State.grant, State.claimsOf_setContext hputs]
    split
    · rw [List.map_append, ← State.claimsOf_of_running hc, List.mem_append]
      exact fun hin => hin.elim (h k) fun hlast => hother (by simpa using hlast)
    · exact h j
  | giveUp k x =>
    rw [State.claimsOf_giveUp]
    split
    · exact fun hin => h k (List.mem_of_mem_filter hin)
    · exact h j
  | start k c hfree hclaims =>
    rw [State.claimsOf_setContext_of_empty (by rintro _ ⟨⟩; exact hclaims) (by simp [hfree])]
    exact h j
  | finish k hclaims =>
    rw [State.claimsOf_setContext_of_empty (fun c hc => by cases hc) hclaims]
    exact h j

theorem EngineMoves.unclaimed (hmoves : EngineMoves held s t) (hr : s.unclaimable r) (h : s.claimed r = false) :
    t.claimed r = false := by
  rw [State.not_claimed_iff] at h ⊢
  exact (hmoves.keep (P := fun x => s.engineKeeps x ∧ ∀ j, r ∉ x.claimsOf j)
    (fun x y hmove hx => ⟨hx.1.trans hmove.keeps, hmove.unclaimed (hx.1.unclaimable hr) hx.2⟩)
    ⟨State.engineKeeps.refl s, h⟩).2

end

end Sys2Proof.Machine

/-! O40: the free engine takes the earliest item and handles it by its rows and the offer chain (chapter 08). -/

namespace Sys2Proof.Machine

/-! ## Items taken (R124, R126, R134, R140) -/

theorem State.penInkTaken_leaves (s : State) (p : PenInk) :
    (State.noticeRises s (s.handlePenInk p)).gestures.penInk = none ∧
      (State.noticeRises s (s.handlePenInk p)).gestures.digests = s.gestures.digests ∧
      s.engineKeeps (State.noticeRises s (s.handlePenInk p)) := by
  have hapart := s.handlePenInk_apart p
  refine ⟨?_, ?_, (s.handlePenInk_keeps p).noticed s⟩
  · rw [State.noticeRises_gestures]
    exact (congrArg Gestures.penInk hapart :)
  · rw [State.noticeRises_gestures]
    exact (congrArg Gestures.digests hapart :)

theorem State.timerTaken_leaves (s : State) (k : Nat) (c : Option Context) (e : Event) :
    (State.noticeRises s ((s.setContext k c).deliver k e)).gestures.digests = s.gestures.digests ∧
      s.engineKeeps (State.noticeRises s ((s.setContext k c).deliver k e)) := by
  refine ⟨?_, ?_⟩
  · rw [State.noticeRises_gestures]
    exact (congrArg Gestures.digests ((s.setContext k c).deliver_apart k e) :)
  · have hset : s.engineKeeps (s.setContext k c) := State.engineKeeps_of_same rfl rfl rfl rfl
    exact (hset.trans ((s.setContext k c).deliver_keeps k e)).noticed s

/-! ## A TOUCHDOWN offered (R135 to R137) -/

section
variable {s : State} {d : Touch} {time : Time}

theorem State.offerTouch_of_full (hrun : s.link.part = .run)
    (hdeclined : ∀ k ∈ s.offerOrder d, ∀ c, s.context k = some c → s.firesNone c (d.event time))
    (hfree : s.claimed d.track = false) (hfull : ∀ r ∈ s.gestures.contexts, r ≠ none) : s.offerTouch time d = s := by
  rw [State.offerTouch_of_declined hrun hdeclined hfree]
  cases s.qualifying d with
  | nil => rfl
  | cons i back => simp only [State.tryTemplates, State.freeContext_eq_none hfull]

theorem State.offerTouch_of_no_row (hrun : s.link.part = .run)
    (hdeclined : ∀ k ∈ s.offerOrder d, ∀ c, s.context k = some c → s.firesNone c (d.event time))
    (hfree : s.claimed d.track = false) (hslot : ∃ r ∈ s.gestures.contexts, r = none)
    (hnone : ∀ i ∈ s.qualifying d, s.firesNone (Context.start i 0 time) (d.event time)) :
    s.offerTouch time d = s.setSerial (serialAfter^[(s.qualifying d).length] s.gestures.serial) := by
  obtain ⟨k, hk⟩ := State.freeContext_isSome hslot
  have htried := State.tryTemplates_declined (e := d.event time) hk d (s.qualifying d) [] hnone
  rw [List.append_nil] at htried
  rw [State.offerTouch_of_declined hrun hdeclined hfree, htried]
  rfl

/-- The template that claims the track starts a context in the lowest free slot (R136). -/
theorem State.offerTouch_starts {front back : List Nat} {i k : Nat} {row : Row} {rest : List Action} {x : Track}
    (hrun : s.link.part = .run)
    (hdeclined : ∀ k ∈ s.offerOrder d, ∀ c, s.context k = some c → s.firesNone c (d.event time))
    (hfree : s.claimed d.track = false) (hqualifying : s.qualifying d = front ++ i :: back)
    (hfront : ∀ j ∈ front, s.firesNone (Context.start j 0 time) (d.event time))
    (hfirst : s.firesFirst (Context.start i 0 time) (d.event time) row) (hactions : row.actions = .claim :: rest)
    (hrest : ∀ a ∈ rest, a.keepsClaims) (hnext : row.next ≠ 0)
    (hroom : 1 ≤ (s.tables.active.template i).maxTracks) (hslot : s.freeContext = some k)
    (hx : s.tracks.at d.track.slot = some x) (hid : x.id = d.track.id) (hclaimable : x.claimable = true) :
    ∃ c, (s.offerTouch time d).context k = some c ∧ c.template = i ∧
      c.serial = serialAfter^[front.length] s.gestures.serial ∧ c.state = row.next ∧ c.startTime = time ∧
      c.claims = [d.claimEntry] ∧
      (s.offerTouch time d).gestures.serial = serialAfter^[front.length + 1] s.gestures.serial ∧
      (s.offerTouch time d).tracks = s.tracks.put d.track.slot (some { x with owner := some k }) ∧
      ∀ j, j ≠ k → (s.offerTouch time d).context j = s.context j := by
  have htried := State.tryTemplates_declined (e := d.event time) hslot d front (i :: back) hfront
  generalize hserial : serialAfter^[front.length] s.gestures.serial = n at htried
  obtain ⟨t, htrial, htracks, hapart, hothers, c, hc, ⟨⟨htemplate, hnumber, hstart⟩, hstate⟩, hclaims⟩ :=
    State.runTrial_claimed (s := s.setSerial n) (time := time) hslot (State.firesFirst_start n hfirst) hactions hrest
      hnext hroom hx hid hclaimable
  have hoffered : s.offerTouch time d = t := by
    rw [State.offerTouch_of_declined hrun hdeclined hfree, hqualifying, htried, State.tryTemplates]
    simp only [State.freeContext_setSerial, hslot, htrial, if_true]
  rw [hoffered]
  refine ⟨c, hc, htemplate, hnumber, hstate, hstart, hclaims, ?_, htracks, fun j hj => ?_⟩
  · rw [Function.iterate_succ_apply', hserial]
    exact (congrArg Gestures.serial hapart :)
  · rw [hothers j hj, State.claimedTrial, State.context_setContext, if_neg hj]
    refine (State.context_setContext (s.setSerial n) k j _).trans ?_
    rw [if_neg hj]
    rfl

theorem State.offerTouch_unclaimed (h : s.claimed d.track = false) (hno : s.unclaimable d.track) :
    (s.offerTouch time d).claimed d.track = false :=
  (s.offerTouch_moves (held := False) time d False.elim).unclaimed hno h

end

/-- Settles O40: the items by what the engine's handling leaves, events by the first row that answers, and a TOUCHDOWN
by the offers in their order. -/
theorem engineItemsAreTaken : Obligations.EngineItemsAreTaken := by
  refine ⟨⟨?_, ?_, ?_, ?_⟩, ⟨State.mayTakeItem_iff, fun s => exec_digestTaken_idle, fun s => exec_penInkTaken_idle,
    fun s k => exec_timerExpiryTaken_idle, fun s => exec_digestHandlingEnd_idle⟩, ?_, Row.answers_iff, Guard.holds_iff, ?_, ?_⟩
  · intro s d rest hd hmay place placed told running handled
    have hplaced : (s.setInHand true).placeClaims d = placed := (s.setInHand true).placeClaims_eq d
    have htold : d.events.foldl (State.trackEvent d.surface d.time) ((s.setInHand true).placeClaims d) = told :=
      congrArg (d.events.foldl (State.trackEvent d.surface d.time)) hplaced
    have hhandled : (s.setInHand true).handleDigest d = handled := by
      simp only [State.handleDigest, htold, handled]
      cases d.kind <;> rfl
    obtain ⟨hhand, hdigests, hkeeps⟩ := s.digestTaken_leaves d
    rw [hhandled] at hhand hdigests hkeeps
    exact ⟨_, hhandled ▸ exec_digestTaken s hd hmay, rfl, hhand, hdigests, hkeeps⟩
  · exact fun s hhand => congrArg Host.Outcome.next (if_pos hhand)
  · intro s p hp hmay taken running
    exact ⟨_, exec_penInkTaken s hp hmay, rfl, s.penInkTaken_leaves p⟩
  · intro s k c timer w hc htimer hw hmay taken
    obtain ⟨hdigests, hkeeps⟩ := s.timerTaken_leaves k (some { c with timer := none }) (plainEvent .timer timer.deadline)
    refine ⟨_, exec_timerExpiryTaken s hc htimer hw hmay, rfl, hdigests, hkeeps, fun hnone => ?_⟩
    have hrunning : taken.context k = some { c with timer := none } := by
      rw [State.context_setContext_of_running hc, if_pos rfl]
    rw [State.deliver_of_none hrunning hnone]
    exact State.noticeRises_of_same rfl rfl
  · intro s k e
    exact ⟨State.deliver_of_free e, fun c hc => ⟨State.deliver_of_none hc, fun row hfirst =>
      State.deliver_fires hc hfirst⟩⟩
  · intro s u time r
    exact ⟨fun h => State.trackEvent_of_unclaimed h u time, fun k c front x back hc hclaims hx hothers hlower =>
      State.trackEvent_of_claimed hc hclaims hx hothers hlower u time, fun from_ => State.trackEvent_of_released u time from_⟩
  · intro s time d hlen offered e priority suits start serials declined unclaimed
    refine ⟨State.offerTouch_of_not_run, ⟨fun k => ?_, s.offerOrder_pairwise d⟩, ⟨fun i => ?_, s.qualifying_pairwise d⟩,
      ?_, ?_, ?_, ?_, State.offerTouch_unclaimed⟩
    · rw [State.mem_offerOrder hlen, State.isCandidate_iff]
      simp only [Template.accepts_iff]
      rfl
    · rw [State.mem_qualifying, Template.accepts_iff]
    · intro front k back horder hdeclined hfree hrun hclaimed
      refine State.offerTouch_of_candidate hrun horder hdeclined ?_ hfree hclaimed
      exact (State.mem_offerOrder hlen d k).mp (by rw [horder]; simp)
    · exact fun ⟨hdeclined, hfree, hrun⟩ hfull => State.offerTouch_of_full hrun hdeclined hfree hfull
    · exact fun ⟨hdeclined, hfree, hrun⟩ hslot hnone => State.offerTouch_of_no_row hrun hdeclined hfree hslot hnone
    · intro front i back k row rest x ⟨hdeclined, hfree, hrun⟩ hqualifying hfront hfirst hactions hrest hnext hroom hk hc
        hlower hx hid hstate hcls howner
      exact State.offerTouch_starts hrun hdeclined hfree hqualifying hfront hfirst hactions hrest hnext hroom
        (State.freeContext_eq (hlen ▸ hk) hc hlower) hx hid (x.claimable_iff.mpr ⟨hstate, hcls, howner⟩)

end Sys2Proof.Machine
